-- ==== Sys2Proof/Word.lean ====
section
/-! DEFINITION. The plain words of the part: bytes, card serials, challenges, keys, lane numbers, and a value kept for
each of the four lanes. -/

namespace Sys2Proof

/-- One byte of a host frame or of a card layout (R198, R201). -/
abbrev Byte := BitVec 8

/-- A card's 64-bit identity (R1). -/
abbrev Serial := BitVec 64

/-- A challenge, a response or a proof of a card exchange: 8 bytes each (R201). -/
abbrev Check := BitVec 64

/-- A key of the key store or a diversified key.  The spec gives a key no width; the wrapped key is 32 bytes (R186). -/
abbrev Key := BitVec 256

/-- One of the four lanes, 0 to 3. -/
abbrev Lane := Fin 4

/-- The four lanes in order. -/
def allLanes : List Lane := [0, 1, 2, 3]

/-- One value for each of the four lanes. -/
structure PerLane (α : Type) where
  l0 : α
  l1 : α
  l2 : α
  l3 : α
deriving DecidableEq, Repr

/-- The same value at every lane. -/
def PerLane.all {α : Type} (x : α) : PerLane α := ⟨x, x, x, x⟩

/-- The value at one lane. -/
def PerLane.get {α : Type} (p : PerLane α) : Lane → α
  | 0 => p.l0
  | 1 => p.l1
  | 2 => p.l2
  | 3 => p.l3

/-- Replace the value at one lane. -/
def PerLane.set {α : Type} (p : PerLane α) (l : Lane) (x : α) : PerLane α :=
  match l with
  | 0 => { p with l0 := x }
  | 1 => { p with l1 := x }
  | 2 => { p with l2 := x }
  | 3 => { p with l3 := x }

/-- The four values, lane 0 first. -/
def PerLane.toList {α : Type} (p : PerLane α) : List α := [p.l0, p.l1, p.l2, p.l3]

/-- Apply a function at every lane. -/
def PerLane.map {α β : Type} (p : PerLane α) (f : α → β) : PerLane β := ⟨f p.l0, f p.l1, f p.l2, f p.l3⟩

/-- One of the six beams of a lane: `0` is B1 and `5` is B6 (R140). -/
abbrev Beam := Fin 6

/-- One value for each of the six beams of a lane. -/
structure PerBeam (α : Type) where
  b1 : α
  b2 : α
  b3 : α
  b4 : α
  b5 : α
  b6 : α
deriving DecidableEq, Repr

/-- The same value at every beam. -/
def PerBeam.all {α : Type} (x : α) : PerBeam α := ⟨x, x, x, x, x, x⟩

/-- The value at one beam. -/
def PerBeam.get {α : Type} (p : PerBeam α) : Beam → α
  | 0 => p.b1
  | 1 => p.b2
  | 2 => p.b3
  | 3 => p.b4
  | 4 => p.b5
  | 5 => p.b6

/-- Replace the value at one beam. -/
def PerBeam.set {α : Type} (p : PerBeam α) (b : Beam) (x : α) : PerBeam α :=
  match b with
  | 0 => { p with b1 := x }
  | 1 => { p with b2 := x }
  | 2 => { p with b3 := x }
  | 3 => { p with b4 := x }
  | 4 => { p with b5 := x }
  | 5 => { p with b6 := x }

/-- The six values, B1 first. -/
def PerBeam.toList {α : Type} (p : PerBeam α) : List α := [p.b1, p.b2, p.b3, p.b4, p.b5, p.b6]

/-- Apply a function at every beam. -/
def PerBeam.map {α β : Type} (p : PerBeam α) (f : α → β) : PerBeam β :=
  ⟨f p.b1, f p.b2, f p.b3, f p.b4, f p.b5, f p.b6⟩

end Sys2Proof
end

