-- ==== Sys2Proof/Vocabulary.lean ====
section
/-! DEFINITION. The names the manual gives to states, results, kinds, reasons and events, one inductive type for each
closed list of names, in the order in which the owning rule lists them. -/

namespace Sys2Proof

/-- Lane kind (R134). -/
inductive LaneKind where
  | entry | exit
deriving DecidableEq, Repr

/-- Transaction kind (R7, R8). -/
inductive TxKind where
  | entry | exit | emergency
deriving DecidableEq, Repr

/-- Tap controller states (section 1.3, R7). -/
inductive TapPhase where
  | idle | identifying | authenticating | reading | evaluating | committing | quiet
deriving DecidableEq, Repr

/-- The block whose answer a tap controller in EVALUATING awaits (R18, R21). -/
inductive EvalStage where
  | resolution | screening | fare | reservation
deriving DecidableEq, Repr

/-- Result codes (R25), in the order of its table. -/
inductive ResultCode where
  | granted | grantedResumed | emergencyRelease | alreadyPassed | tapAgain | inDoubt | notAvailable | laneBusy
  | multipleCards | cardBusyElsewhere | foreignCard | unknownKeyVersion | cardNotGenuine | cardDataInvalid
  | cardExhausted | cardLocked | denylisted | suspect | cloneDetected | lowBalance | insufficientFunds
  | commitRefused | noJournalRoom
deriving DecidableEq, Repr

/-- Readiness reasons (R9): `ready` is the reported NONE. -/
inductive Readiness where
  | ready | timeNotSet | stationNotSet | noTariff | stationUnknown | journalFull | notInService
deriving DecidableEq, Repr

/-- Service states of a lane (section 7.2). -/
inductive Service where
  | closed | inService | draining | heldOpen | emergencyOpen | fault
deriving DecidableEq, Repr

/-- Fault causes of a lane (R136, R156). -/
inductive FaultCause where
  | jamOpening | jamClosing | bothLimits
deriving DecidableEq, Repr

/-- Leaf states (R152). -/
inductive LeafState where
  | closed | opening | opened | closing | jammed
deriving DecidableEq, Repr

/-- The two leaf-limit inputs of a lane (R140). -/
inductive Limit where
  | openLimit | closedLimit
deriving DecidableEq, Repr

/-- The three beam segments of a lane (R141). -/
inductive Segment where
  | approach | leaves | exit
deriving DecidableEq, Repr

/-- The level that means a blocked beam (R134). -/
inductive Polarity where
  | activeHigh | activeLow
deriving DecidableEq, Repr

/-- The five protected memories (R171). -/
inductive Memory where
  | journal | sighting | lists | tariff | templates
deriving DecidableEq, Repr

/-- The stored bits of an item against what was written: none changed, one changed, or two or more (R172). -/
inductive Integrity where
  | clean | single | double
deriving DecidableEq, Repr

/-- An armed error injection (R177). -/
inductive Injection where
  | single | double
deriving DecidableEq, Repr

/-- Card status (R1). -/
inductive CardStatus where
  | active | blocked
deriving DecidableEq, Repr

/-- Card trip state (R1). -/
inductive Trip where
  | outside | inside
deriving DecidableEq, Repr

/-- Change kind of a commit (R21). -/
inductive ChangeKind where
  | debit | lock | release
deriving DecidableEq, Repr

/-- Fare reason (R119, R200). -/
inductive FareReason where
  | none | leg | journey | dayCap | weekCap | penalty
deriving DecidableEq, Repr

/-- Admission class of journal records and reservations (R123). -/
inductive AdmissionClass where
  | ordinary | mandatory
deriving DecidableEq, Repr

/-- Journal record kinds (R120), numbered 1 to 21 in this order by R200. -/
inductive RecordKind where
  | entry | exit | entryWithPenalty | exitUnrecorded | emergencyExit | cardLocked | inDoubt | resolvedConfirmed
  | resolvedVoided | resolvedUnknown | doubtAbandoned | creditLapsed | creditCancelled | tailgate | intrusion
  | cloneDetected | denylistHit | authFailed | feedConflict | tariffSwitch | timeStep
deriving DecidableEq, Repr

/-- Named detail codes (R120), numbered 1 to 18 in this order by R200. -/
inductive DetailName where
  | authenticate | read | blockedSeen | debit | lock | release | reset | memoryError | fault | emergency | segmentL
  | segmentX | counterRegression | diverged | impossibleTravel | suspectListed | counterReused | remoteRegression
deriving DecidableEq, Repr

/-- A detail code: a named code, or a denylist reason code (R119). -/
inductive Detail where
  | named (d : DetailName)
  | reason (code : Nat)
deriving DecidableEq, Repr

/-- Denylist action (R30). -/
inductive DenyAction where
  | refuse | lock
deriving DecidableEq, Repr

/-- Reasons of a suspect list entry (R34). -/
inductive SuspectReason where
  | counterRegression | diverged | impossibleTravel | counterReused | remoteRegression
deriving DecidableEq, Repr

/-- Where a sighting or a finding comes from: a lane of this part, or a feed (R26, R34). -/
inductive Source where
  | lane (l : Lane)
  | feed
deriving DecidableEq, Repr

/-- The 29 event flags (R188). -/
inductive Event where
  | emergency | memoryUncorrected | cloneSuspect | denylistHit | journalFull
  | laneFault (l : Lane) | tailgate (l : Lane) | intrusion (l : Lane) | obstruction (l : Lane)
  | inDoubtAbandoned | journalHigh | tariffSwitched | tariffRuleOverrun | memoryCorrected | timeStep | linkError
  | resetDone
deriving DecidableEq, Repr

/-- Reply statuses (R181), numbered 0 to 5 in this order by R198. -/
inductive Status where
  | ok | clamped | busy | refused | badRequest | starting
deriving DecidableEq, Repr

/-- Reasons of a REFUSED reply (R181), numbered 1 to 9 in this order by R198. -/
inductive Reason where
  | denylistInvalid | timeNotSet | versionInUse | wrongState | segmentBlind | notConfigured | emergency | laneFault
  | keyCheckFailed
deriving DecidableEq, Repr

/-- States of the pending bank (R85). -/
inductive PendingState where
  | empty | loading | ready | invalid | scheduled | switching
deriving DecidableEq, Repr

/-- Validation results of TARIFF CLOSE (R85, R89). -/
inductive Validation where
  | none | headerRange | step | maxFare | ruleCount | bands | ruleChain | memoryError
deriving DecidableEq, Repr

/-- The two bank areas (R85). -/
inductive AreaId where
  | a | b
deriving DecidableEq, Repr

/-- The ten sections of a bank (R86). -/
inductive BankPart where
  | header | stations | baseFares | travelTimes | incompleteFares | unrecordedFares | bands | classes | holidays | rules
deriving DecidableEq, Repr

/-- The nine fields a rule condition may test (R63). -/
inductive RuleField where
  | originStation | destStation | originZone | destZone | cls | dayType | originMinute | dwellMinutes | sameStation
deriving DecidableEq, Repr

/-- The five rule actions (R63, R65). -/
inductive RuleAction where
  | setBase | addBase | setFactor | setDiscount | stop
deriving DecidableEq, Repr

/-- Day types (R58). -/
inductive DayType where
  | weekday | saturday | sundayHoliday
deriving DecidableEq, Repr

/-- Field slot kinds of a template (R161). -/
inductive SlotKind where
  | fare | balance
deriving DecidableEq, Repr

/-- Keys of the result map (R163): a result code, or one of four state keys. -/
inductive DisplayKey where
  | result (r : ResultCode)
  | idle | closed | emergency | obstruction
deriving DecidableEq, Repr

/-- Reset causes (R191). -/
inductive ResetCause where
  | powerOn | resetLine | resetCommand
deriving DecidableEq, Repr

/-- Retention results (R194). -/
inductive RetentionResult where
  | retained | tablesLost
deriving DecidableEq, Repr

/-- What the part as a whole is doing (R191, R193, R183): without main supply, held by the RESET input, in start-up
(the settle interval running), or in service. -/
inductive PartPhase where
  | unpowered | held | startUp | running
deriving DecidableEq, Repr

/-- Progress of an accepted RESET request (R181, R192): none; its reply not yet sent; the RESET_COMMAND wait. -/
inductive ResetStage where
  | none | replying | waiting
deriving DecidableEq, Repr

/-- The answer of screening other than CLEAR and a LOCK request (R37). -/
inductive ScreenRefusal where
  | cardLocked | denylisted | suspect | cloneDetected | cardExhausted | cardDataInvalid
deriving DecidableEq, Repr

end Sys2Proof
end

