-- ==== Sys2Proof/Syntax.lean ====
section
/-! DEFINITION. The commands the part takes, one constructor per row of spec/opcode_table.json, with their operands.

Host requests carry their body fields at the width the body layout gives them (R198, R199), so that a field may hold a value
its owning rule refuses or clamps.  The IDENTIFY and READ answers carry their bytes as they stand on the reader port (R201).  Steps of one lane carry the
lane, which is a port of the part and so is always one of the four. -/

namespace Sys2Proof

/-- The settings a LANE CONFIG carries, at their body widths (R134). -/
structure LaneSettings where
  kind : Byte
  creditLapse : Byte
  closeDelay : BitVec 16
  leafTravel : BitVec 16
  obstruction : Byte
  debounce : Byte
  mask : Byte
  polarity : Byte
  startDuty : BitVec 16
  runDuty : BitVec 16
  holdDuty : BitVec 16
  startPhase : BitVec 16
  indicatorHold : BitVec 16
deriving DecidableEq, Repr

/-- One item of a TARIFF WRITE (R86, R88).  The shape says which kind of section the item was laid out for. -/
inductive TariffItem where
  /-- a header field, a fare, a travel time or a holiday -/
  | number (v : Nat)
  /-- a station's zone; none is UNUSED -/
  | zone (z : Option Nat)
  /-- a time band -/
  | band (start factor : Nat)
  /-- a class -/
  | cls (discount dailyCap weeklyCap : Nat)
  /-- a rule, its field, chain flag and action as the body's bytes give them -/
  | rule (field : Byte) (low high : Nat) (chain : Byte) (action : Byte) (value : Int)
deriving DecidableEq, Repr

/-- One item of a DENY ADD (R31). -/
structure DenyItem where
  serial : Serial
  action : Byte
  reason : Byte
deriving DecidableEq, Repr

/-- One item of a FEED SIGHTINGS, its time already formed from the base time and the age (R46, R199). -/
structure FeedItem where
  serial : Serial
  counter : Nat
  station : Nat
  time : Nat
  purse : Option Int
deriving DecidableEq, Repr

/-- One display cell as a TEMPLATE WRITE carries it (R162). -/
structure RawCell where
  glyph : Byte
  colour : Byte
deriving DecidableEq, Repr

/-- One field slot as a TEMPLATE WRITE carries it (R162). -/
structure RawSlot where
  kind : Byte
  line : Byte
  rightEnd : Byte
  width : Byte
deriving DecidableEq, Repr

/-- The IDENTIFY answer: offsets 0 to 11 of the card image (R2, R201). -/
structure IdentifyAnswer where
  serial : Serial
  network : BitVec 16
  keyVersion : Byte
  status : Byte
deriving DecidableEq, Repr

/-- The 48-byte card image as it stands on the reader port (R201), field by field in the order of its layout. -/
structure RawImage where
  serial : Serial
  network : BitVec 16
  keyVersion : Byte
  status : Byte
  cls : Byte
  classExpiry : BitVec 16
  purse : BitVec 24
  counter : BitVec 24
  trip : Byte
  entryStation : Byte
  entryTime : BitVec 32
  journeyStation : Byte
  journeyTime : BitVec 32
  journeyCharged : BitVec 16
  lastExitStation : Byte
  lastExitTime : BitVec 32
  lastExitPenalty : Byte
  accDay : BitVec 16
  daily : BitVec 16
  accWeek : BitVec 16
  weekly : BitVec 16
deriving DecidableEq, Repr

/-- A record's flag set (R122). -/
structure RecordFlags where
  ruleOverrun : Bool
  unknownStation : Bool
  classExpired : Bool
  clockBehind : Bool
  denylistUnchecked : Bool
  receiptBad : Bool
deriving DecidableEq, Repr

/-- The empty flag set. -/
def RecordFlags.empty : RecordFlags := ⟨false, false, false, false, false, false⟩

/-- A journal record (R119) without its sequence, which follows from its place (R118, R131).  A field the record's kind does
not carry is `none`.  `prior` is `some none` for a prior version of NONE. -/
structure JournalRecord where
  kind : RecordKind
  time : Nat
  lane : Option Lane
  serial : Option Serial
  counter : Option Nat
  station : Option Nat
  reportedTime : Option Nat
  secondCounter : Option Nat
  secondStation : Option Nat
  secondTime : Option Nat
  source : Option Source
  charge : Option Nat
  purse : Option Int
  fareReason : Option FareReason
  version : Option Nat
  prior : Option (Option Nat)
  flags : Option RecordFlags
  reference : Option Nat
  detail : Option Detail
  action : Option DenyAction
deriving DecidableEq, Repr

/-- A record of a kind at a lane, carrying nothing else yet. -/
def JournalRecord.blank (k : RecordKind) (l : Option Lane) : JournalRecord :=
  ⟨k, 0, l, none, none, none, none, none, none, none, none, none, none, none, none, none, none, none, none, none⟩

/-- The commands, one constructor for each row of the table of operations and events. -/
inductive Instr where
  -- host requests (R181)
  | statusGet (selector lane : Byte)
  | timeSet (time : BitVec 32)
  | timeGet
  | stationSet (station : Byte) (network skew : BitVec 16) (timeout : Byte)
  | laneConfig (lane : Byte) (settings : LaneSettings)
  | laneServiceIn (lane : Byte)
  | laneServiceOut (lane : Byte)
  | laneServiceHoldOpen (lane : Byte)
  | tariffBegin (version : BitVec 16)
  | tariffWrite (part : Byte) (start : BitVec 16) (items : List TariffItem)
  | tariffClose
  | tariffActivate (time : BitVec 32)
  | tariffStatus
  | keyLoad (slot version : Byte) (wrapped : BitVec 256)
  | denyAdd (items : List DenyItem)
  | denyRemove (serials : List Serial)
  | denyClear
  | suspectRead (position : BitVec 16) (count : Byte)
  | suspectClear (serial : Serial)
  | feedSightings (items : List FeedItem)
  | journalRead (start : BitVec 32) (count : Byte)
  | journalRelease (upto : BitVec 32)
  | eventsPeek
  | eventsTake
  | eventsEnable (flags : BitVec 32)
  | templateWrite (number : Byte) (cells : List RawCell) (slots : List RawSlot)
  | resultMap (items : List (Byte × Byte))
  | eccCounts (clear : Byte)
  | eccInject (memory kind : Byte)
  | reset
  | unknownKind (kind : Byte) (body : List Byte)
  -- host link (R179, R180, R192)
  | frameReceived (bytes : List Byte)
  | interByteGapTimeout
  | replySent
  | resetCommandWaitEnd
  -- reader reports and the tap transaction (chapter 1)
  | cardPresent (lane : Lane)
  | multipleCards (lane : Lane)
  | fieldEmpty (lane : Lane)
  | noAnswer (lane : Lane)
  | exchangeTimeout (lane : Lane)
  | wrongTypeAnswer (lane : Lane)
  | identifyAnswer (lane : Lane) (answer : Vector Byte 12)
  | authenticateAnswer (lane : Lane) (response : Check)
  | readAnswer (lane : Lane) (image : Vector Byte 48) (proof : Vector Byte 8)
  | resolutionLookup (lane : Lane)
  | screeningRequest (lane : Lane)
  | fareRequest (lane : Lane)
  | reservationRequest (lane : Lane)
  | receipt (lane : Lane) (counter : BitVec 24) (proof : Check)
  | refusedCounter (lane : Lane)
  | refusedExhausted (lane : Lane)
  | cardUpdate (lane : Lane) (serial : Serial) (counter : BitVec 24) (purse : Int) (trip : Trip)
  | recordAppend (cls : AdmissionClass) (record : JournalRecord)
  | creditGrant (lane : Lane) (serial : Serial)
  | clockTick
  -- lane inputs and lane timers (chapter 7)
  | beamLevelChange (lane : Lane) (beam : Beam) (high : Bool)
  | beamDebounceExpiry (lane : Lane) (beam : Beam)
  | limitLevelChange (lane : Lane) (limit : Limit) (high : Bool)
  | limitDebounceExpiry (lane : Lane) (limit : Limit)
  | emergencyLevelChange (asserted : Bool)
  | emergencyAssert
  | emergencyReleaseLine
  | creditLapse (lane : Lane) (position : Fin 2)
  | closeDelayExpiry (lane : Lane)
  | startPhaseExpiry (lane : Lane)
  | leafTravelTimeout (lane : Lane)
  | obstructionTimerExpiry (lane : Lane)
  -- lane indicators (chapter 8)
  | indicatorResult (lane : Lane) (code : ResultCode) (charge : Option Nat) (purse : Option Int)
  | indicatorStateChange (lane : Lane) (state : Service)
  | indicatorObstruction (lane : Lane) (started : Bool)
  | indicatorHoldExpiry (lane : Lane)
  | displaySendComplete (lane : Lane)
  -- supply, reset and start-up (chapter 11) and received bytes (R179)
  | powerOn
  | resetLineAssert
  | resetLineRelease
  | settleIntervalExpiry
  | syncReceived (byte : Byte)
  | lenReceived (high low : Byte)
  | mainSupplyLoss
  | retentionDomainLoss
deriving DecidableEq, Repr

end Sys2Proof
end

