-- ==== Sys2Proof/Decode.lean ====
section
/-! DEFINITION. The table of commands gives none of its rows bits, so no word spells a command (log entry 2).  The requests that the
bytes of a host frame spell are read by `Sys2Proof.Machine.decodeRequest`. -/

namespace Sys2Proof

/-- The command a word of the table's bits spells: none, since no row has bits. -/
def decodeTableWord (nbits w : Nat) : Option Instr :=
  match nbits, w with
  | _, _ => none

end Sys2Proof
end

