-- ==== Sys2Proof/Card.lean ====
section
/-! DEFINITION. The card as the part holds it once the bytes of R201 are decoded: the fields a COMMIT writes and the fields it
does not (R1). -/

namespace Sys2Proof

/-- The card fields marked as written at COMMIT, in the order of R1. -/
structure Written where
  status : CardStatus
  purse : Int
  trip : Trip
  entryStation : Nat
  entryTime : Nat
  journeyStation : Nat
  journeyTime : Nat
  journeyCharged : Nat
  lastExitStation : Nat
  lastExitTime : Nat
  lastExitPenalty : Bool
  accDay : Nat
  daily : Nat
  accWeek : Nat
  weekly : Nat
deriving DecidableEq, Repr

/-- The card image of R1: the fields the part never writes, and the written fields. -/
structure CardImage where
  serial : Serial
  network : Nat
  keyVersion : Nat
  cls : Nat
  classExpiry : Nat
  counter : Nat
  w : Written
deriving DecidableEq, Repr

/-- What the keyed check function is taken over in each of its four uses (R2, R3). -/
inductive CheckInput where
  /-- the AUTHENTICATE response: over the challenge -/
  | response (challenge : Check)
  /-- the READ proof: over the image as answered and the challenge -/
  | readProof (image : RawImage) (challenge : Check)
  /-- the COMMIT proof: over the serial, the expected counter, the new values and the challenge -/
  | commitProof (serial : Serial) (expected : Nat) (values : Written) (challenge : Check)
  /-- the receipt proof: over the serial, the new counter and the challenge -/
  | receiptProof (serial : Serial) (counter : Nat) (challenge : Check)
deriving DecidableEq, Repr

/-- An exchange handed to a reader port (R2, R3). -/
inductive Exchange where
  | identify
  | authenticate (challenge : Check)
  | read
  | commit (expected : Nat) (values : Written) (proof : Check)
deriving DecidableEq, Repr

end Sys2Proof
end

