-- ==== Sys2Proof/Config.lean ====
section
/-! DEFINITION. The values the manual leaves open, each an uninterpreted constant: nothing in Lean can evaluate one, so a
statement that mentions one holds whatever the part's own value is.  Log entries 5, 6, 7, 26
and 31. -/

namespace Sys2Proof

/-- The keyed check function, fixed in the part; the manual does not give its construction (00_scope, R2). -/
opaque Config.keyedCheck : Key → CheckInput → Check

/-- The diversified key, computed from a slot's key and a card's serial (R6); its computation is not given. -/
opaque Config.diversify : Key → Serial → Key

/-- Unwrapping of a wrapped key with the factory transport key; `none` when the integrity check, which covers the key and
the version, fails (R186).  The transport key and the check are not given. -/
opaque Config.unwrapKey : BitVec 256 → Nat → Option Key

/-- The challenges the random source gives, by draw (R6). -/
opaque Config.challenge : Nat → Check

/-- Milliseconds left on a running timer as a STATUS GET reads it, by draw (R160, R164): the model counts no milliseconds. -/
opaque Config.millisecondsLeft : Nat → Nat

/-- What a tap controller takes an uncorrectable resume window as, by draw: R96 gives no value for that reader (log entry 26). -/
opaque Config.damagedWindow : Nat → Nat

/-- The factor of a band lookup that finds no band in use, by minute: only a damaged band count, taken as 0, leaves none (R55, R59). -/
opaque Config.factorWithoutBand : Nat → Nat

/-- Whether the later of two bands with one start wins a band lookup, by minute: only a damaged band, taken as 0, makes a tie. -/
opaque Config.laterOfTiedBands : Nat → Bool

end Sys2Proof
end

