-- ==== Sys2Proof/Machine/State.lean ====
section
/-! DEFINITION. The state of the part, block by block as the manual's block overview lists them, the reasons a command can
stop, and the state right after a reset. -/

namespace Sys2Proof.Machine

/-- Reasons the part stops.  No command of this part faults: the manual gives every step an effect. -/
inductive Fault where
deriving DecidableEq

/-- Reasons a command has no meaning in this model. -/
inductive Refusal where
  /-- raised by the dispatch for a command without a meaning; safe: the model stops where the part goes on -/
  | notModelled (mnemonic : String)
deriving DecidableEq, Repr

/-- An item of a protected memory: its content as written, and how many of its stored bits have changed since (R172). -/
structure Stored (α : Type) where
  val : α
  bits : Integrity
deriving DecidableEq, Repr

/-! ### Host link (chapter 10) -/

/-- The receiver: HUNTING, or IN_FRAME with the bytes received after SYNC (R179). -/
inductive Receiver where
  | hunting
  | inFrame (got : List Byte)
deriving DecidableEq, Repr

/-- A request in the receive queue (R180); `answered` from the forming of its reply until the reply has been sent. -/
structure QueuedRequest where
  kind : Byte
  tag : Byte
  body : List Byte
  answered : Bool
deriving DecidableEq, Repr

/-- What a block answers to a request: the status, the reason of a REFUSED reply, and the bytes after them (R181). -/
structure Answer where
  status : Status
  reason : Option Reason
  body : List Byte
deriving DecidableEq, Repr

/-- A reply formed and placed for sending (R180).  `tag` is none, and no queue place is held, for a request handed to its
block other than from the receive queue (log entry 3). -/
structure Reply where
  kind : Byte
  tag : Option Byte
  answer : Answer
  holdsPlace : Bool
  beginsWait : Bool
deriving DecidableEq, Repr

/-- The five link counters (R182). -/
structure LinkCounters where
  accepted : Nat
  lengthErrors : Nat
  gapErrors : Nat
  crcErrors : Nat
  overflows : Nat
deriving DecidableEq, Repr

/-- Host link state (R179 to R182). -/
structure Link where
  receiver : Receiver
  queue : List QueuedRequest
  replies : List Reply
  counters : LinkCounters
  reset : ResetStage
deriving DecidableEq, Repr

/-! ### Event unit, station clock, settings, keys (chapter 10) -/

/-- The 29 event flags and their enables; bit 0 is the flag of priority 1 (R188, R190). -/
structure Events where
  pending : BitVec 29
  enabled : BitVec 29
deriving DecidableEq, Repr

/-- The station clock (R183). -/
structure Clock where
  time : Nat
  timeSet : Bool
deriving DecidableEq, Repr

/-- The station settings and the station-set mark (R185).  The two codes mean nothing while the mark is clear. -/
structure Settings where
  station : Nat
  network : Nat
  skew : Nat
  timeout : Nat
  isSet : Bool
deriving DecidableEq, Repr

/-- A loaded key slot (R186). -/
structure KeySlot where
  version : Nat
  key : Key
deriving DecidableEq, Repr

/-! ### Tariff store (chapter 4) -/

/-- A time band: start minute and factor (R86). -/
structure Band where
  start : Nat
  factor : Nat
deriving DecidableEq, Repr

/-- A class of the tariff (R86). -/
structure TariffClass where
  discount : Nat
  dailyCap : Nat
  weeklyCap : Nat
deriving DecidableEq, Repr

/-- A rule program entry (R63). -/
structure Rule where
  field : RuleField
  low : Nat
  high : Nat
  chain : Bool
  action : RuleAction
  value : Int
deriving DecidableEq, Repr

/-- A tariff bank's ten sections, each an item at each index (R86); a station's zone of none is UNUSED. -/
structure Bank where
  header : List (Stored Nat)
  stations : List (Stored (Option Nat))
  baseFares : List (Stored Nat)
  travelTimes : List (Stored Nat)
  incompleteFares : List (Stored Nat)
  unrecordedFares : List (Stored Nat)
  bands : List (Stored Band)
  classes : List (Stored TariffClass)
  holidays : List (Stored Nat)
  rules : List (Stored Rule)
deriving DecidableEq, Repr

/-- A bank area: its bank and the version given to it (R85). -/
structure Area where
  bank : Bank
  version : Option Nat
deriving DecidableEq, Repr

/-- The tariff store (R85).  The active version is the version of the ACTIVE area, the pending version that of the other. -/
structure TariffStore where
  areaA : Area
  areaB : Area
  active : AreaId
  usable : Bool
  pending : PendingState
  effective : Option Nat
  validation : Validation
deriving DecidableEq, Repr

/-! ### Screening unit (chapter 2) -/

/-- A sighting table entry (R26). -/
structure Sighting where
  serial : Serial
  counter : Nat
  purse : Option Int
  station : Nat
  time : Nat
  source : Source
  trip : Option Trip
deriving DecidableEq, Repr

/-- A denylist entry (R30). -/
structure DenyEntry where
  serial : Serial
  action : DenyAction
  reason : Nat
deriving DecidableEq, Repr

/-- A suspect list entry (R34). -/
structure SuspectEntry where
  serial : Serial
  reason : SuspectReason
  time : Nat
  foundAt : Source
deriving DecidableEq, Repr

/-- The screening counters (R51), in the order of its table. -/
structure ScreenCounters where
  screened : Nat
  clear : Nat
  blocked : Nat
  denylistHits : Nat
  suspectHits : Nat
  regressions : Nat
  divergences : Nat
  travelFindings : Nat
  exhausted : Nat
  imageInvalid : Nat
  unchecked : Nat
  pushOuts : Nat
  evictions : Nat
  heldBack : Nat
  feedInserted : Nat
  feedReplaced : Nat
  feedStale : Nat
  feedConflicts : Nat
  feedClamped : Nat
deriving DecidableEq, Repr

/-- The screening unit's three collections and its counters.  Sightings stand least recently updated first (R26), the denylist
in ascending order of serial (R30), the suspect list oldest first (R34). -/
structure Screening where
  sightings : List (Stored Sighting)
  denylist : List (Stored DenyEntry)
  denyValid : Bool
  suspects : List (Stored SuspectEntry)
  counters : ScreenCounters
deriving DecidableEq, Repr

/-! ### In-doubt list (chapter 5) and trip journal (chapter 6) -/

/-- An in-doubt entry (R100).  The expected counter is `counterBefore + 1`; `opened` is the state OPEN, its absence PROVISIONAL. -/
structure DoubtEntry where
  serial : Serial
  lane : Lane
  change : ChangeKind
  counterBefore : Nat
  purse : Int
  trip : Trip
  status : CardStatus
  fareReason : FareReason
  version : Option Nat
  created : Nat
  opened : Bool
  sequence : Option Nat
  intended : ResultCode
  charge : Nat
deriving DecidableEq, Repr

/-- The in-doubt list, oldest first, and the part of the LISTS header that marks each lane's PROVISIONAL entry (R100, R195). -/
structure Doubt where
  entries : List (Stored DoubtEntry)
  header : PerLane (Option ChangeKind)
deriving DecidableEq, Repr

/-- The trip journal (R117): the held records, oldest first; the place of the oldest; the next sequence; reservations; losses. -/
structure Journal where
  records : List (Stored JournalRecord)
  oldestPlace : Nat
  nextSequence : Nat
  reservations : PerLane (Option AdmissionClass)
  lostOrdinary : Nat
  lostMandatory : Nat
deriving DecidableEq, Repr

/-! ### Tap controller (chapter 1) -/

/-- What the tap controller of a lane has in hand for a commit: the change kind, the counter as read, the values it sends or
will send, and what its record carries (R21, R101, R105, R115). -/
structure CommitWork where
  change : ChangeKind
  counterBefore : Nat
  values : Written
  charge : Nat
  fareReason : FareReason
  version : Option Nat
  lockReason : Nat
deriving DecidableEq, Repr

/-- The one exchange outstanding on a port, with the time its exchange timer runs for (R4, R5). -/
structure Outstanding where
  exchange : Exchange
  timer : Nat
deriving DecidableEq, Repr

/-- Tap controller state (R7).  `stage`, `flags` and `work` hold what the manual implies: the block whose answer is awaited in
EVALUATING, the flags gathered so far (R122), and the commit in hand. -/
structure Tap where
  phase : TapPhase
  present : Bool
  kind : Option TxKind
  bound : Option AreaId
  inFlight : Option Serial
  ident : Option IdentifyAnswer
  key : Option Key
  challenge : Option Check
  image : Option CardImage
  outstanding : Option Outstanding
  lastResult : Option ResultCode
  stage : Option EvalStage
  flags : RecordFlags
  work : Option CommitWork
deriving DecidableEq, Repr

/-! ### Passage controller (chapter 7) -/

/-- Lane configuration as applied (R134); the kind is absent in an unconfigured lane. -/
structure LaneConfig where
  kind : Option LaneKind
  creditLapse : Nat
  closeDelay : Nat
  leafTravel : Nat
  obstruction : Nat
  debounce : Nat
  mask : BitVec 6
  polarity : Polarity
  startDuty : Nat
  runDuty : Nat
  holdDuty : Nat
  startPhase : Nat
  indicatorHold : Nat
deriving DecidableEq, Repr

/-- A debounced input: its level, its accepted state, and its debounce timer, which holds the time it was started with (R140).
For a beam the accepted state is "BLOCKED", for a limit or the EMERGENCY line "asserted". -/
structure Input where
  high : Bool
  accepted : Bool
  timer : Option Nat
deriving DecidableEq, Repr

/-- A credit (R142); the lapse timer holds the time it was started with while it runs. -/
structure Credit where
  serial : Serial
  inUse : Bool
  lapse : Option Nat
deriving DecidableEq, Repr

/-- A passage in progress (R145), by the serial of its credit; none for a free passage. -/
structure Passage where
  credit : Option Serial
  marked : Bool
  tailgate : Bool
deriving DecidableEq, Repr

/-- The leaf drive (R152): the leaf state, the three running timers, whether a close is paused, and the drive profile that the latest
movement started with: its start and run duties, and the hold duty it leads to (R135). -/
structure Leaf where
  state : LeafState
  startPhase : Option Nat
  travel : Option Nat
  closeDelay : Option Nat
  paused : Bool
  moveStart : Nat
  moveRun : Nat
  moveHold : Nat
deriving DecidableEq, Repr

/-- Statistics counters of a lane (R159); `results` has one counter for each result code from the third of R25 on. -/
structure Stats where
  grants : Nat
  credited : Nat
  free : Nat
  lapses : Nat
  cancellations : Nat
  results : List Nat
deriving DecidableEq, Repr

/-- A lane's passage controller (R134 to R160). -/
structure Passages where
  config : LaneConfig
  configured : Bool
  service : Service
  faultCause : Option FaultCause
  beams : PerBeam Input
  openLimit : Input
  closedLimit : Input
  credits : List Credit
  passages : List Passage
  latch : Bool
  intrusionOpen : Bool
  obstruction : Option Nat
  obstructionReported : Bool
  leaf : Leaf
  stats : Stats
deriving DecidableEq, Repr

/-! ### Indicator unit (chapter 8) -/

/-- A display cell (R161). -/
structure DispCell where
  glyph : Nat
  colour : Nat
deriving DecidableEq, Repr

/-- A field slot (R161). -/
structure Slot where
  kind : SlotKind
  line : Nat
  rightEnd : Nat
  width : Nat
deriving DecidableEq, Repr

/-- A template: 32 cells, line 0 first, and up to two field slots (R161). -/
structure Template where
  cells : List DispCell
  slots : List Slot
deriving DecidableEq, Repr

/-- A held result (R164). -/
structure HeldResult where
  code : ResultCode
  charge : Option Nat
  purse : Option Int
deriving DecidableEq, Repr

/-- The indicator unit's state for one lane (R164).  `sending` is the frame of the send under way; none while the link is IDLE. -/
structure Indicator where
  service : Service
  obstructed : Bool
  held : Option HeldResult
  holdTimer : Option Nat
  shown : DisplayKey
  frame : List DispCell
  sending : Option (List DispCell)
  resend : Bool
deriving DecidableEq, Repr

/-- The TEMPLATES memory: the 48 templates, and the 27 result map entries in the order of R163. -/
structure Display where
  templates : List (Stored Template)
  map : List (Stored Nat)
deriving DecidableEq, Repr

/-! ### Memory check unit (chapter 9), retention and start-up (chapter 11) -/

/-- The memory check unit's state for one memory (R173, R177). -/
structure MemoryUnit where
  corrected : Nat
  uncorrected : Nat
  armed : Option Injection
deriving DecidableEq, Repr

/-- The memory check unit: one unit for each memory of R171. -/
structure Ecc where
  journal : MemoryUnit
  sighting : MemoryUnit
  lists : MemoryUnit
  tariff : MemoryUnit
  templates : MemoryUnit
deriving DecidableEq, Repr

/-- The retention marker and the area headers (R194): whether each holds what start-up expects, and its stored bits.  `settings`
is the header of the area of the clock, settings, keys and lane configurations. -/
structure Retention where
  marker : Stored Bool
  journal : Stored Bool
  sighting : Stored Bool
  lists : Stored Bool
  tariff : Stored Bool
  settings : Stored Bool
deriving DecidableEq, Repr

/-- One lane: its tap controller, its passage controller and its indicator. -/
structure LaneUnit where
  tap : Tap
  gate : Passages
  ind : Indicator
deriving DecidableEq, Repr

/-- The whole part, and the queue of commands waiting, first in, first out.  `cause` is the cause of the last reset, `report` the
start-up report (R197), `resetLine` the RESET input; `draws` counts the free values taken so far and is the model's own. -/
structure State where
  pending : List Instr
  phase : PartPhase
  cause : ResetCause
  report : Option (ResetCause × RetentionResult)
  resetLine : Bool
  emergency : Input
  link : Link
  events : Events
  clock : Clock
  settings : Settings
  keys : List (Option KeySlot)
  tariff : TariffStore
  screening : Screening
  doubt : Doubt
  journal : Journal
  lanes : PerLane LaneUnit
  display : Display
  ecc : Ecc
  retention : Retention
  draws : Nat
deriving DecidableEq, Repr

/-! ### Reset values -/

/-- A value stored undamaged. -/
def Stored.fresh {α : Type} (x : α) : Stored α := ⟨x, .clean⟩

/-- The host link after every reset (R179, R180, R182). -/
def Link.cleared : Link := ⟨.hunting, [], [], ⟨0, 0, 0, 0, 0⟩, .none⟩

/-- Enables after every reset: all but MEMORY_CORRECTED (bit 25) and LINK_ERROR (bit 27) (R188). -/
def Events.defaultEnables : BitVec 29 := ~~~((1#29 <<< 25) ||| (1#29 <<< 27))

/-- The event unit after every reset, before start-up raises RESET_DONE (R188, R191). -/
def Events.cleared : Events := ⟨0, Events.defaultEnables⟩

/-- The settings after a loss of the retention domain (R50, R185). -/
def Settings.cleared : Settings := ⟨0, 0, 120, 35, false⟩

/-- Every key slot empty (R186). -/
def KeySlot.allEmpty : List (Option KeySlot) := List.replicate 8 none

/-- A rule that never holds (R86). -/
def Rule.never : Rule := ⟨.originStation, 1, 0, false, .stop, 0⟩

/-- A bank with every item at its cleared value (R86). -/
def Bank.cleared : Bank where
  header := List.replicate 14 (.fresh 0)
  stations := List.replicate 256 (.fresh none)
  baseFares := List.replicate 256 (.fresh 0)
  travelTimes := List.replicate 256 (.fresh 0)
  incompleteFares := List.replicate 16 (.fresh 0)
  unrecordedFares := List.replicate 16 (.fresh 0)
  bands := List.replicate 24 (.fresh ⟨0, 0⟩)
  classes := List.replicate 8 (.fresh ⟨0, 0, 0⟩)
  holidays := List.replicate 32 (.fresh 0)
  rules := List.replicate 128 (.fresh Rule.never)

/-- The tariff store after a loss of the retention domain (R98, R194).  No rule says which area then plays the ACTIVE role: the model
takes area a (DESIGN CHOICE, log entry 50). -/
def TariffStore.cleared : TariffStore :=
  ⟨⟨Bank.cleared, none⟩, ⟨Bank.cleared, none⟩, .a, true, .empty, none, .none⟩

/-- The screening counters after every reset (R51). -/
def ScreenCounters.zero : ScreenCounters := ⟨0, 0, 0, 0, 0, 0, 0, 0, 0, 0, 0, 0, 0, 0, 0, 0, 0, 0, 0⟩

/-- The screening unit after a loss of the retention domain (R51, R52). -/
def Screening.cleared : Screening := ⟨[], [], true, [], ScreenCounters.zero⟩

/-- The in-doubt list after a loss of the retention domain (R116). -/
def Doubt.cleared : Doubt := ⟨[], .all none⟩

/-- The journal after a loss of the retention domain, with no reservation (R133). -/
def Journal.cleared : Journal := ⟨[], 0, 1, .all none, 0, 0⟩

/-- A tap controller after every reset (R7). -/
def Tap.cleared : Tap :=
  ⟨.idle, false, none, none, none, none, none, none, none, none, none, none, RecordFlags.empty, none⟩

/-- The lane configuration after a loss of the retention domain (R134). -/
def LaneConfig.cleared : LaneConfig := ⟨none, 8, 300, 1500, 30, 20, 0, .activeLow, 1000, 600, 150, 150, 2000⟩

/-- The leaf drive before start-up sets the leaf state: off, every timer stopped (R191; log entry 11). -/
def Leaf.cleared : Leaf := ⟨.closed, none, none, none, false, 0, 0, 0⟩

/-- The statistics after every reset (R159). -/
def Stats.zero : Stats := ⟨0, 0, 0, 0, 0, List.replicate 21 0⟩

/-- An input whose level is high and whose accepted state is not the reported one (log entry 11). -/
def Input.idle : Input := ⟨true, false, none⟩

/-- The passage controller's state after a reset and a loss of the retention domain (R136, R145, R159; log entry 11). -/
def Passages.cleared : Passages where
  config := LaneConfig.cleared
  configured := false
  service := .closed
  faultCause := none
  beams := .all Input.idle
  openLimit := Input.idle
  closedLimit := Input.idle
  credits := []
  passages := []
  latch := false
  intrusionOpen := false
  obstruction := none
  obstructionReported := false
  leaf := Leaf.cleared
  stats := Stats.zero

/-- A blank cell: glyph 0x20, colour 0 (R161). -/
def DispCell.blank : DispCell := ⟨0x20, 0⟩

/-- 32 blank cells (R161, R164). -/
def DispCell.blankFrame : List DispCell := List.replicate 32 .blank

/-- The indicator unit's state for one lane after every reset (R164). -/
def Indicator.cleared : Indicator := ⟨.closed, false, none, none, .closed, DispCell.blankFrame, none, false⟩

/-- The TEMPLATES memory after every reset (R161, R163). -/
def Display.cleared : Display :=
  ⟨List.replicate 48 (.fresh ⟨DispCell.blankFrame, []⟩), List.replicate 27 (.fresh 0)⟩

/-- Counters zero and nothing armed (R173, R177). -/
def MemoryUnit.zero : MemoryUnit := ⟨0, 0, none⟩

/-- The memory check unit after every reset (R173, R177). -/
def Ecc.zero : Ecc := ⟨.zero, .zero, .zero, .zero, .zero⟩

/-- A retention domain whose marker and headers do not stand, as before the first start-up or after a loss (R194). -/
def Retention.lost : Retention :=
  ⟨.fresh false, .fresh false, .fresh false, .fresh false, .fresh false, .fresh false⟩

/-- A lane after a reset and a loss of the retention domain. -/
def LaneUnit.cleared : LaneUnit := ⟨Tap.cleared, Passages.cleared, Indicator.cleared⟩

/-- The part right after the POWER_ON reset of a part whose retention domain holds nothing: volatile state at its reset values,
retained state at the values a loss leaves, the settle interval running (R191, R193, R194; log entry 1). -/
def State.reset : State where
  pending := []
  phase := .startUp
  cause := .powerOn
  report := none
  resetLine := false
  emergency := ⟨false, false, none⟩
  link := Link.cleared
  events := Events.cleared
  clock := ⟨0, false⟩
  settings := Settings.cleared
  keys := KeySlot.allEmpty
  tariff := TariffStore.cleared
  screening := Screening.cleared
  doubt := Doubt.cleared
  journal := Journal.cleared
  lanes := .all LaneUnit.cleared
  display := Display.cleared
  ecc := Ecc.zero
  retention := Retention.lost
  draws := 0

end Sys2Proof.Machine
end

