-- ==== Sys2Proof/Machine/Bits.lean ====
section
/-! DEFINITION. Number helpers: clamping and saturation, big-endian byte fields, and the CRC-16 of the host frame. -/

namespace Sys2Proof.Machine

/-- Replace a value below a range by its lower end and a value above it by its upper end (00_scope, Conventions). -/
def clampNat (lo hi n : Nat) : Nat := max lo (min hi n)

/-- Add to a counter that stops at its maximum (00_scope, Conventions). -/
def satAdd (limit n k : Nat) : Nat := min limit (n + k)

/-- Add one to a counter that saturates at 65,535. -/
def bump (n : Nat) : Nat := satAdd 65535 n 1

/-- The age of a recorded time: now less the time, 0 when the time lies after now (R19, R82, R111). -/
def ageAt (now time : Nat) : Nat := now - time

/-- A number in a field of `width` bytes, most significant byte first (R198). -/
def beBytes : Nat → Nat → List Byte
  | 0, _ => []
  | w + 1, n => BitVec.ofNat 8 (n / 256 ^ w) :: beBytes w n

/-- A signed number in a field of `width` bytes, in two's complement (R198). -/
def beSigned (width : Nat) (v : Int) : List Byte := beBytes width (BitVec.ofInt (8 * width) v).toNat

/-- The number that bytes, most significant first, spell. -/
def ofBytes (bs : List Byte) : Nat := bs.foldl (fun acc b => acc * 256 + b.toNat) 0

/-- The bytes of a field. -/
def field (bs : List Byte) (offset size : Nat) : List Byte := (bs.drop offset).take size

/-- An unsigned field. -/
def numberAt (bs : List Byte) (offset size : Nat) : Nat := ofBytes (field bs offset size)

/-- A byte; 0 beyond the end. -/
def byteAt (bs : List Byte) (offset : Nat) : Byte := (bs[offset]?).getD 0

/-- A field at its width in bits. -/
def wordAt (w : Nat) (bs : List Byte) (offset : Nat) : BitVec w := BitVec.ofNat w (numberAt bs offset (w / 8))

/-- A signed field of a number of bytes, in two's complement. -/
def signedAt (bs : List Byte) (offset size : Nat) : Int := (BitVec.ofNat (8 * size) (numberAt bs offset size)).toInt

/-- A flag as one byte. -/
def boolByte (b : Bool) : Byte := if b then 1 else 0

/-- An item that may be absent: a presence byte, then the value or zeros (R198). -/
def optional (width : Nat) : Option (List Byte) → List Byte
  | none => 0 :: List.replicate width 0
  | some bs => 1 :: bs

/-- An optional number in a field of `width` bytes. -/
def optionalNat (width : Nat) (v : Option Nat) : List Byte := optional width (v.map (beBytes width))

/-- One bit of the CRC-16 with polynomial x^16 + x^12 + x^5 + 1 (R198). -/
def crcBit (c : BitVec 16) : BitVec 16 := if c.msb then (c <<< 1) ^^^ 0x1021#16 else c <<< 1

/-- One byte of the CRC-16, most significant bit first (R198). -/
def crcByte (c : BitVec 16) (b : Byte) : BitVec 16 :=
  Nat.repeat crcBit 8 (c ^^^ (b.zeroExtend 16 <<< 8))

/-- The CRC-16 of bytes from the initial value 0xFFFF, not inverted (R198). -/
def crc16 (bs : List Byte) : BitVec 16 := bs.foldl crcByte 0xFFFF#16

end Sys2Proof.Machine
end

