-- ==== Sys2Proof/Machine/Codes.lean ====
section
/-! DEFINITION. The numbers that named values carry on the wire: a name's position in the owning rule's list, counted from 0,
where chapter 12 gives no numbers of its own (R198), and the numbers chapter 12 gives (R198, R200, R201). -/

namespace Sys2Proof.Machine

/-- Reply status byte (R198). -/
def statusCode : Status → Byte
  | .ok => 0 | .clamped => 1 | .busy => 2 | .refused => 3 | .badRequest => 4 | .starting => 5

/-- Reason byte of a REFUSED reply (R198). -/
def reasonCode : Reason → Byte
  | .denylistInvalid => 1 | .timeNotSet => 2 | .versionInUse => 3 | .wrongState => 4 | .segmentBlind => 5
  | .notConfigured => 6 | .emergency => 7 | .laneFault => 8 | .keyCheckFailed => 9

/-- Result codes by their place in R25. -/
def resultIndex : ResultCode → Nat
  | .granted => 0 | .grantedResumed => 1 | .emergencyRelease => 2 | .alreadyPassed => 3 | .tapAgain => 4 | .inDoubt => 5
  | .notAvailable => 6 | .laneBusy => 7 | .multipleCards => 8 | .cardBusyElsewhere => 9 | .foreignCard => 10
  | .unknownKeyVersion => 11 | .cardNotGenuine => 12 | .cardDataInvalid => 13 | .cardExhausted => 14 | .cardLocked => 15
  | .denylisted => 16 | .suspect => 17 | .cloneDetected => 18 | .lowBalance => 19 | .insufficientFunds => 20
  | .commitRefused => 21 | .noJournalRoom => 22

/-- The result codes in the order of R25. -/
def resultCodes : List ResultCode :=
  [.granted, .grantedResumed, .emergencyRelease, .alreadyPassed, .tapAgain, .inDoubt, .notAvailable, .laneBusy, .multipleCards,
   .cardBusyElsewhere, .foreignCard, .unknownKeyVersion, .cardNotGenuine, .cardDataInvalid, .cardExhausted, .cardLocked,
   .denylisted, .suspect, .cloneDetected, .lowBalance, .insufficientFunds, .commitRefused, .noJournalRoom]

/-- Result map keys by number: the result codes, then IDLE, CLOSED, EMERGENCY, OBSTRUCTION (R163). -/
def keyIndex : DisplayKey → Nat
  | .result r => resultIndex r
  | .idle => 23 | .closed => 24 | .emergency => 25 | .obstruction => 26

/-- The flag bit of an event: its priority in R188 less one. -/
def eventBit : Event → Nat
  | .emergency => 0 | .memoryUncorrected => 1 | .cloneSuspect => 2 | .denylistHit => 3 | .journalFull => 4
  | .laneFault l => 5 + l.val | .tailgate l => 9 + l.val | .intrusion l => 13 + l.val | .obstruction l => 17 + l.val
  | .inDoubtAbandoned => 21 | .journalHigh => 22 | .tariffSwitched => 23 | .tariffRuleOverrun => 24
  | .memoryCorrected => 25 | .timeStep => 26 | .linkError => 27 | .resetDone => 28

/-- An event flag as a reply names it: the row of R188's table, and the lane of a lane's flag (R189). -/
def eventName (bit : Nat) : List Byte :=
  let laneEvent (row firstBit : Nat) : List Byte := [BitVec.ofNat 8 row, 1, BitVec.ofNat 8 (bit - firstBit)]
  if bit < 5 then [BitVec.ofNat 8 bit, 0, 0]
  else if bit < 9 then laneEvent 5 5
  else if bit < 13 then laneEvent 6 9
  else if bit < 17 then laneEvent 7 13
  else if bit < 21 then laneEvent 8 17
  else [BitVec.ofNat 8 (bit - 12), 0, 0]

/-- Tap controller states (R7). -/
def tapPhaseCode : TapPhase → Byte
  | .idle => 0 | .identifying => 1 | .authenticating => 2 | .reading => 3 | .evaluating => 4 | .committing => 5 | .quiet => 6

/-- Readiness reasons: NONE, the five of R9 in order, NOT_IN_SERVICE. -/
def readinessCode : Readiness → Byte
  | .ready => 0 | .timeNotSet => 1 | .stationNotSet => 2 | .noTariff => 3 | .stationUnknown => 4 | .journalFull => 5
  | .notInService => 6

/-- Service states (R136). -/
def serviceCode : Service → Byte
  | .closed => 0 | .inService => 1 | .draining => 2 | .heldOpen => 3 | .emergencyOpen => 4 | .fault => 5

/-- Fault causes (R136). -/
def faultCode : FaultCause → Byte
  | .jamOpening => 0 | .jamClosing => 1 | .bothLimits => 2

/-- Leaf states (R152). -/
def leafCode : LeafState → Byte
  | .closed => 0 | .opening => 1 | .opened => 2 | .closing => 3 | .jammed => 4

/-- Pending bank states (R85). -/
def pendingCode : PendingState → Byte
  | .empty => 0 | .loading => 1 | .ready => 2 | .invalid => 3 | .scheduled => 4 | .switching => 5

/-- Validation results: NONE, the six of R89 in order, MEMORY_ERROR. -/
def validationCode : Validation → Byte
  | .none => 0 | .headerRange => 1 | .step => 2 | .maxFare => 3 | .ruleCount => 4 | .bands => 5 | .ruleChain => 6
  | .memoryError => 7

/-- Reset causes (R191). -/
def causeCode : ResetCause → Byte
  | .powerOn => 0 | .resetLine => 1 | .resetCommand => 2

/-- Retention results (R194). -/
def retentionCode : RetentionResult → Byte
  | .retained => 0 | .tablesLost => 1

/-- A journal reservation: none, ORDINARY, MANDATORY (R117). -/
def reservationCode : Option AdmissionClass → Byte
  | none => 0 | some .ordinary => 1 | some .mandatory => 2

/-- An armed injection: NONE, SINGLE, DOUBLE (R174). -/
def injectionCode : Option Injection → Byte
  | none => 0 | some .single => 1 | some .double => 2

/-- Suspect reasons (R34). -/
def suspectCode : SuspectReason → Byte
  | .counterRegression => 0 | .diverged => 1 | .impossibleTravel => 2 | .counterReused => 3 | .remoteRegression => 4

/-- A source: the lane, or 0x80 for FEED (R200). -/
def sourceCode : Source → Byte
  | .lane l => BitVec.ofNat 8 l.val
  | .feed => 0x80

/-- Record kinds 1 to 21 (R200). -/
def kindCode : RecordKind → Byte
  | .entry => 1 | .exit => 2 | .entryWithPenalty => 3 | .exitUnrecorded => 4 | .emergencyExit => 5 | .cardLocked => 6
  | .inDoubt => 7 | .resolvedConfirmed => 8 | .resolvedVoided => 9 | .resolvedUnknown => 10 | .doubtAbandoned => 11
  | .creditLapsed => 12 | .creditCancelled => 13 | .tailgate => 14 | .intrusion => 15 | .cloneDetected => 16
  | .denylistHit => 17 | .authFailed => 18 | .feedConflict => 19 | .tariffSwitch => 20 | .timeStep => 21

/-- Named detail codes 1 to 18 (R200). -/
def detailNameCode : DetailName → Byte
  | .authenticate => 1 | .read => 2 | .blockedSeen => 3 | .debit => 4 | .lock => 5 | .release => 6 | .reset => 7
  | .memoryError => 8 | .fault => 9 | .emergency => 10 | .segmentL => 11 | .segmentX => 12 | .counterRegression => 13
  | .diverged => 14 | .impossibleTravel => 15 | .suspectListed => 16 | .counterReused => 17 | .remoteRegression => 18

/-- The two bytes of a detail code (R200). -/
def detailBytes : Detail → List Byte
  | .named d => [0, detailNameCode d]
  | .reason c => [1, BitVec.ofNat 8 c]

/-- Fare reasons (R200). -/
def fareReasonCode : FareReason → Byte
  | .none => 0 | .leg => 1 | .journey => 2 | .dayCap => 3 | .weekCap => 4 | .penalty => 5

/-- Denylist action in a record (R200). -/
def actionCode : DenyAction → Byte
  | .refuse => 1 | .lock => 2

/-- A record's flag byte (R200). -/
def flagsByte (f : RecordFlags) : Byte :=
  let bit (b : Bool) (i : Nat) : Nat := if b then 2 ^ i else 0
  BitVec.ofNat 8 (bit f.ruleOverrun 0 + bit f.unknownStation 1 + bit f.classExpired 2 + bit f.clockBehind 3
    + bit f.denylistUnchecked 4 + bit f.receiptBad 5)

/-- A memory by its place in R171. -/
def memoryOf : Byte → Option Memory
  | 0 => some .journal | 1 => some .sighting | 2 => some .lists | 3 => some .tariff | 4 => some .templates | _ => none

/-- A section by its place in R86. -/
def bankPartOf : Byte → Option BankPart
  | 0 => some .header | 1 => some .stations | 2 => some .baseFares | 3 => some .travelTimes | 4 => some .incompleteFares
  | 5 => some .unrecordedFares | 6 => some .bands | 7 => some .classes | 8 => some .holidays | 9 => some .rules | _ => none

/-- A rule field by its place in R63. -/
def ruleFieldOf : Byte → Option RuleField
  | 0 => some .originStation | 1 => some .destStation | 2 => some .originZone | 3 => some .destZone | 4 => some .cls
  | 5 => some .dayType | 6 => some .originMinute | 7 => some .dwellMinutes | 8 => some .sameStation | _ => none

/-- A rule action by its place in R63. -/
def ruleActionOf : Byte → Option RuleAction
  | 0 => some .setBase | 1 => some .addBase | 2 => some .setFactor | 3 => some .setDiscount | 4 => some .stop | _ => none

/-- A denylist action by its place in R30. -/
def denyActionOf : Byte → Option DenyAction
  | 0 => some .refuse | 1 => some .lock | _ => none

/-- A result map key by its number (R163). -/
def displayKeyOf (b : Byte) : Option DisplayKey :=
  if b.toNat < 23 then (resultCodes[b.toNat]?).map DisplayKey.result
  else if b = 23 then some .idle
  else if b = 24 then some .closed
  else if b = 25 then some .emergency
  else if b = 26 then some .obstruction
  else none

/-- The suspect reason as a record's detail code (R120). -/
def suspectDetail : SuspectReason → DetailName
  | .counterRegression => .counterRegression | .diverged => .diverged | .impossibleTravel => .impossibleTravel
  | .counterReused => .counterReused | .remoteRegression => .remoteRegression

/-- The change kind as a record's detail code (R120). -/
def changeDetail : ChangeKind → DetailName
  | .debit => .debit | .lock => .lock | .release => .release

end Sys2Proof.Machine
end

