-- ==== Sys2Proof/Machine/Ops.lean ====
section
/-! DEFINITION. The operations every block shares: raising an event, reaching a lane, the checked read and the checked write of
the protected memories (chapter 9), and the appends, reservations and sequences of the trip journal (chapter 6). -/

namespace Sys2Proof.Machine

/-! ### Lanes -/

/-- The lane's three units. -/
def State.lane (s : State) (l : Lane) : LaneUnit := s.lanes.get l

/-- Change a lane. -/
def State.modLane (s : State) (l : Lane) (f : LaneUnit → LaneUnit) : State :=
  { s with lanes := s.lanes.set l (f (s.lanes.get l)) }

/-- The lane's tap controller. -/
def State.tap (s : State) (l : Lane) : Tap := (s.lane l).tap

/-- Change a lane's tap controller. -/
def State.modTap (s : State) (l : Lane) (f : Tap → Tap) : State :=
  s.modLane l fun u => { u with tap := f u.tap }

/-- The lane's passage controller. -/
def State.gate (s : State) (l : Lane) : Passages := (s.lane l).gate

/-- Change a lane's passage controller. -/
def State.modGate (s : State) (l : Lane) (f : Passages → Passages) : State :=
  s.modLane l fun u => { u with gate := f u.gate }

/-- The lane's indicator. -/
def State.ind (s : State) (l : Lane) : Indicator := (s.lane l).ind

/-- Change a lane's indicator. -/
def State.modInd (s : State) (l : Lane) (f : Indicator → Indicator) : State :=
  s.modLane l fun u => { u with ind := f u.ind }

/-! ### Events -/

/-- Raise an event: its flag becomes pending, whether or not it is enabled (R188). -/
def State.raise (s : State) (e : Event) : State :=
  { s with events := { s.events with pending := s.events.pending ||| (1#29 <<< eventBit e) } }

/-- ATN: asserted exactly while a flag is both pending and enabled (R190), released while the part is not in service
(R191, R193). -/
def State.atn (s : State) : Bool := s.phase == .running && (s.events.pending &&& s.events.enabled) != 0

/-! ### Memory check unit -/

/-- The unit of one memory. -/
def Ecc.get (e : Ecc) : Memory → MemoryUnit
  | .journal => e.journal | .sighting => e.sighting | .lists => e.lists | .tariff => e.tariff | .templates => e.templates

/-- Replace the unit of one memory. -/
def Ecc.set (e : Ecc) (m : Memory) (u : MemoryUnit) : Ecc :=
  match m with
  | .journal => { e with journal := u }
  | .sighting => { e with sighting := u }
  | .lists => { e with lists := u }
  | .tariff => { e with tariff := u }
  | .templates => { e with templates := u }

/-- Count corrected and uncorrectable findings in a memory and raise their events (R173, R175). -/
def State.noteFindings (s : State) (m : Memory) (corrected uncorrected : Nat) : State :=
  let u := s.ecc.get m
  let u := { u with corrected := satAdd 65535 u.corrected corrected, uncorrected := satAdd 255 u.uncorrected uncorrected }
  if corrected = 0 ∧ uncorrected = 0 then s
  else
    let s := { s with ecc := s.ecc.set m u }
    let s := if corrected = 0 then s else s.raise .memoryCorrected
    if uncorrected = 0 then s else s.raise .memoryUncorrected

/-- Note one checked read of an item (R172). -/
def State.noteRead (s : State) (m : Memory) : Integrity → State
  | .clean => s
  | .single => s.noteFindings m 1 0
  | .double => s.noteFindings m 0 1

/-- Write an item: it takes a new check code, and an armed injection of its memory is applied to it and disarmed (R172, R178). -/
def State.store {α : Type} (s : State) (m : Memory) (x : α) : Stored α × State :=
  let u := s.ecc.get m
  match u.armed with
  | none => (⟨x, .clean⟩, s)
  | some k =>
    (⟨x, match k with | .single => .single | .double => .double⟩, { s with ecc := s.ecc.set m { u with armed := none } })

/-! ### Journal sequences (R118) -/

/-- The number of sequences: 1 to 4,294,967,295. -/
abbrev seqCount : Nat := 4294967295

/-- A sequence stepped forward. -/
def seqForward (q n : Nat) : Nat := (q - 1 + n) % seqCount + 1

/-- A sequence stepped back. -/
def seqBack (q n : Nat) : Nat := (q - 1 + (seqCount - n % seqCount)) % seqCount + 1

/-- The forward distance between two sequences. -/
def seqDistance (q t : Nat) : Nat := (t + seqCount - q) % seqCount

/-- Records held (R117). -/
def Journal.held (j : Journal) : Nat := j.records.length

/-- The oldest sequence (R117); it means something while a record is held. -/
def Journal.oldest (j : Journal) : Nat := seqBack j.nextSequence j.held

/-- The newest sequence (R117); it means something while a record is held. -/
def Journal.newest (j : Journal) : Nat := seqBack j.nextSequence 1

/-- Lanes holding a reservation of a class. -/
def Journal.reserved (j : Journal) (c : AdmissionClass) : Nat := j.reservations.toList.countP (· == some c)

/-- Outstanding reservations (R117). -/
def Journal.outstanding (j : Journal) : Nat := j.reservations.toList.countP (·.isSome)

/-- Held records and outstanding reservations, which admission compares with its limits (R123). -/
def Journal.taken (j : Journal) : Nat := j.held + j.outstanding

/-- The admission limit of a class (R123). -/
def classLimit : AdmissionClass → Nat
  | .ordinary => 1984
  | .mandatory => 2048

/-- Ordinary admission is open (R123). -/
def Journal.isOpen (j : Journal) : Bool := j.taken < 1984

/-! ### Journal appends and reservations -/

/-- Raise JOURNAL_FULL when a request has closed ordinary admission (R126). -/
def State.noteClosing (s : State) (takenBefore : Nat) : State :=
  if takenBefore < 1984 ∧ 1984 ≤ s.journal.taken then s.raise .journalFull else s

/-- Append a record at the newest end: it takes station time, the next place and the next sequence, and JOURNAL_HIGH is raised
when held becomes 1,536 (R118, R119, R126). -/
def State.appendRecord (s : State) (r : JournalRecord) : State :=
  let (item, s) := s.store .journal { r with time := s.clock.time }
  let j := s.journal
  let s := { s with journal := { j with records := j.records ++ [item], nextSequence := seqForward j.nextSequence 1 } }
  if s.journal.held = 1536 then s.raise .journalHigh else s

/-- Append a record that is not reserved: admitted by its class, or dropped and counted lost (R125). -/
def State.appendUnreserved (s : State) (c : AdmissionClass) (r : JournalRecord) : State :=
  let before := s.journal.taken
  if before < classLimit c then (s.appendRecord r).noteClosing before
  else match c with
    | .ordinary => { s with journal := { s.journal with lostOrdinary := bump s.journal.lostOrdinary } }
    | .mandatory =>
      ({ s with journal := { s.journal with lostMandatory := bump s.journal.lostMandatory } } : State).raise .journalFull

/-- Release a lane's reservation without a record (R124). -/
def State.releaseReservation (s : State) (l : Lane) : State :=
  { s with journal := { s.journal with reservations := s.journal.reservations.set l none } }

/-- Append a record against a lane's reservation, which it consumes (R123, R124).  A lane that holds none has its record tested
by its class (R125); no lane in COMMITTING is without one. -/
def State.appendReserved (s : State) (l : Lane) (c : AdmissionClass) (r : JournalRecord) : State :=
  match s.journal.reservations.get l with
  | some _ => (s.releaseReservation l).appendRecord r
  | none => s.appendUnreserved c r

/-- Test a lane's reservation request; when granted, the lane's reservation takes the class (R123, R124, R126). -/
def State.reserve (s : State) (l : Lane) (c : AdmissionClass) : Bool × State :=
  let before := s.journal.taken
  if before < classLimit c then
    (true, State.noteClosing { s with journal := { s.journal with reservations := s.journal.reservations.set l (some c) } } before)
  else (false, s)

/-- The reservation class of a change kind (R99). -/
def changeClass : ChangeKind → AdmissionClass
  | .debit => .ordinary
  | .lock => .mandatory
  | .release => .mandatory

end Sys2Proof.Machine
end

