-- ==== Sys2Proof/Machine/Indicator.lean ====
section
/-! DEFINITION. The indicator unit (chapter 8): the displayed key, composing a frame, the display link, and what the unit does
with a result, a service state change, an obstruction and a hold expiry. -/

namespace Sys2Proof.Machine

/-- The state key of a service state (R164). -/
def stateKey : Service → DisplayKey
  | .inService => .idle
  | .closed => .closed
  | .draining => .closed
  | .fault => .closed
  | .heldOpen => .emergency
  | .emergencyOpen => .emergency

/-- The displayed key, chosen in the order of R164. -/
def Indicator.key (i : Indicator) : DisplayKey :=
  match i.held with
  | some h => .result h.code
  | none => if i.obstructed then .obstruction else stateKey i.service

/-- A value in minor units as glyphs (R168). -/
def moneyText (v : Int) : List Nat :=
  let m := v.natAbs
  (if v < 0 then [0x2D] else []) ++ (Nat.toDigits 10 (m / 100)).map Char.toNat
    ++ [0x2E, 0x30 + m % 100 / 10, 0x30 + m % 10]

/-- The glyphs of a field: spaces for no value, the text set to the right, or the overflow mark in every cell (R167, R168). -/
def fieldGlyphs (width : Nat) : Option Int → List Nat
  | none => List.replicate width 0x20
  | some v =>
    let text := moneyText v
    if text.length ≤ width then List.replicate (width - text.length) 0x20 ++ text else List.replicate width 0x23

/-- Put glyphs into consecutive cells, leaving their colours (R167). -/
def putGlyphs : List DispCell → Nat → List Nat → List DispCell
  | cells, _, [] => cells
  | cells, i, g :: gs => putGlyphs (cells.modify i fun c => { c with glyph := g }) (i + 1) gs

/-- The value a slot shows: the held result's charge or purse under a result key, nothing under any other key (R167). -/
def slotValue (i : Indicator) (k : SlotKind) : Option Int :=
  match i.held, k with
  | none, _ => none
  | some h, .fare => h.charge.map Int.ofNat
  | some h, .balance => h.purse

/-- Fill the template's field slots (R167). -/
def composeFrame (i : Indicator) (t : Template) : List DispCell :=
  t.slots.foldl (fun cells sl => putGlyphs cells (16 * sl.line + (sl.rightEnd + 1 - sl.width))
    (fieldGlyphs sl.width (slotValue i sl.kind))) t.cells

/-- Hand a composed frame to the lane's display link (R169). -/
def Indicator.handFrame (i : Indicator) (frame : List DispCell) : Indicator :=
  if frame = i.frame then i
  else match i.sending with
    | none => { i with frame := frame, sending := some frame }
    | some _ => { i with frame := frame, resend := true }

/-- The result map entry of a key (R163). -/
def Display.entry (d : Display) (k : DisplayKey) : Stored Nat := (d.map[keyIndex k]?).getD (.fresh 0)

/-- A template by its number (R161). -/
def Display.template (d : Display) (n : Nat) : Stored Template :=
  (d.templates[n]?).getD (.fresh ⟨DispCell.blankFrame, []⟩)

/-- The frame a lane's displayed key gives, its reads of the map entry and then of the template checked and counted; an
uncorrectable one gives 32 blank cells (R167, R170). -/
def State.readFrame (s : State) (l : Lane) : List DispCell × State :=
  let i := s.ind l
  let e := s.display.entry i.key
  let s := s.noteRead .templates e.bits
  if e.bits = .double then (DispCell.blankFrame, s)
  else
    let t := s.display.template e.val
    let s := s.noteRead .templates t.bits
    if t.bits = .double then (DispCell.blankFrame, s) else (composeFrame i t.val, s)

/-- Compose a lane's frame again and hand it to the display link (R167, R169). -/
def State.compose (s : State) (l : Lane) : State :=
  let (frame, s) := s.readFrame l
  s.modInd l fun i => { i.handFrame frame with shown := i.key }

/-- Compose a lane's frame and start a send of it even if it equals the lane's frame (R169, start-up). -/
def State.composeAndSend (s : State) (l : Lane) : State :=
  let (frame, s) := s.readFrame l
  s.modInd l fun i => { i with frame := frame, sending := some frame, resend := false, shown := i.key }

/-- Take a transaction's result (R165). -/
def State.takeResult (s : State) (l : Lane) (code : ResultCode) (charge : Option Nat) (purse : Option Int) : State :=
  let hold := (s.gate l).config.indicatorHold
  (s.modInd l fun i => { i with held := some ⟨code, charge, purse⟩, holdTimer := some hold }).compose l

/-- Take a change of service state (R166). -/
def State.indicateService (s : State) (l : Lane) (v : Service) : State :=
  let s := s.modInd l fun i => { i with service := v }
  match v with
  | .emergencyOpen => (s.modInd l fun i => { i with held := none, holdTimer := none }).compose l
  | .fault => (s.modInd l fun i => { i with held := none, holdTimer := none }).compose l
  | _ => if (s.ind l).held.isSome || (s.ind l).obstructed then s else s.compose l

/-- Take the start or the end of an obstruction (R166). -/
def State.indicateObstruction (s : State) (l : Lane) (started : Bool) : State :=
  if started then (s.modInd l fun i => { i with obstructed := true, held := none, holdTimer := none }).compose l
  else
    let s := s.modInd l fun i => { i with obstructed := false }
    if (s.ind l).held.isSome then s else s.compose l

/-- The hold timer expires (R165). -/
def State.holdExpired (s : State) (l : Lane) : State :=
  match (s.ind l).holdTimer with
  | none => s
  | some _ => (s.modInd l fun i => { i with held := none, holdTimer := none }).compose l

/-- A send completes: a pending resend starts with the frame as it stands, or the link becomes IDLE (R169). -/
def Indicator.sendComplete (i : Indicator) : Indicator :=
  match i.sending with
  | none => i
  | some _ => if i.resend then { i with sending := some i.frame, resend := false } else { i with sending := none }

/-- Compose again every lane that a condition picks (R162, R163). -/
def State.recompose (s : State) (which : Indicator → Bool) : State :=
  allLanes.foldl (fun s l => if which (s.ind l) then s.compose l else s) s

/-- The bytes of a frame on the display link: the start byte, then each cell's glyph and colour (R201). -/
def displayBytes (frame : List DispCell) : List Byte :=
  0x80 :: frame.flatMap fun c => [BitVec.ofNat 8 c.glyph, BitVec.ofNat 8 c.colour]

end Sys2Proof.Machine
end

