-- ==== Sys2Proof/Machine/Leaf.lean ====
section
/-! DEFINITION. Beams, segments, the open demand and the leaf drive of one lane (R140, R141, R152 to R156), as functions of the
lane's passage controller alone.  A result of `true` beside the controller says that both limits were found asserted when the
leaves were to move, which is a jam (R156). -/

namespace Sys2Proof.Machine

/-! ### Inputs and segments -/

/-- A change of an input's level starts its debounce timer, or stops it when the level changes back (R140). -/
def Input.levelChange (i : Input) (high : Bool) (time : Nat) : Input :=
  if i.high = high then i
  else { i with high := high, timer := if i.timer.isSome then none else some time }

/-- The debounce timer of an input expires with the level meaning `meaning`: the accepted state takes it (R140). -/
def Input.accept (i : Input) (meaning : Bool) : Input := { i with accepted := meaning, timer := none }

/-- Whether a level means BLOCKED under a polarity (R140). -/
def blockedBy (p : Polarity) (high : Bool) : Bool :=
  match p with
  | .activeHigh => high
  | .activeLow => !high

/-- A beam reads BLOCKED: accepted BLOCKED and not masked (R141). -/
def Passages.beamReads (p : Passages) (b : Beam) : Bool := (p.beams.get b).accepted && !p.config.mask.getLsbD b.val

/-- Occupancy of a segment (R141). -/
def Passages.occ (p : Passages) : Segment → Bool
  | .approach => p.beamReads 0 || p.beamReads 1
  | .leaves => p.beamReads 2 || p.beamReads 3
  | .exit => p.beamReads 4 || p.beamReads 5

/-- The segment of a beam (R141). -/
def segmentOf : Beam → Segment
  | 0 => .approach | 1 => .approach | 2 => .leaves | 3 => .leaves | 4 => .exit | 5 => .exit

/-! ### Demand and drive output -/

/-- The lane holds a credit or a passage is in progress. -/
def Passages.letIn (p : Passages) : Bool := !p.credits.isEmpty || !p.passages.isEmpty

/-- The open demand (R152). -/
def Passages.demand (p : Passages) : Bool :=
  p.service == .heldOpen || p.service == .emergencyOpen || (p.letIn && !p.latch)

/-- The close condition (R154). -/
def Passages.closeCondition (p : Passages) : Bool := !p.demand && !p.occ .leaves

/-- What the leaf drive pair is driven with: nothing, open or close at a duty per mille. -/
inductive DriveOutput where
  | off
  | openAt (duty : Nat)
  | closeAt (duty : Nat)
deriving DecidableEq, Repr

/-- The drive output of a leaf state (R152, R155), at the duties the latest movement started with (R135). -/
def Passages.drive (p : Passages) : DriveOutput :=
  let duty := if p.leaf.startPhase.isSome then p.leaf.moveStart else p.leaf.moveRun
  match p.leaf.state with
  | .closed => .off
  | .opening => .openAt duty
  | .opened => if p.demand && p.openLimit.accepted then .openAt p.leaf.moveHold else .off
  | .closing => if p.leaf.paused then .off else .closeAt duty
  | .jammed => .off

/-- The drive output of a lane; off while the part is not in service (R191, R193). -/
def State.driveOutput (s : State) (l : Lane) : DriveOutput := if s.phase = .running then (s.gate l).drive else .off

/-! ### Movements -/

/-- Both limits asserted (R156). -/
def Passages.bothLimits (p : Passages) : Bool := p.openLimit.accepted && p.closedLimit.accepted

/-- Leaves at rest in a state, every drive timer stopped. -/
def Passages.rest (p : Passages) (st : LeafState) : Passages :=
  { p with leaf := { p.leaf with state := st, startPhase := none, travel := none, closeDelay := none, paused := false } }

/-- Leaves that become OPEN at once, at the limit already: no movement starts, and they are held at the hold duty in force
(R153; DEDUCED, log entry 46). -/
def Passages.openAtOnce (p : Passages) : Passages :=
  { p.rest .opened with leaf := { (p.rest .opened).leaf with moveHold := p.config.holdDuty } }

/-- Leaves stopped open, at the limit or short of it; a running close delay goes on (R153, R154). -/
def Passages.stopOpen (p : Passages) : Passages :=
  { p with leaf := { p.leaf with state := .opened, startPhase := none, travel := none, paused := false } }

/-- Leaves set moving: a new start phase, none when it is 0 ms, and a new travel timer, at the duties in force (R135, R153). -/
def Passages.startMove (p : Passages) (st : LeafState) : Passages :=
  { p with leaf :=
      { state := st
        startPhase := if p.config.startPhase = 0 then none else some p.config.startPhase
        travel := some p.config.leafTravel
        closeDelay := none
        paused := false
        moveStart := p.config.startDuty
        moveRun := p.config.runDuty
        moveHold := p.config.holdDuty } }

/-- Leaves in CLOSING, waiting with the drive off (R155). -/
def Passages.pauseClose (p : Passages) : Passages :=
  { p with leaf :=
      { p.leaf with state := .closing, startPhase := none, travel := none, closeDelay := none, paused := true } }

/-- The leaves are to enter OPENING (R153). -/
def Passages.enterOpening (p : Passages) : Passages × Bool :=
  if p.bothLimits then (p, true)
  else if p.openLimit.accepted then (p.openAtOnce, false)
  else (p.startMove .opening, false)

/-- The leaves are to enter CLOSING, paused when segment L is occupied (R154, R155). -/
def Passages.enterClosing (p : Passages) : Passages × Bool :=
  if p.bothLimits then (p, true)
  else if p.closedLimit.accepted then (p.rest .closed, false)
  else if p.occ .leaves then (p.pauseClose, false)
  else (p.startMove .closing, false)

/-- The close condition in OPEN or OPENING: close at once after a tailgate, else run the close delay; stop the delay when the
condition does not hold (R149, R154).  `b` is the controller before the change, whose latch counts too (log entry 23). -/
def Passages.closeCheck (b p : Passages) : Passages × Bool :=
  if p.closeCondition then
    if p.latch || b.latch then p.enterClosing
    else if p.leaf.closeDelay.isSome then (p, false)
    else if p.config.closeDelay = 0 then p.enterClosing
    else ({ p with leaf := { p.leaf with closeDelay := some p.config.closeDelay } }, false)
  else ({ p with leaf := { p.leaf with closeDelay := none } }, false)

/-- What the leaf drive does on a change of the open demand or of segment L; `b` is the controller before the change
(R153, R154, R155).  A paused close that resumes is a new movement, at the configuration then in force (DESIGN CHOICE,
log entry 48). -/
def Passages.leafReact (b p : Passages) : Passages × Bool :=
  match p.leaf.state with
  | .closed => if p.demand then p.enterOpening else (p, false)
  | .opening => if b.demand && !p.demand then b.closeCheck p.stopOpen else b.closeCheck p
  | .opened => if p.demand && !p.openLimit.accepted then p.enterOpening else b.closeCheck p
  | .closing =>
    if p.demand then p.enterOpening
    else if p.occ .leaves && !b.occ .leaves then (if p.letIn then p.enterOpening else (p.pauseClose, false))
    else if !p.occ .leaves && p.leaf.paused then (p.startMove .closing, false)
    else (p, false)
  | .jammed => (p, false)

/-- What the leaf drive does on a limit change that leaves at most one limit asserted (R153, R154, R152). -/
def Passages.limitReact (b p : Passages) (limit : Limit) (asserted : Bool) : Passages × Bool :=
  match p.leaf.state, limit, asserted with
  | .opening, .openLimit, true => b.closeCheck p.stopOpen
  | .closing, .closedLimit, true => (p.rest .closed, false)
  | .closed, .closedLimit, false => if p.demand then (p, false) else p.enterClosing
  | .opened, .openLimit, false => if p.demand then p.enterOpening else (p, false)
  | _, _, _ => (p, false)

/-- The leaf state that start-up gives a lane from its limits: a CLOSED lane is commanded to close, an EMERGENCY_OPEN lane opens
(R154, R196). -/
def Passages.startUpLeaves (p : Passages) : Passages × Bool :=
  if p.service = .emergencyOpen then p.enterOpening else p.enterClosing

end Sys2Proof.Machine
end

