-- ==== Sys2Proof/Machine/Passage.lean ====
section
/-! DEFINITION. The passage controller of a lane: service states, credits, the passage tracker, jams, and the EMERGENCY line
(chapter 7). -/

namespace Sys2Proof.Machine

/-! ### Service state, cancellation, jams -/

/-- Set a lane's service state and hand it to the indicator unit (R136). -/
def State.setService (s : State) (l : Lane) (v : Service) : State :=
  (s.modGate l fun p => { p with service := v }).indicateService l v

/-- Cancel every credit of a lane, in list order, with its record (R144). -/
def State.cancelCredits (s : State) (l : Lane) (cause : DetailName) : State :=
  let credits := (s.gate l).credits
  let s := credits.foldl (fun s c => s.appendUnreserved .mandatory
    { JournalRecord.blank .creditCancelled (some l) with serial := some c.serial, detail := some (.named cause) }) s
  s.modGate l fun p => { p with
    credits := [], stats := { p.stats with cancellations := satAdd 65535 p.stats.cancellations credits.length } }

/-- Discard the passages in progress, the tailgate latch and the intrusion episode (R145). -/
def Passages.discard (p : Passages) : Passages := { p with passages := [], latch := false, intrusionOpen := false }

/-- A jam: the leaves become JAMMED and LANE_FAULT is raised; the lane becomes FAULT with its credits cancelled, but in
EMERGENCY_OPEN the cause alone is recorded (R156). -/
def State.jam (s : State) (l : Lane) (cause : FaultCause) : State :=
  let was := (s.gate l).service
  let s := (s.modGate l fun p => { p.rest .jammed with faultCause := some cause }).raise (.laneFault l)
  if was = .emergencyOpen then s
  else
    let s := (s.cancelCredits l .fault).modGate l Passages.discard
    if was = .fault then s else s.setService l .fault

/-- Put the outcome of a leaf movement in place, jamming the leaves when both limits were found asserted (R156). -/
def State.putLeaves (s : State) (l : Lane) (r : Passages × Bool) : State :=
  let s := s.modGate l fun _ => r.1
  if r.2 then s.jam l .bothLimits else s

/-- Let the leaf drive take a change; `b` is the passage controller before it (R152). -/
def State.leafSettle (s : State) (l : Lane) (b : Passages) : State := s.putLeaves l (b.leafReact (s.gate l))

/-- A DRAINING lane with no credit, no passage and no commit in flight becomes CLOSED (R138). -/
def State.drainCheck (s : State) (l : Lane) : State :=
  let p := s.gate l
  if p.service = .draining ∧ p.credits = [] ∧ p.passages = [] ∧ (s.tap l).phase ≠ .committing then s.setService l .closed
  else s

/-- Carry out a change at a lane, then let the leaf drive and the draining test take it. -/
def State.laneChange (s : State) (l : Lane) (f : State → State) : State :=
  let b := s.gate l
  ((f s).leafSettle l b).drainCheck l

/-! ### Credits -/

/-- Start the oldest UNSTARTED credit: it becomes IN_USE and its lapse timer stops; its serial (R146). -/
def startOldest : List Credit → List Credit × Option Serial
  | [] => ([], none)
  | c :: cs =>
    if c.inUse then let r := startOldest cs; (c :: r.1, r.2)
    else ({ c with inUse := true, lapse := none } :: cs, some c.serial)

/-- Remove the first IN_USE credit of a serial; none when there is none. -/
def takeInUse (ser : Serial) : List Credit → Option (List Credit)
  | [] => none
  | c :: cs => if c.inUse && c.serial == ser then some cs else (takeInUse ser cs).map (c :: ·)

/-- Return the first IN_USE credit of a serial to UNSTARTED with a new lapse timer (R148). -/
def returnInUse (ser : Serial) (lapse : Nat) : List Credit → List Credit
  | [] => []
  | c :: cs =>
    if c.inUse && c.serial == ser then { c with inUse := false, lapse := some lapse } :: cs
    else c :: returnInUse ser lapse cs

/-- An UNSTARTED credit is held. -/
def Passages.hasUnstarted (p : Passages) : Bool := p.credits.any fun c => !c.inUse

/-- Add a granted credit; while L is occupied and no passage is in progress its passage starts at once (R142, R146). -/
def Passages.addCredit (p : Passages) (ser : Serial) : Passages :=
  let atOnce := p.occ .leaves && p.passages.isEmpty
  let c : Credit := if atOnce then ⟨ser, true, none⟩ else ⟨ser, false, some p.config.creditLapse⟩
  { p with
    credits := p.credits ++ [c]
    passages := if atOnce then p.passages ++ [⟨some ser, false, false⟩] else p.passages
    stats := { p.stats with grants := bump p.stats.grants } }

/-- Take a grant by the lane's service state (R142).  No grant reaches a lane in EMERGENCY_OPEN (R108); one for a CLOSED lane or
for a lane that holds 2 credits does not arise and has no effect (log entry 20). -/
def State.grantCredit (s : State) (l : Lane) (ser : Serial) : State :=
  let p := s.gate l
  if 2 ≤ p.credits.length then s
  else match p.service with
    | .inService => s.laneChange l fun s => s.modGate l fun p => p.addCredit ser
    | .draining => s.laneChange l fun s => s.modGate l fun p => p.addCredit ser
    | .heldOpen => s.laneChange l fun s => s.modGate l fun p => p.addCredit ser
    | .fault => ((s.modGate l fun p => p.addCredit ser).cancelCredits l .fault).modGate l Passages.discard
    | .emergencyOpen => s
    | .closed => s

/-- An UNSTARTED credit's lapse timer expires: the credit is removed with its record (R143). -/
def State.lapseCredit (s : State) (l : Lane) (pos : Nat) : State :=
  match (s.gate l).credits[pos]? with
  | none => s
  | some c =>
    if c.inUse || c.lapse.isNone then s
    else s.laneChange l fun s =>
      (s.modGate l fun p => { p with
        credits := p.credits.eraseIdx pos
        stats := { p.stats with lapses := bump p.stats.lapses } }).appendUnreserved .mandatory
        { JournalRecord.blank .creditLapsed (some l) with serial := some c.serial }

/-! ### Passage tracker -/

/-- Mark the oldest unmarked passage (R147). -/
def markOldest : List Passage → List Passage
  | [] => []
  | x :: xs => if x.marked then x :: markOldest xs else { x with marked := true } :: xs

/-- Settle one passage: a marked one completes, an unmarked one backs out (R148). -/
def Passages.settleOne (p : Passages) (x : Passage) : Passages :=
  match x.marked, x.credit with
  | true, some ser =>
    match takeInUse ser p.credits with
    | some cs => { p with credits := cs, stats := { p.stats with credited := bump p.stats.credited } }
    | none => p
  | true, none => { p with stats := { p.stats with free := bump p.stats.free } }
  | false, some ser => { p with credits := returnInUse ser p.config.creditLapse p.credits }
  | false, none => p

/-- Settle every passage, oldest first, clear the tailgate latch and end the intrusion episode (R148, R150). -/
def Passages.settle (p : Passages) : Passages := (p.passages.foldl Passages.settleOne p).discard

/-- Set the tailgate mark of the newest passage. -/
def markTailgate : List Passage → List Passage
  | [] => []
  | [x] => [{ x with tailgate := true }]
  | x :: xs => x :: markTailgate xs

/-- A tailgate: found once for the newest passage, with its record, the event and the latch (R149). -/
def State.findTailgate (s : State) (l : Lane) : State :=
  match (s.gate l).passages.getLast? with
  | none => s
  | some x =>
    if x.tailgate then s
    else
      let s := s.modGate l fun p => { p with passages := markTailgate p.passages }
      let s := s.appendUnreserved .ordinary { JournalRecord.blank .tailgate (some l) with serial := x.credit }
      (s.raise (.tailgate l)).modGate l fun p => { p with latch := true }

/-- An intrusion at a segment, when its conditions hold (R150). -/
def State.findIntrusion (s : State) (l : Lane) (seg : DetailName) : State :=
  let p := s.gate l
  if (p.service = .inService ∨ p.service = .draining) ∧ p.leaf.state = .closed ∧ p.credits = [] ∧ p.passages = []
      ∧ p.intrusionOpen = false then
    let s := s.modGate l fun p => { p with intrusionOpen := true }
    let s := s.appendUnreserved .ordinary { JournalRecord.blank .intrusion (some l) with detail := some (.named seg) }
    s.raise (.intrusion l)
  else s

/-- L becomes occupied: the obstruction timer starts; a passage starts, a tailgate or an intrusion is found, or none
(R146, R149, R150, R151). -/
def State.leavesOccupied (s : State) (l : Lane) : State :=
  let s := s.modGate l fun p => { p with obstruction := some p.config.obstruction }
  let p := s.gate l
  if p.hasUnstarted then
    if (p.service = .inService ∨ p.service = .draining ∨ p.service = .heldOpen) ∧ p.passages.length < 2 then
      s.modGate l fun p =>
        let r := startOldest p.credits
        { p with credits := r.1, passages := p.passages ++ [⟨r.2, false, false⟩] }
    else s
  else match p.service with
    | .heldOpen => if p.passages.length < 2 then s.modGate l fun p => { p with passages := p.passages ++ [⟨none, false, false⟩] } else s
    | .emergencyOpen => if p.passages.length < 2 then s.modGate l fun p => { p with passages := p.passages ++ [⟨none, false, false⟩] } else s
    | .inService => if p.passages = [] then s.findIntrusion l .segmentL else s.findTailgate l
    | .draining => if p.passages = [] then s.findIntrusion l .segmentL else s.findTailgate l
    | .closed => s
    | .fault => s

/-- L becomes clear: the obstruction ends; with X occupied a passage is marked, with X clear the passages settle
(R147, R148, R151). -/
def State.leavesClear (s : State) (l : Lane) : State :=
  let reported := (s.gate l).obstructionReported
  let s := s.modGate l fun p => { p with obstruction := none, obstructionReported := false }
  let s := if reported then s.indicateObstruction l false else s
  s.modGate l fun p => if p.occ .exit then { p with passages := markOldest p.passages } else p.settle

/-- X becomes occupied: the oldest unmarked passage is marked, or an intrusion is found at X (R147, R150). -/
def State.exitOccupied (s : State) (l : Lane) : State :=
  if (s.gate l).passages = [] then s.findIntrusion l .segmentX
  else s.modGate l fun p => { p with passages := markOldest p.passages }

/-- X becomes clear: with L clear the passages settle (R148). -/
def State.exitClear (s : State) (l : Lane) : State :=
  s.modGate l fun p => if p.occ .leaves then p else p.settle

/-- The tracker takes the segment changes between the controller before and the controller now: L, then X (R141). -/
def State.trackSegments (s : State) (l : Lane) (b : Passages) : State :=
  let p := s.gate l
  let s := if b.occ .leaves = p.occ .leaves then s else if p.occ .leaves then s.leavesOccupied l else s.leavesClear l
  if b.occ .exit = p.occ .exit then s else if p.occ .exit then s.exitOccupied l else s.exitClear l

/-- Change a lane's beams or their reading, and let tracker and leaf drive take what follows (R135, R141). -/
def State.beamChange (s : State) (l : Lane) (f : Passages → Passages) : State :=
  let b := s.gate l
  s.laneChange l fun s => (s.modGate l f).trackSegments l b

/-- The limit of a lane by its name. -/
def Passages.limit (p : Passages) : Limit → Input
  | .openLimit => p.openLimit
  | .closedLimit => p.closedLimit

/-- Change a limit input. -/
def Passages.modLimit (p : Passages) (k : Limit) (f : Input → Input) : Passages :=
  match k with
  | .openLimit => { p with openLimit := f p.openLimit }
  | .closedLimit => { p with closedLimit := f p.closedLimit }

/-- A limit change reaches the leaf drive: both asserted is a jam, anything else a movement rule (R152, R156). -/
def State.limitChange (s : State) (l : Lane) (k : Limit) (asserted : Bool) : State :=
  let b := s.gate l
  let s := s.modGate l fun p => p.modLimit k fun i => i.accept asserted
  if (s.gate l).bothLimits then s.jam l .bothLimits
  else s.putLeaves l (b.limitReact (s.gate l) k asserted)

/-- The obstruction timer expires (R151). -/
def State.obstructionExpired (s : State) (l : Lane) : State :=
  match (s.gate l).obstruction with
  | none => s
  | some _ =>
    ((s.modGate l fun p => { p with obstruction := none, obstructionReported := true }).raise
      (.obstruction l)).indicateObstruction l true

/-! ### LANE SERVICE and the EMERGENCY line -/

/-- A lane takes a new service state from the host: the fault cause is cleared, JAMMED leaves are commanded to close, or to open
for HOLD_OPEN, and the open demand is taken anew (R137 to R139, R154, R156). -/
def State.hostService (s : State) (l : Lane) (v : Service) : State :=
  let b := s.gate l
  let s := (s.modGate l fun p => { p with faultCause := none }).setService l v
  let s :=
    if b.leaf.state = .jammed then
      s.putLeaves l (if v = .heldOpen then (s.gate l).enterOpening else (s.gate l).enterClosing)
    else s
  (s.leafSettle l b).drainCheck l

/-- LANE SERVICE IN (R137): the reason of a refusal, or none, and the state after. -/
def State.serviceIn (s : State) (l : Lane) : Option Reason × State :=
  let p := s.gate l
  if p.service = .emergencyOpen ∧ s.emergency.accepted then (some .emergency, s)
  else if !p.configured then (some .notConfigured, s)
  else match p.service with
    | .inService => (none, s)
    | .closed => (none, s.hostService l .inService)
    | .draining => (none, s.hostService l .inService)
    | .heldOpen => (none, s.hostService l .inService)
    | .fault => (none, s.hostService l .inService)
    | .emergencyOpen => (none, s.hostService l .inService)

/-- LANE SERVICE OUT (R138). -/
def State.serviceOut (s : State) (l : Lane) : Option Reason × State :=
  let p := s.gate l
  if p.service = .emergencyOpen ∧ s.emergency.accepted then (some .emergency, s)
  else match p.service with
    | .closed => (none, s)
    | .draining => (none, s)
    | .inService => (none, s.hostService l .draining)
    | .heldOpen => (none, s.hostService l .draining)
    | .fault => (none, s.hostService l .draining)
    | .emergencyOpen => (none, s.hostService l .draining)

/-- LANE SERVICE HOLD_OPEN (R139). -/
def State.serviceHoldOpen (s : State) (l : Lane) : Option Reason × State :=
  let p := s.gate l
  if p.service = .emergencyOpen ∧ s.emergency.accepted then (some .emergency, s)
  else if !p.configured then (some .notConfigured, s)
  else match p.service with
    | .heldOpen => (none, s)
    | .fault => (some .laneFault, s)
    | .closed => (none, s.hostService l .heldOpen)
    | .inService => (none, s.hostService l .heldOpen)
    | .draining => (none, s.hostService l .heldOpen)
    | .emergencyOpen => (none, s.hostService l .heldOpen)

/-- One lane at an assertion of the EMERGENCY line (R157). -/
def State.emergencyLane (s : State) (l : Lane) : State :=
  let s := (s.cancelCredits l .emergency).modGate l fun p => { p.discard with faultCause := none }
  let s := s.setService l .emergencyOpen
  let p := s.gate l
  if p.leaf.state = .opening ∨ (p.leaf.state = .opened ∧ p.openLimit.accepted) then
    s.modGate l fun p => { p with leaf := { p.leaf with closeDelay := none } }
  else s.putLeaves l p.enterOpening

end Sys2Proof.Machine
end

