-- ==== Sys2Proof/Machine/Tariff.lean ====
section
/-! DEFINITION. The tariff store (chapter 4): roles, bindings, damage, switchover, the checked reading of bank items, and the
validation of TARIFF CLOSE. -/

namespace Sys2Proof.Machine

/-! ### Checked reading of bank items -/

/-- Findings met so far while a bank is read (R172). -/
structure Tally where
  corrected : Nat
  uncorrected : Nat
deriving DecidableEq, Repr

/-- A value worked out from bank items, with the findings met on the way. -/
structure Rd (α : Type) where
  val : α
  tally : Tally
deriving DecidableEq, Repr

/-- A value that reads nothing. -/
def Rd.ret {α : Type} (x : α) : Rd α := ⟨x, ⟨0, 0⟩⟩

/-- Go on from a value read. -/
def Rd.bind {α β : Type} (r : Rd α) (f : α → Rd β) : Rd β :=
  let r2 := f r.val
  ⟨r2.val, ⟨r.tally.corrected + r2.tally.corrected, r.tally.uncorrected + r2.tally.uncorrected⟩⟩

/-- One checked read of an item, an uncorrectable one taken as `damaged` (R96, R172). -/
def readItem {α : Type} (damaged : α) (x : Stored α) : Rd α :=
  match x.bits with
  | .clean => ⟨x.val, ⟨0, 0⟩⟩
  | .single => ⟨x.val, ⟨1, 0⟩⟩
  | .double => ⟨damaged, ⟨0, 1⟩⟩

/-- One checked read of the item at an index, an uncorrectable one taken as `damaged`. -/
def readAt {α : Type} (damaged : α) (items : List (Stored α)) (i : Nat) : Rd α :=
  readItem damaged ((items[i]?).getD (.fresh damaged))

/-- A header field (R86), taken as 0 when uncorrectable. -/
def Bank.readHeader (b : Bank) (i : Nat) : Rd Nat := readAt 0 b.header i

/-! ### Roles and bindings -/

/-- The other area. -/
def otherArea : AreaId → AreaId
  | .a => .b
  | .b => .a

/-- A bank area. -/
def TariffStore.area (t : TariffStore) : AreaId → Area
  | .a => t.areaA
  | .b => t.areaB

/-- Replace a bank area. -/
def TariffStore.setArea (t : TariffStore) (i : AreaId) (x : Area) : TariffStore :=
  match i with
  | .a => { t with areaA := x }
  | .b => { t with areaB := x }

/-- The active version (R85). -/
def TariffStore.activeVersion (t : TariffStore) : Option Nat := (t.area t.active).version

/-- The area that plays the PENDING role (R85). -/
def TariffStore.pendingId (t : TariffStore) : AreaId := otherArea t.active

/-- The pending version (R85). -/
def TariffStore.pendingVersion (t : TariffStore) : Option Nat := (t.area t.pendingId).version

/-- The area a new transaction binds: the pending one while it is SWITCHING (R10). -/
def TariffStore.toBind (t : TariffStore) : AreaId := if t.pending = .switching then t.pendingId else t.active

/-- A bank is usable: the ACTIVE one with a version and the mark USABLE, or the pending one in SWITCHING (R85). -/
def TariffStore.isUsable (t : TariffStore) (i : AreaId) : Bool :=
  if i = t.active then t.activeVersion.isSome && t.usable else t.pending == .switching

/-- The holder count of an area: the transactions bound to it (R10, R85). -/
def State.holders (s : State) (i : AreaId) : Nat := s.lanes.toList.countP fun u => u.tap.bound == some i

/-- An uncorrectable read in a bank: the ACTIVE one becomes UNUSABLE, the pending one INVALID (R94, R95). -/
def TariffStore.damage (t : TariffStore) (i : AreaId) : TariffStore :=
  if i = t.active then { t with usable := false }
  else { t with pending := .invalid, validation := .memoryError, effective := none }

/-- Take what a reader found in a bank: count it, raise its event, and mark the bank (R94, R95, R175). -/
def State.noteBank (s : State) (i : AreaId) (t : Tally) : State :=
  let s := s.noteFindings .tariff t.corrected t.uncorrected
  if t.uncorrected = 0 then s else { s with tariff := s.tariff.damage i }

/-! ### Switchover -/

/-- Complete the switchover: the roles change places, the record is appended, the event raised (R93). -/
def State.completeSwitch (s : State) : State :=
  let t := s.tariff
  let new := t.pendingVersion
  let old := t.activeVersion
  let t2 := t.setArea t.active { t.area t.active with version := none }
  let s := { s with tariff := { t2 with
    active := t.pendingId, usable := true, pending := .empty, effective := none, validation := .none } }
  (s.appendUnreserved .mandatory
    { JournalRecord.blank .tariffSwitch none with version := new, prior := some old, secondTime := t.effective }).raise
    .tariffSwitched

/-- Complete the switchover if the pending bank is SWITCHING and no transaction holds the ACTIVE bank (R93). -/
def State.trySwitch (s : State) : State :=
  if s.tariff.pending = .switching ∧ s.holders s.tariff.active = 0 then s.completeSwitch else s

/-- A SCHEDULED bank whose effective time station time has reached. -/
def State.switchDue (s : State) : Bool :=
  s.tariff.pending == .scheduled && (s.tariff.effective.any fun t => t ≤ s.clock.time)

/-- A scheduled bank that is due enters SWITCHING (R91), and completes at once if it can (R93). -/
def State.enterSwitching (s : State) : State :=
  if s.switchDue then State.trySwitch { s with tariff := { s.tariff with pending := .switching } } else s

/-! ### Writing a bank (R86 to R88) -/

/-- Store items one after another: an armed injection takes the first (R178). -/
def State.storeAll {α : Type} (s : State) (m : Memory) : List α → List (Stored α) × State
  | [] => ([], s)
  | x :: xs => let r := s.store m x; (r.1 :: xs.map Stored.fresh, r.2)

/-- Replace consecutive items from an index on. -/
def putAt {α : Type} (items : List α) (start : Nat) (xs : List α) : List α :=
  items.take start ++ xs ++ items.drop (start + xs.length)

/-- Write items into one section of the pending bank. -/
def State.writePart {α : Type} (s : State) (get : Bank → List (Stored α)) (put : Bank → List (Stored α) → Bank) (start : Nat)
    (xs : List α) : State :=
  let (items, s) := s.storeAll .tariff xs
  let i := s.tariff.pendingId
  let a := s.tariff.area i
  { s with tariff := s.tariff.setArea i { a with bank := put a.bank (putAt (get a.bank) start items) } }

/-- TARIFF BEGIN clears the pending bank; HEADER index 0 is the first item written (R87, R171, R178). -/
def State.clearPending (s : State) (version : Nat) : State :=
  let (first, s) := s.store .tariff 0
  let bank := { Bank.cleared with header := first :: List.replicate 13 (.fresh 0) }
  let t := s.tariff.setArea s.tariff.pendingId ⟨bank, some version⟩
  { s with tariff := { t with pending := .loading, validation := .none, effective := none } }

/-! ### Validation (R89) -/

/-- The range of a header field at TARIFF CLOSE (R86). -/
def headerRange : Nat → Nat × Nat
  | 0 => (0, 1439) | 1 => (1, 100) | 2 => (0, 180) | 3 => (10, 300) | 4 => (0, 2000) | 5 => (0, 5000) | 6 => (0, 100000)
  | 7 => (1, 20000) | 8 => (0, 128) | 9 => (1, 128) | 10 => (1, 8) | 11 => (1, 8) | 12 => (1, 8) | _ => (0, 32)

/-- A header field's content. -/
def Bank.headerVal (b : Bank) (i : Nat) : Nat := ((b.header[i]?).getD (.fresh 0)).val

/-- A header field lies in its range. -/
def Bank.headerOk (b : Bank) (i : Nat) : Bool :=
  (headerRange i).1 ≤ b.headerVal i && b.headerVal i ≤ (headerRange i).2

/-- The bands in use of a day type, 0 to 2 (R86). -/
def Bank.bandsInUse (b : Bank) (dayType : Nat) : List (Stored Band) :=
  (b.bands.drop (8 * dayType)).take (min 8 (b.headerVal (10 + dayType)))

/-- Bands in use have their first start at 0, strictly ascending starts, and factors in range (R89, check 5). -/
def bandsOk : List (Stored Band) → Bool
  | [] => false
  | x :: xs => x.val.start == 0 && ((x :: xs).zip xs).all (fun p => p.1.val.start < p.2.val.start)
      && (x :: xs).all fun y => 250 ≤ y.val.factor && y.val.factor ≤ 4000

/-- The last rule in use ends its chain (R89, check 6). -/
def Bank.chainOk (b : Bank) : Bool :=
  let n := b.headerVal 8
  n == 0 || !((b.rules[n - 1]?).getD (.fresh Rule.never)).val.chain

/-- The first failed check of R89, or NONE. -/
def Bank.validate (b : Bank) : Validation :=
  if !([0, 1, 2, 3, 4, 5, 6, 9, 10, 11, 12, 13].all b.headerOk) then .headerRange
  else if !([1, 2, 5, 10, 20, 50, 100].contains (b.headerVal 1)) then .step
  else if !(b.headerOk 7) then .maxFare
  else if !(b.headerOk 8) then .ruleCount
  else if !([0, 1, 2].all fun d => bandsOk (b.bandsInUse d)) then .bands
  else if !b.chainOk then .ruleChain
  else .none

/-- The stored bits of every item the read-through of TARIFF CLOSE reads, in the order of the sections: every item in use
(R86, R89; log entry 25). -/
def Bank.readThrough (b : Bank) : List Integrity :=
  b.header.map (·.bits) ++ b.stations.map (·.bits) ++ b.baseFares.map (·.bits) ++ b.travelTimes.map (·.bits)
    ++ b.incompleteFares.map (·.bits) ++ b.unrecordedFares.map (·.bits)
    ++ [0, 1, 2].flatMap (fun d => (b.bandsInUse d).map (·.bits)) ++ b.classes.map (·.bits)
    ++ (b.holidays.take (b.headerVal 13)).map (·.bits) ++ (b.rules.take (b.headerVal 8)).map (·.bits)

/-- Read items until the first uncorrectable one: the findings (R89). -/
def readThroughTally : List Integrity → Tally
  | [] => ⟨0, 0⟩
  | .clean :: xs => readThroughTally xs
  | .single :: xs => let t := readThroughTally xs; { t with corrected := t.corrected + 1 }
  | .double :: _ => ⟨0, 1⟩

/-- TARIFF CLOSE in LOADING: READY, or INVALID with the first failed check or MEMORY_ERROR (R89). -/
def State.closeBank (s : State) : State :=
  let b := (s.tariff.area s.tariff.pendingId).bank
  let tally := readThroughTally b.readThrough
  let s := s.noteFindings .tariff tally.corrected tally.uncorrected
  let result := if tally.uncorrected = 0 then b.validate else .memoryError
  { s with tariff := { s.tariff with pending := (if result = .none then .ready else .invalid), validation := result } }

/-! ### Readiness (R9) -/

/-- The readiness reason of the first failing condition of R9, for a lane that condition 5 applies to or not.  A station entry
that is uncorrectable reads as NO_TARIFF, since its read makes the bank unusable (R96). -/
def State.readiness (s : State) (ordinary : Bool) : Readiness :=
  let t := s.tariff
  let entry := ((t.area t.toBind).bank.stations[s.settings.station]?).getD (.fresh none)
  if !s.clock.timeSet then .timeNotSet
  else if !s.settings.isSet then .stationNotSet
  else if !t.isUsable t.toBind then .noTariff
  else if entry.bits = .double then .noTariff
  else if entry.val.isNone then .stationUnknown
  else if ordinary && !s.journal.isOpen then .journalFull
  else .ready

/-- The checked read that condition 4 of R9 makes (R94, R96).  It is made only when conditions 1 to 3 hold, which the spec does not say
(DESIGN CHOICE, log entry 52). -/
def State.readinessRead (s : State) : State :=
  let t := s.tariff
  if s.clock.timeSet && s.settings.isSet && t.isUsable t.toBind then
    s.noteBank t.toBind (readAt none (t.area t.toBind).bank.stations s.settings.station).tally
  else s

/-- The readiness reason STATUS GET reports for a lane (R9).  An uncorrectable station entry is reported as NO_TARIFF and neither
counted nor marked against its bank, since STATUS GET changes nothing in any block (R187); R171, R94 and R96 name no such exception
(DESIGN CHOICE, log entry 44). -/
def State.laneReadiness (s : State) (l : Lane) : Readiness :=
  match (s.gate l).service with
  | .inService => s.readiness true
  | .emergencyOpen => s.readiness false
  | _ => .notInService

end Sys2Proof.Machine
end

