-- ==== Sys2Proof/Machine/Fare.lean ====
section
/-! DEFINITION. The fare unit (chapter 3): calendar, pair evaluation, rule program, candidates, penalties, purse checks and the
values written to the card.  Every tariff item it uses is a checked read, an uncorrectable one taken as 0 (R55). -/

namespace Sys2Proof.Machine

/-! ### Calendar (R56 to R58) -/

/-- The service day number of a station time (R56); 0 before the first service day. -/
def serviceDay (startMinute time : Nat) : Nat := (time - startMinute * 60) / 86400

/-- The minute of the service day (R56); 0 before the first service day. -/
def dayMinute (startMinute time : Nat) : Nat := (time - startMinute * 60) % 86400 / 60

/-- The day of the week of a service day, 0 for Monday (R57). -/
def dayOfWeek (day : Nat) : Nat := (day + 5) % 7

/-- The week number of a service day (R57). -/
def weekNumber (day : Nat) : Nat := (day + 5) / 7

/-- Look a service day up in the holidays in use, stopping at the first that equals it (R58, R171). -/
def findHoliday (day : Nat) : List (Stored Nat) → Rd Bool
  | [] => .ret false
  | x :: xs => (readItem 0 x).bind fun h => if h = day then .ret true else findHoliday day xs

/-- The day type of a service day (R58). -/
def Bank.dayType (b : Bank) (day : Nat) : Rd DayType :=
  if dayOfWeek day = 6 then .ret .sundayHoliday
  else (b.readHeader 13).bind fun n => (findHoliday day (b.holidays.take n)).bind fun hit =>
    .ret (if hit then .sundayHoliday else if dayOfWeek day = 5 then .saturday else .weekday)

/-- A day type as the rule program compares it and as the BANDS section numbers it (R58, R86). -/
def dayTypeNumber : DayType → Nat
  | .weekday => 0
  | .saturday => 1
  | .sundayHoliday => 2

/-! ### Lookups (R59) -/

/-- A zone lookup: an uncorrectable entry is taken as zone 0 (R55, R59). -/
def Bank.zoneOf (b : Bank) (station : Nat) : Rd (Option Nat) := readItem (some 0) ((b.stations[station]?).getD (.fresh none))

/-- The better of the band kept so far and the one read next: the greatest start not above the minute (R59).  In a bank that has
passed validation starts differ; two are equal only when a damaged band is taken as 0, and which then wins is a free value (log
entry 31). -/
def takeBand (minute : Nat) (best : Option Band) (y : Band) : Option Band :=
  if minute < y.start then best
  else match best with
    | none => some y
    | some b => if b.start < y.start ∨ (b.start = y.start ∧ Config.laterOfTiedBands minute = true) then some y else some b

/-- The bands in use read one after another, keeping the one the lookup takes (R59, R171). -/
def bestBand (minute : Nat) : List (Stored Band) → Option Band → Rd (Option Band)
  | [], best => .ret best
  | x :: xs, best => (readItem ⟨0, 0⟩ x).bind fun y => bestBand minute xs (takeBand minute best y)

/-- A band lookup: the factor for a day type and a minute (R59).  With no band in use, as when the band count is damaged and so
taken as 0, the factor is a free value (log entry 31). -/
def Bank.bandFactor (b : Bank) (d : DayType) (minute : Nat) : Rd Nat :=
  (b.readHeader (10 + dayTypeNumber d)).bind fun n =>
    (bestBand minute ((b.bands.drop (8 * dayTypeNumber d)).take n) none).bind fun y =>
      .ret (match y with
        | some y => y.factor
        | none => Config.factorWithoutBand minute)

/-- A class of the bank. -/
def Bank.readClass (b : Bank) (cls : Nat) : Rd TariffClass := readAt ⟨0, 0, 0⟩ b.classes cls

/-! ### Rule program (R63 to R66) -/

/-- The values that the nine rule fields take in a pair (R63). -/
structure PairFields where
  originStation : Nat
  destStation : Nat
  originZone : Nat
  destZone : Nat
  cls : Nat
  dayType : Nat
  originMinute : Nat
  dwell : Nat
  same : Nat
deriving DecidableEq, Repr

/-- The value of a rule field. -/
def PairFields.value (f : PairFields) : RuleField → Nat
  | .originStation => f.originStation
  | .destStation => f.destStation
  | .originZone => f.originZone
  | .destZone => f.destZone
  | .cls => f.cls
  | .dayType => f.dayType
  | .originMinute => f.originMinute
  | .dwellMinutes => f.dwell
  | .sameStation => f.same

/-- The working values of a pair: base held signed and unclamped during the walk (R65). -/
structure Working where
  base : Int
  factor : Nat
  discount : Nat
deriving DecidableEq, Repr

/-- An entry's condition (R63). -/
def Rule.holds (r : Rule) (f : PairFields) : Bool := r.low ≤ f.value r.field && f.value r.field ≤ r.high

/-- Apply an action other than STOP (R65). -/
def Rule.apply (r : Rule) (w : Working) : Working :=
  match r.action with
  | .setBase => { w with base := r.value }
  | .addBase => { w with base := w.base + r.value }
  | .setFactor => { w with factor := r.value.toNat }
  | .setDiscount => { w with discount := r.value.toNat }
  | .stop => w

/-- What an uncorrectable rule entry is taken as: every part 0 (R55). -/
def Rule.zero : Rule := ⟨.originStation, 0, 0, false, .setBase, 0⟩

/-- The walk of the rule program over the entries still ahead: `count` evaluations made, `skip` while the rest of a failed chain
is passed over; none when the walk overruns the limit (R64, R66). -/
def walkRules (f : PairFields) (limit : Nat) : List (Stored Rule) → (count : Nat) → (skip : Bool) → Working → Rd (Option Working)
  | [], _, _, w => .ret (some w)
  | e :: es, count, true, w => (readItem Rule.zero e).bind fun r => walkRules f limit es count r.chain w
  | e :: es, count, false, w =>
    if count = limit then .ret none
    else (readItem Rule.zero e).bind fun r =>
      if !r.holds f then walkRules f limit es (count + 1) r.chain w
      else if r.chain then walkRules f limit es (count + 1) false w
      else if r.action = .stop then .ret (some w)
      else walkRules f limit es (count + 1) false (r.apply w)

/-! ### Stages 4 to 6 (R67 to R70) -/

/-- The clamp of the walk's base (R67). -/
def clampBase (base : Int) : Nat := min 20000 base.toNat

/-- Stage 4, the time band (R68). -/
def bandedFare (maxFare base factor : Nat) : Nat := min maxFare ((base * factor + 500) / 1000)

/-- Stage 5, the concession (R69). -/
def concessionFare (maxFare banded discount : Nat) : Nat := min maxFare (banded - banded * discount / 1000)

/-- Stage 6, rounding to the step (R70). -/
def steppedFare (maxFare conc step : Nat) : Nat := min maxFare ((conc + step / 2) / step * step)

/-- Stages 3's clamp and 4 to 6 in order. -/
def pricedFare (maxFare step : Nat) (w : Working) : Nat :=
  steppedFare maxFare (concessionFare maxFare (bandedFare maxFare (clampBase w.base) w.factor) w.discount) step

/-! ### Pair evaluation (R60 to R62) -/

/-- The result of a pair evaluation and the flags its run sets (R60). -/
structure PairResult where
  fare : Nat
  unknownStation : Bool
  overrun : Bool
deriving DecidableEq, Repr

/-- The dwell of a pair in minutes (R63). -/
def dwellMinutes (now origin : Nat) : Nat := min 65535 (ageAt now origin / 60)

/-- The evaluation limit, compared before an entry is examined and so used only by a walk that meets one (R64, R66); read once in
a pair (DESIGN CHOICE, log entry 18). -/
def Bank.walkLimit (b : Bank) (count : Nat) : Rd Nat := if count = 0 then .ret 0 else b.readHeader 9

/-- Stages 2 to 6 of a pair whose zones are known (R62 to R70); `maxFare` is the pair's one read of it.  The spec does not say how
often a pair reads a header item that it uses more than once (the rule count that every index is compared with, the evaluation limit,
the max fare of stages 4 to 6, the rounding step that R70 names three times, the start minute of the service day): the model reads
each once in a pair (DESIGN CHOICE, log entry 18). -/
def Bank.pricePair (b : Bank) (here now cls station time originZone destZone maxFare : Nat) : Rd PairResult :=
  (readAt 0 b.baseFares (originZone * 16 + destZone)).bind fun base =>
  (b.readHeader 0).bind fun start =>
  (b.dayType (serviceDay start time)).bind fun day =>
  (b.bandFactor day (dayMinute start time)).bind fun factor =>
  (b.readClass cls).bind fun c =>
  (b.readHeader 8).bind fun count =>
  (b.walkLimit count).bind fun limit =>
  let fields : PairFields :=
    ⟨station, here, originZone, destZone, cls, dayTypeNumber day, dayMinute start time, dwellMinutes now time,
     if station = here then 1 else 0⟩
  let initial : Working := ⟨base, factor, c.discount⟩
  (walkRules fields limit (b.rules.take count) 0 false initial).bind fun w =>
  (b.readHeader 1).bind fun step =>
  .ret ⟨pricedFare maxFare step (w.getD initial), false, w.isNone⟩

/-- A pair evaluation from a station and a time of the card to this station now (R60, R61). -/
def Bank.evalPair (b : Bank) (here now cls station time : Nat) : Rd PairResult :=
  (b.zoneOf station).bind fun originZone =>
  (b.zoneOf here).bind fun destZone =>
  (b.readHeader 7).bind fun maxFare =>
  match originZone, destZone with
  | some o, some d => b.pricePair here now cls station time o d maxFare
  | _, _ => .ret ⟨maxFare, true, false⟩

/-! ### Accumulators, candidates and charges (R72 to R77) -/

/-- The class has expired (R62). -/
def hasExpired (c : CardImage) (today : Nat) : Bool := c.classExpiry != 0 && c.classExpiry < today

/-- The effective class (R62). -/
def effectiveClass (c : CardImage) (today : Nat) : Nat := if hasExpired c today then 0 else c.cls

/-- An effective amount spent: 0 when the card's period is earlier than today's (R72). -/
def effectiveSpent (period spent today : Nat) : Nat := if period < today then 0 else spent

/-- A cap candidate; a cap of 0 is absent (R73). -/
def capCandidate (cap spent : Nat) : Nat := if cap = 0 then 65535 else cap - spent

/-- The JOURNEY candidate (R73). -/
def journeyCandidate (pair : Option Nat) (charged : Nat) : Nat :=
  match pair with
  | none => 65535
  | some f => f - charged

/-- The charge and its reason: the smallest candidate, the lowest index winning a tie (R74). -/
def chooseCandidate (leg journey day week : Nat) : Nat × FareReason :=
  let m := min (min leg journey) (min day week)
  (m, if leg = m then .leg else if journey = m then .journey else if day = m then .dayCap else .weekCap)

/-- A charge worked out, its reason, and the flags set on the way. -/
structure Charge where
  amount : Nat
  reason : FareReason
  unknownStation : Bool
  classExpired : Bool
  overrun : Bool
deriving DecidableEq, Repr

/-- The exit fare (R71 to R74). -/
def Bank.exitFare (b : Bank) (here now today : Nat) (c : CardImage) : Rd Charge :=
  let cls := effectiveClass c today
  (b.evalPair here now cls c.w.entryStation c.w.entryTime).bind fun leg =>
  (if c.w.journeyStation = c.w.entryStation then .ret none
   else (b.evalPair here now cls c.w.journeyStation c.w.journeyTime).bind fun j => .ret (some j)).bind
    fun (journey : Option PairResult) =>
  (b.readClass cls).bind fun k =>
  let daily := effectiveSpent c.w.accDay c.w.daily today
  let weekly := effectiveSpent c.w.accWeek c.w.weekly (weekNumber today)
  let pick := chooseCandidate leg.fare (journeyCandidate (journey.map (·.fare)) c.w.journeyCharged)
    (capCandidate k.dailyCap daily) (capCandidate k.weeklyCap weekly)
  .ret ⟨pick.1, pick.2, leg.unknownStation || journey.any (·.unknownStation), hasExpired c today,
    leg.overrun || journey.any (·.overrun)⟩

/-- A penalty for a station's zone from one of the two penalty sections (R76, R77). -/
def Bank.penalty (b : Bank) (fares : List (Stored Nat)) (station : Nat) : Rd Charge :=
  (b.zoneOf station).bind fun zone =>
  (b.readHeader 7).bind fun maxFare =>
  match zone with
  | none => .ret ⟨maxFare, .penalty, true, false, false⟩
  | some z => (readAt 0 fares z).bind fun f => .ret ⟨min maxFare f, .penalty, false, false, false⟩

/-- The computation the transaction kind and the trip state choose (R54); `exit` says an EXIT transaction. -/
def Bank.charge (b : Bank) (exit : Bool) (here now today : Nat) (c : CardImage) : Rd Charge :=
  match exit, c.w.trip with
  | false, .outside => .ret ⟨0, .none, false, false, false⟩
  | false, .inside => b.penalty b.incompleteFares c.w.entryStation
  | true, .inside => b.exitFare here now today c
  | true, .outside => b.penalty b.unrecordedFares here

/-! ### Purse checks and written values (R78 to R82) -/

/-- The purse checks, each limit read when its check is reached: none when the new purse passes (R55, R78, R79). -/
def Bank.purseCheck (b : Bank) (exit : Bool) (purse : Int) : Rd (Option ResultCode) :=
  (b.readHeader 4).bind fun overdraft =>
  if purse < -(overdraft : Int) then .ret (some .insufficientFunds)
  else (b.readHeader 6).bind fun purseMax =>
    if (purseMax : Int) < purse then .ret (some .insufficientFunds)
    else if exit then .ret none
    else (b.readHeader 5).bind fun minimum => .ret (if purse < (minimum : Int) then some .lowBalance else none)

/-- The accumulators and the purse that every charge writes (R80). -/
def writeCharged (w : Written) (amount today : Nat) : Written :=
  { w with
    purse := w.purse - amount
    daily := min 65535 (effectiveSpent w.accDay w.daily today + amount)
    weekly := min 65535 (effectiveSpent w.accWeek w.weekly (weekNumber today) + amount)
    accDay := max w.accDay today
    accWeek := max w.accWeek (weekNumber today) }

/-- The further values an exit writes (R81). -/
def writeExit (w : Written) (here now amount : Nat) (reason : FareReason) : Written :=
  { w with
    trip := .outside
    lastExitStation := here
    lastExitTime := now
    lastExitPenalty := reason == .penalty
    journeyCharged := min 65535 (w.journeyCharged + amount) }

/-- The conditions of a continuation that read no tariff item (R82). -/
def mayContinue (w : Written) : Bool := w.trip == .outside && w.lastExitStation != 0 && !w.lastExitPenalty

/-- The entry continues a journey (R82). -/
def continuesJourney (w : Written) (now window : Nat) : Bool :=
  mayContinue w && ageAt now w.lastExitTime ≤ window * 60 && window != 0

/-- The further values an entry writes (R82). -/
def writeEntry (w : Written) (here now window : Nat) : Written :=
  if continuesJourney w now window then { w with trip := .inside, entryStation := here, entryTime := now }
  else
    { w with
      trip := .inside
      entryStation := here
      entryTime := now
      journeyStation := here
      journeyTime := now
      journeyCharged := 0 }

/-- The fare unit's answer (R53). -/
inductive FareAnswer where
  | charge (amount : Nat) (reason : FareReason) (flags : RecordFlags) (values : Written)
  | refuse (code : ResultCode)
deriving DecidableEq, Repr

/-- The flags of an answer (R84). -/
def Charge.flags (k : Charge) (c : CardImage) (today : Nat) : RecordFlags :=
  { RecordFlags.empty with
    ruleOverrun := k.overrun
    unknownStation := k.unknownStation
    classExpired := k.classExpired
    clockBehind := decide (today < c.w.accDay) || decide (weekNumber today < c.w.accWeek) }

/-- The transfer window, read when every condition of a continuation that reads no tariff item holds (R55, R82). -/
def Bank.window (b : Bank) (w : Written) : Rd Nat := if mayContinue w then b.readHeader 2 else .ret 0

/-- The new values of the written fields (R80 to R82). -/
def Bank.newValues (b : Bank) (exit : Bool) (here now today : Nat) (w : Written) (k : Charge) : Rd Written :=
  let paid := writeCharged w k.amount today
  if exit then .ret (writeExit paid here now k.amount k.reason)
  else (b.window w).bind fun window => .ret (writeEntry paid here now window)

/-- A fare request served whole against the bound bank (R53, R54), and whether a walk overran (R66). -/
def Bank.fare (b : Bank) (exit : Bool) (here now : Nat) (c : CardImage) : Rd (FareAnswer × Bool) :=
  (b.readHeader 0).bind fun start =>
  let today := serviceDay start now
  (b.charge exit here now today c).bind fun k =>
  (b.purseCheck exit (c.w.purse - k.amount)).bind fun refusal =>
  match refusal with
  | some code => .ret (.refuse code, k.overrun)
  | none => (b.newValues exit here now today c.w k).bind fun v =>
    .ret (.charge k.amount k.reason (k.flags c today) v, k.overrun)

end Sys2Proof.Machine
end

