-- ==== Sys2Proof/Machine/Operands.lean ====
section
/-! DEFINITION. The operands of the commands: lane numbers, the card image's bytes, lane settings, tariff items, templates and
result map items, each checked and brought into range as its owning rule gives. -/

namespace Sys2Proof.Machine

/-- A lane number of a request body; none outside 0..3. -/
def laneOf (b : Byte) : Option Lane := if h : b.toNat < 4 then some ⟨b.toNat, h⟩ else none

/-! ### Card image (R201) -/

/-- The IDENTIFY answer's 12 bytes taken apart at the offsets of R201's table. -/
def identifyAnswerAt (bs : List Byte) : IdentifyAnswer where
  serial := wordAt 64 bs 0
  network := wordAt 16 bs 8
  keyVersion := byteAt bs 10
  status := byteAt bs 11

/-- The 48 bytes of the card image taken apart at the offsets of R201's table. -/
def rawImageAt (bs : List Byte) : RawImage where
  serial := wordAt 64 bs 0
  network := wordAt 16 bs 8
  keyVersion := byteAt bs 10
  status := byteAt bs 11
  cls := byteAt bs 12
  classExpiry := wordAt 16 bs 13
  purse := wordAt 24 bs 15
  counter := wordAt 24 bs 18
  trip := byteAt bs 21
  entryStation := byteAt bs 22
  entryTime := wordAt 32 bs 23
  journeyStation := byteAt bs 27
  journeyTime := wordAt 32 bs 28
  journeyCharged := wordAt 16 bs 32
  lastExitStation := byteAt bs 34
  lastExitTime := wordAt 32 bs 35
  lastExitPenalty := byteAt bs 39
  accDay := wordAt 16 bs 40
  daily := wordAt 16 bs 42
  accWeek := wordAt 16 bs 44
  weekly := wordAt 16 bs 46

/-- The 8 bytes of a proof, as they follow the image in a READ answer (R201). -/
def proofAt (bs : List Byte) : Check := wordAt 64 bs 0

/-- The written fields of an image as read. -/
def decodeWritten (r : RawImage) : Written where
  status := if r.status = 0 then .active else .blocked
  purse := r.purse.toInt
  trip := if r.trip = 0 then .outside else .inside
  entryStation := r.entryStation.toNat
  entryTime := r.entryTime.toNat
  journeyStation := r.journeyStation.toNat
  journeyTime := r.journeyTime.toNat
  journeyCharged := r.journeyCharged.toNat
  lastExitStation := r.lastExitStation.toNat
  lastExitTime := r.lastExitTime.toNat
  lastExitPenalty := r.lastExitPenalty != 0
  accDay := r.accDay.toNat
  daily := r.daily.toNat
  accWeek := r.accWeek.toNat
  weekly := r.weekly.toNat

/-- The card image that the bytes of a READ answer spell: three one-byte fields decode as zero or not (R201). -/
def decodeImage (r : RawImage) : CardImage where
  serial := r.serial
  network := r.network.toNat
  keyVersion := r.keyVersion.toNat
  cls := r.cls.toNat
  classExpiry := r.classExpiry.toNat
  counter := r.counter.toNat
  w := decodeWritten r

/-- The bytes of the written fields as a COMMIT carries them, in the order of R201's table. -/
def writtenBytes (w : Written) : List Byte :=
  [if w.status = .active then 0 else 1] ++ beSigned 3 w.purse ++ [if w.trip = .outside then 0 else 1]
    ++ beBytes 1 w.entryStation ++ beBytes 4 w.entryTime ++ beBytes 1 w.journeyStation ++ beBytes 4 w.journeyTime
    ++ beBytes 2 w.journeyCharged ++ beBytes 1 w.lastExitStation ++ beBytes 4 w.lastExitTime
    ++ [boolByte w.lastExitPenalty] ++ beBytes 2 w.accDay ++ beBytes 2 w.daily ++ beBytes 2 w.accWeek ++ beBytes 2 w.weekly

/-- A COMMIT on the reader port: expected counter, written fields, proof (R201). -/
def commitBytes (expected : Nat) (w : Written) (proof : Check) : List Byte :=
  beBytes 3 expected ++ writtenBytes w ++ beBytes 8 proof.toNat

/-! ### Lane settings (R134) -/

/-- The checks of R134 that refuse BAD_REQUEST, apart from the lane number. -/
def settingsBad (x : LaneSettings) : Bool :=
  1 < x.kind.toNat || 1 < x.polarity.toNat || 1000 < x.startDuty.toNat || 1000 < x.runDuty.toNat || 1000 < x.holdDuty.toNat
    || 64 ≤ x.mask.toNat

/-- A mask that holds both beams of one segment (R134, R141). -/
def maskBlind (m : BitVec 6) : Bool :=
  (m.getLsbD 0 && m.getLsbD 1) || (m.getLsbD 2 && m.getLsbD 3) || (m.getLsbD 4 && m.getLsbD 5)

/-- The configuration applied: each timing setting clamped to its range (R134). -/
def appliedSettings (x : LaneSettings) : LaneConfig where
  kind := some (if x.kind = 0 then .entry else .exit)
  creditLapse := clampNat 2 20 x.creditLapse.toNat
  closeDelay := clampNat 0 2000 x.closeDelay.toNat
  leafTravel := clampNat 300 3000 x.leafTravel.toNat
  obstruction := clampNat 10 120 x.obstruction.toNat
  debounce := clampNat 5 100 x.debounce.toNat
  mask := x.mask.truncate 6
  polarity := if x.polarity = 0 then .activeHigh else .activeLow
  startDuty := x.startDuty.toNat
  runDuty := x.runDuty.toNat
  holdDuty := x.holdDuty.toNat
  startPhase := clampNat 0 500 x.startPhase.toNat
  indicatorHold := clampNat 500 10000 x.indicatorHold.toNat

/-- At least one timing setting was clamped (R134). -/
def settingsClamped (x : LaneSettings) : Bool :=
  let c := appliedSettings x
  c.creditLapse != x.creditLapse.toNat || c.closeDelay != x.closeDelay.toNat || c.leafTravel != x.leafTravel.toNat
    || c.obstruction != x.obstruction.toNat || c.debounce != x.debounce.toNat || c.startPhase != x.startPhase.toNat
    || c.indicatorHold != x.indicatorHold.toNat

/-- A lane kind as the position of its name (R134, R198). -/
def kindByte : LaneKind → Byte
  | .entry => 0
  | .exit => 1

/-- The settings after the kind, in the order of R134's table. -/
def settingBytes (c : LaneConfig) : List Byte :=
  beBytes 1 c.creditLapse ++ beBytes 2 c.closeDelay ++ beBytes 2 c.leafTravel
    ++ beBytes 1 c.obstruction ++ beBytes 1 c.debounce ++ beBytes 1 c.mask.toNat
    ++ [if c.polarity = .activeHigh then 0 else 1] ++ beBytes 2 c.startDuty ++ beBytes 2 c.runDuty ++ beBytes 2 c.holdDuty
    ++ beBytes 2 c.startPhase ++ beBytes 2 c.indicatorHold

/-- The settings as applied in LANE CONFIG's reply.  No presence byte stands before the kind: a configuration that R134 has applied has
one, and the request carries none either (DEDUCED, log entry 17). -/
def configBytes (c : LaneConfig) : List Byte := (c.kind.map kindByte).toList ++ settingBytes c

/-- A lane's configuration in STATUS GET, where an unconfigured lane's kind is absent, so that a presence byte stands before it (R135,
R160, R198; DEDUCED, log entry 17). -/
def reportedConfig (c : LaneConfig) : List Byte := optional 1 (c.kind.map fun k => [kindByte k]) ++ settingBytes c

/-! ### Tariff items (R86, R88) -/

/-- The number of indices of a section (R86). -/
def partSize : BankPart → Nat
  | .header => 14 | .stations => 256 | .baseFares => 256 | .travelTimes => 256 | .incompleteFares => 16
  | .unrecordedFares => 16 | .bands => 24 | .classes => 8 | .holidays => 32 | .rules => 128

/-- The value range of a rule action; the wider range of R88 for STOP (R65, R88). -/
def actionRange : RuleAction → Int × Int
  | .setBase => (0, 20000)
  | .addBase => (-20000, 20000)
  | .setFactor => (250, 4000)
  | .setDiscount => (0, 1000)
  | .stop => (-20000, 20000)

/-- An item lies in its section's write range (R86, R88); an item laid out for another section does not. -/
def itemOk : BankPart → TariffItem → Bool
  | .header, .number v => v < 2 ^ 32
  | .stations, .zone z => z.all (· < 16)
  | .baseFares, .number v => v ≤ 20000
  | .travelTimes, .number v => v ≤ 255
  | .incompleteFares, .number v => v ≤ 20000
  | .unrecordedFares, .number v => v ≤ 20000
  | .bands, .band start factor => start ≤ 1439 && 250 ≤ factor && factor ≤ 4000
  | .classes, .cls discount daily weekly => discount ≤ 1000 && daily ≤ 65535 && weekly ≤ 65535
  | .holidays, .number v => v ≤ 65535
  | .rules, .rule field low high _ action value =>
    (ruleFieldOf field).isSome && low ≤ 65535 && high ≤ 65535
      && (match ruleActionOf action with
          | none => false
          | some a => (actionRange a).1 ≤ value && value ≤ (actionRange a).2)
  | _, _ => false

/-- The number an item holds. -/
def itemNumber : TariffItem → Nat
  | .number v => v
  | _ => 0

/-- The zone an item holds. -/
def itemZone : TariffItem → Option Nat
  | .zone z => z
  | _ => none

/-- The band an item holds. -/
def itemBand : TariffItem → Band
  | .band start factor => ⟨start, factor⟩
  | _ => ⟨0, 0⟩

/-- The class an item holds. -/
def itemClass : TariffItem → TariffClass
  | .cls discount daily weekly => ⟨discount, daily, weekly⟩
  | _ => ⟨0, 0, 0⟩

/-- The rule an item holds.  The chain flag is bit 0 of its byte; R88 and R198 do not say what bits 1 to 7 mean or whether they are
refused, and the model ignores them (DESIGN CHOICE, log entry 17). -/
def itemRule : TariffItem → Rule
  | .rule field low high chain action value =>
    ⟨(ruleFieldOf field).getD .originStation, low, high, chain.getLsbD 0, (ruleActionOf action).getD .stop, value⟩
  | _ => Rule.never

/-- Write checked items into a section of the pending bank (R88). -/
def State.writeItems (s : State) (part : BankPart) (start : Nat) (items : List TariffItem) : State :=
  match part with
  | .header => s.writePart Bank.header (fun b x => { b with header := x }) start (items.map itemNumber)
  | .stations => s.writePart Bank.stations (fun b x => { b with stations := x }) start (items.map itemZone)
  | .baseFares => s.writePart Bank.baseFares (fun b x => { b with baseFares := x }) start (items.map itemNumber)
  | .travelTimes => s.writePart Bank.travelTimes (fun b x => { b with travelTimes := x }) start (items.map itemNumber)
  | .incompleteFares => s.writePart Bank.incompleteFares (fun b x => { b with incompleteFares := x }) start (items.map itemNumber)
  | .unrecordedFares => s.writePart Bank.unrecordedFares (fun b x => { b with unrecordedFares := x }) start (items.map itemNumber)
  | .bands => s.writePart Bank.bands (fun b x => { b with bands := x }) start (items.map itemBand)
  | .classes => s.writePart Bank.classes (fun b x => { b with classes := x }) start (items.map itemClass)
  | .holidays => s.writePart Bank.holidays (fun b x => { b with holidays := x }) start (items.map itemNumber)
  | .rules => s.writePart Bank.rules (fun b x => { b with rules := x }) start (items.map itemRule)

/-! ### Templates and result map items (R162, R163) -/

/-- A cell's glyph and colour lie in range (R162). -/
def cellOk (c : RawCell) : Bool := c.glyph.toNat ≤ 127 && c.colour.toNat ≤ 7

/-- A field slot passes the checks of R162 that look at it alone. -/
def slotOk (x : RawSlot) : Bool :=
  x.kind.toNat ≤ 1 && x.line.toNat ≤ 1 && x.rightEnd.toNat ≤ 15 && 1 ≤ x.width.toNat && x.width.toNat ≤ 10
    && x.width.toNat ≤ x.rightEnd.toNat + 1

/-- Two slots lie on one line and share a cell (R162). -/
def slotsOverlap (x y : RawSlot) : Bool :=
  x.line == y.line && x.rightEnd.toNat + 1 - x.width.toNat ≤ y.rightEnd.toNat
    && y.rightEnd.toNat + 1 - y.width.toNat ≤ x.rightEnd.toNat

/-- The checks of TEMPLATE WRITE (R162). -/
def templateOk (number : Byte) (cells : List RawCell) (slots : List RawSlot) : Bool :=
  number.toNat ≤ 47 && cells.length == 32 && cells.all cellOk && slots.all slotOk
    && (match slots with
        | [] => true
        | [_] => true
        | [x, y] => !slotsOverlap x y
        | _ => false)

/-- The template a TEMPLATE WRITE carries (R161, R162). -/
def templateOf (cells : List RawCell) (slots : List RawSlot) : Template :=
  ⟨cells.map fun c => ⟨c.glyph.toNat, c.colour.toNat⟩,
   slots.map fun x => ⟨if x.kind = 0 then .fare else .balance, x.line.toNat, x.rightEnd.toNat, x.width.toNat⟩⟩

/-- One item of RESULT MAP passes its checks (R163). -/
def mapItemOk (x : Byte × Byte) : Bool := (displayKeyOf x.1).isSome && x.2.toNat ≤ 47

end Sys2Proof.Machine
end

