-- ==== Sys2Proof/Machine/HostDecode.lean ====
section
/-! DEFINITION. The host request a frame's KIND and body spell, by the layouts of chapter 12 (R198, R199).  A KIND that is unknown
or has its high bit set, and a body whose length does not fit its kind, are the command `unknownKind` (R181). -/

namespace Sys2Proof.Machine

/-- The pieces of a list of items of one size. -/
def pieces (size : Nat) : Nat → List Byte → List (List Byte)
  | 0, _ => []
  | n + 1, bs => bs.take size :: pieces size n (bs.drop size)

/-- LANE CONFIG: the lane and the settings in the order of R134's table, 21 bytes. -/
def settingsAt (bs : List Byte) : LaneSettings where
  kind := byteAt bs 1
  creditLapse := byteAt bs 2
  closeDelay := wordAt 16 bs 3
  leafTravel := wordAt 16 bs 5
  obstruction := byteAt bs 7
  debounce := byteAt bs 8
  mask := byteAt bs 9
  polarity := byteAt bs 10
  startDuty := wordAt 16 bs 11
  runDuty := wordAt 16 bs 13
  holdDuty := wordAt 16 bs 15
  startPhase := wordAt 16 bs 17
  indicatorHold := wordAt 16 bs 19

/-- Bytes of one item of a section (R86, R198).  A section that is not one of the ten has items of one byte. -/
def itemSize : Option BankPart → Nat
  | some .header => 4 | some .stations => 2 | some .baseFares => 2 | some .travelTimes => 1 | some .incompleteFares => 2
  | some .unrecordedFares => 2 | some .bands => 4 | some .classes => 6 | some .holidays => 2 | some .rules => 9 | none => 1

/-- One item of a section.  A STATIONS item's presence byte is taken as present when it is not 0, and the zone byte of an absent item is
ignored, where R198 gives only 0 and 1 and zeros (DEDUCED, log entry 17). -/
def itemAt (part : Option BankPart) (bs : List Byte) : TariffItem :=
  match part with
  | some .stations => .zone (if byteAt bs 0 = 0 then none else some (byteAt bs 1).toNat)
  | some .bands => .band (numberAt bs 0 2) (numberAt bs 2 2)
  | some .classes => .cls (numberAt bs 0 2) (numberAt bs 2 2) (numberAt bs 4 2)
  | some .rules => .rule (byteAt bs 0) (numberAt bs 1 2) (numberAt bs 3 2) (byteAt bs 5) (byteAt bs 6) (signedAt bs 7 2)
  | some .header => .number (ofBytes bs)
  | some .baseFares => .number (ofBytes bs)
  | some .travelTimes => .number (ofBytes bs)
  | some .incompleteFares => .number (ofBytes bs)
  | some .unrecordedFares => .number (ofBytes bs)
  | some .holidays => .number (ofBytes bs)
  | none => .number (ofBytes bs)

/-- A TARIFF WRITE: section, start, and one or more whole items (R88, R198). -/
def tariffWriteOf (bs : List Byte) : Option Instr :=
  let part := bankPartOf (byteAt bs 0)
  let size := itemSize part
  let rest := bs.length - 3
  if rest = 0 ∨ rest % size ≠ 0 then none
  else some (.tariffWrite (byteAt bs 0) (wordAt 16 bs 1) ((pieces size (rest / size) (bs.drop 3)).map (itemAt part)))

/-- Bit of the purse mask of an item: bit 7 of byte 5 is item 0 (R199). -/
def maskBit (bs : List Byte) (i : Nat) : Bool := (byteAt bs (5 + i / 8)).getLsbD (7 - i % 8)

/-- The feed items of a body, the purses taken in item order (R199); `rest` holds the purses not yet taken. -/
def feedItems (base : Nat) : List (List Byte × Bool) → (rest : List Byte) → List FeedItem
  | [], _ => []
  | (x, true) :: xs, rest =>
    ⟨wordAt 64 x 0, numberAt x 8 3, numberAt x 11 1, base - numberAt x 12 2, some (signedAt rest 0 3)⟩
      :: feedItems base xs (rest.drop 3)
  | (x, false) :: xs, rest =>
    ⟨wordAt 64 x 0, numberAt x 8 3, numberAt x 11 1, base - numberAt x 12 2, none⟩ :: feedItems base xs rest

/-- A FEED SIGHTINGS body (R199): its length is 9 + 14n + 3p.  A count above 32 has no mask bit beyond item 31. -/
def feedOf (bs : List Byte) : Option Instr :=
  let n := (byteAt bs 0).toNat
  let marks := (List.range n).map fun i => decide (i < 32) && maskBit bs i
  if bs.length = 9 + 14 * n + 3 * marks.count true then
    some (.feedSightings (feedItems (numberAt bs 1 4) ((pieces 14 n (bs.drop 9)).zip marks) (bs.drop (9 + 14 * n))))
  else none

/-- A TEMPLATE WRITE body: number, 32 cells, slot count, slots of 4 bytes (R162, R198). -/
def templateWriteOf (bs : List Byte) : Option Instr :=
  let n := (byteAt bs 65).toNat
  if bs.length = 66 + 4 * n then
    some (.templateWrite (byteAt bs 0) ((pieces 2 32 (bs.drop 1)).map fun x => ⟨byteAt x 0, byteAt x 1⟩)
      ((pieces 4 n (bs.drop 66)).map fun x => ⟨byteAt x 0, byteAt x 1, byteAt x 2, byteAt x 3⟩))
  else none

/-- A list body: a one-byte count, then items of one size that fill the body (R198). -/
def listOf (bs : List Byte) (size : Nat) : Option (List (List Byte)) :=
  let n := (byteAt bs 0).toNat
  if bs.length = 1 + size * n then some (pieces size n (bs.drop 1)) else none

/-- A LANE SERVICE body; a request value outside IN, OUT and HOLD_OPEN spells none (R136). -/
def laneServiceOf (bs : List Byte) : Option Instr :=
  if bs.length ≠ 2 then none
  else if byteAt bs 1 = 0 then some (.laneServiceIn (byteAt bs 0))
  else if byteAt bs 1 = 1 then some (.laneServiceOut (byteAt bs 0))
  else if byteAt bs 1 = 2 then some (.laneServiceHoldOpen (byteAt bs 0))
  else none

/-- A STATUS GET body: the selector, and for LANE its lane number (R187, R198). -/
def statusGetOf (bs : List Byte) : Option Instr :=
  if byteAt bs 0 = 3 then (if bs.length = 2 then some (.statusGet 3 (byteAt bs 1)) else none)
  else if bs.length = 1 then some (.statusGet (byteAt bs 0) 0) else none

/-- A body of one fixed length. -/
def fixedBody (bs : List Byte) (size : Nat) (i : Instr) : Option Instr := if bs.length = size then some i else none

/-- The request that a KIND and a body of a length that fits it spell (R198, R199). -/
def bodyOf (kind : Nat) (bs : List Byte) : Option Instr :=
  match kind with
  | 0x01 => statusGetOf bs
  | 0x02 => fixedBody bs 4 (.timeSet (wordAt 32 bs 0))
  | 0x03 => fixedBody bs 0 .timeGet
  | 0x04 => fixedBody bs 6 (.stationSet (byteAt bs 0) (wordAt 16 bs 1) (wordAt 16 bs 3) (byteAt bs 5))
  | 0x05 => fixedBody bs 21 (.laneConfig (byteAt bs 0) (settingsAt bs))
  | 0x06 => laneServiceOf bs
  | 0x07 => fixedBody bs 2 (.tariffBegin (wordAt 16 bs 0))
  | 0x08 => tariffWriteOf bs
  | 0x09 => fixedBody bs 0 .tariffClose
  | 0x0A => fixedBody bs 4 (.tariffActivate (wordAt 32 bs 0))
  | 0x0B => fixedBody bs 0 .tariffStatus
  | 0x0C => fixedBody bs 34 (.keyLoad (byteAt bs 0) (byteAt bs 1) (wordAt 256 bs 2))
  | 0x0D => (listOf bs 10).map fun xs => .denyAdd (xs.map fun x => ⟨wordAt 64 x 0, byteAt x 8, byteAt x 9⟩)
  | 0x0E => (listOf bs 8).map fun xs => .denyRemove (xs.map fun x => wordAt 64 x 0)
  | 0x0F => fixedBody bs 0 .denyClear
  | 0x10 => fixedBody bs 3 (.suspectRead (wordAt 16 bs 0) (byteAt bs 2))
  | 0x11 => fixedBody bs 8 (.suspectClear (wordAt 64 bs 0))
  | 0x12 => feedOf bs
  | 0x13 => fixedBody bs 5 (.journalRead (wordAt 32 bs 0) (byteAt bs 4))
  | 0x14 => fixedBody bs 4 (.journalRelease (wordAt 32 bs 0))
  | 0x15 => fixedBody bs 0 .eventsPeek
  | 0x16 => fixedBody bs 0 .eventsTake
  | 0x17 => fixedBody bs 4 (.eventsEnable (wordAt 32 bs 0))
  | 0x18 => templateWriteOf bs
  | 0x19 => (listOf bs 2).map fun xs => .resultMap (xs.map fun x => (byteAt x 0, byteAt x 1))
  | 0x1A => fixedBody bs 1 (.eccCounts (byteAt bs 0))
  | 0x1B => fixedBody bs 2 (.eccInject (byteAt bs 0) (byteAt bs 1))
  | 0x1C => fixedBody bs 0 .reset
  | _ => none

/-- The request a frame spells; total on any KIND and body (R181). -/
def decodeRequest (kind : Byte) (body : List Byte) : Instr := (bodyOf kind.toNat body).getD (.unknownKind kind body)

end Sys2Proof.Machine
end

