-- ==== Sys2Proof/Machine/Flags.lean ====
section
/-! DEFINITION. Flag sets: the flags of a journal record (R122) and the pending and enabled event flags (R188 to R190). -/

namespace Sys2Proof.Machine

/-- The union of two record flag sets (R122). -/
def joinFlags (f g : RecordFlags) : RecordFlags :=
  ⟨f.ruleOverrun || g.ruleOverrun, f.unknownStation || g.unknownStation, f.classExpired || g.classExpired,
   f.clockBehind || g.clockBehind, f.denylistUnchecked || g.denylistUnchecked, f.receiptBad || g.receiptBad⟩

/-- A flag set with DENYLIST_UNCHECKED as screening answered it (R39). -/
def withUnchecked (f : RecordFlags) (unchecked : Bool) : RecordFlags :=
  { f with denylistUnchecked := f.denylistUnchecked || unchecked }

/-- A flag set with RECEIPT_BAD when a bad receipt caused the tear (R104, R107). -/
def withReceiptBad (f : RecordFlags) (bad : Bool) : RecordFlags := { f with receiptBad := f.receiptBad || bad }

/-- The pending flags in priority order (R189). -/
def Events.pendingBits (e : Events) : List Nat := (List.range 29).filter fun i => e.pending.getLsbD i

/-- The list that EVENTS PEEK and EVENTS TAKE reply with: a count, then each pending flag by its name (R189, R198). -/
def Events.listBytes (e : Events) : List Byte :=
  BitVec.ofNat 8 e.pendingBits.length :: e.pendingBits.flatMap eventName

/-- The 29 enables as a set of flags in priority order (R190, R198). -/
def Events.enableBytes (e : Events) : List Byte := beBytes 4 e.enabled.toNat

end Sys2Proof.Machine
end

