-- ==== Sys2Proof/Machine/Screening.lean ====
section
/-! DEFINITION. The screening unit (chapter 2): the sighting table, the denylist and the suspect list with their checked reads,
the eight checks of a screening request, card updates, and the application of feed items. -/

namespace Sys2Proof.Machine

/-! ### Fields of the unit -/

/-- Replace the sighting table. -/
def State.setSightings (s : State) (xs : List (Stored Sighting)) : State :=
  { s with screening := { s.screening with sightings := xs } }

/-- Replace the denylist's entries. -/
def State.setDenylist (s : State) (xs : List (Stored DenyEntry)) : State :=
  { s with screening := { s.screening with denylist := xs } }

/-- Replace the suspect list. -/
def State.setSuspects (s : State) (xs : List (Stored SuspectEntry)) : State :=
  { s with screening := { s.screening with suspects := xs } }

/-- Change the screening counters (R51). -/
def State.countScreen (s : State) (f : ScreenCounters → ScreenCounters) : State :=
  { s with screening := { s.screening with counters := f s.screening.counters } }

/-- The denylist becomes INVALID and holds nothing (R33). -/
def State.discardDenylist (s : State) : State :=
  { s with screening := { s.screening with denylist := [], denyValid := false } }

/-! ### Lookups (R27, R33, R176) -/

/-- The sighting entries of other serials. -/
def withoutSighting (ser : Serial) (xs : List (Stored Sighting)) : List (Stored Sighting) := xs.filter (·.val.serial != ser)

/-- The suspect entries of other serials. -/
def withoutSuspect (ser : Serial) (xs : List (Stored SuspectEntry)) : List (Stored SuspectEntry) :=
  xs.filter (·.val.serial != ser)

/-- The denylist entries of other serials. -/
def withoutDeny (ser : Serial) (xs : List (Stored DenyEntry)) : List (Stored DenyEntry) := xs.filter (·.val.serial != ser)

/-- Look a serial up in the sighting table; an uncorrectable entry is removed and none returned (R27). -/
def State.lookupSighting (s : State) (ser : Serial) : Option Sighting × State :=
  match s.screening.sightings.find? (·.val.serial == ser) with
  | none => (none, s)
  | some e =>
    let s := s.noteRead .sighting e.bits
    if e.bits = .double then (none, s.setSightings (withoutSighting ser s.screening.sightings)) else (some e.val, s)

/-- Look a serial up in the denylist; an uncorrectable entry discards the whole list (R33). -/
def State.lookupDeny (s : State) (ser : Serial) : Option DenyEntry × State :=
  match s.screening.denylist.find? (·.val.serial == ser) with
  | none => (none, s)
  | some e =>
    let s := s.noteRead .lists e.bits
    if e.bits = .double then (none, s.discardDenylist) else (some e.val, s)

/-- Look a serial up in the suspect list; an uncorrectable entry is removed and none returned (R176). -/
def State.lookupSuspect (s : State) (ser : Serial) : Option SuspectEntry × State :=
  match s.screening.suspects.find? (·.val.serial == ser) with
  | none => (none, s)
  | some e =>
    let s := s.noteRead .lists e.bits
    if e.bits = .double then (none, s.setSuspects (withoutSuspect ser s.screening.suspects)) else (some e.val, s)

/-! ### The sighting table (R26 to R29) -/

/-- The sighting table's capacity (R26). -/
abbrev sightingCapacity : Nat := 16384

/-- A serial is pinned: in flight at a lane, or in the in-doubt list (R29). -/
def State.pinned (s : State) (ser : Serial) : Bool :=
  s.lanes.toList.any (fun u => u.tap.inFlight == some ser) || s.doubt.entries.any (fun e => e.val.serial == ser)

/-- What a search for the entry to evict leaves, what its reads found, and whether it evicted. -/
structure Eviction where
  left : List (Stored Sighting)
  tally : Tally
  evicted : Bool
deriving DecidableEq, Repr

/-- Search for the entry to evict: pinned entries are read and passed over, the first unpinned one is removed (R29, R171).  The
entry evicted is not itself read, and a pinned entry found uncorrectable is removed, which makes the room (DEDUCED, log entry 30). -/
def evictScan (pinned : Serial → Bool) : List (Stored Sighting) → Eviction
  | [] => ⟨[], ⟨0, 0⟩, false⟩
  | e :: es =>
    if !pinned e.val.serial then ⟨es, ⟨0, 0⟩, true⟩
    else match e.bits with
      | .clean => let r := evictScan pinned es; { r with left := e :: r.left }
      | .single =>
        let r := evictScan pinned es
        { r with left := e :: r.left, tally := { r.tally with corrected := r.tally.corrected + 1 } }
      | .double => ⟨es, ⟨0, 1⟩, false⟩

/-- Make room for an entry while the table is full (R29). -/
def State.makeSightingRoom (s : State) : State :=
  if s.screening.sightings.length < sightingCapacity then s
  else
    let r := evictScan s.pinned s.screening.sightings
    let s := (s.noteFindings .sighting r.tally.corrected r.tally.uncorrected).setSightings r.left
    if r.evicted then s.countScreen fun c => { c with evictions := bump c.evictions } else s

/-- Insert an entry at the last place, making room first (R26, R29). -/
def State.insertSighting (s : State) (x : Sighting) : State :=
  let (item, s) := s.makeSightingRoom.store .sighting x
  s.setSightings (s.screening.sightings ++ [item])

/-- Overwrite the entry of a serial, which takes the last place (R26, R28, R47). -/
def State.replaceSighting (s : State) (x : Sighting) : State :=
  let (item, s) := s.store .sighting x
  s.setSightings (withoutSighting x.serial s.screening.sightings ++ [item])

/-- A card update (R28): insert, overwrite, or hold back. -/
def State.cardUpdate (s : State) (l : Lane) (ser : Serial) (counter : Nat) (purse : Int) (trip : Trip) : State :=
  let x : Sighting := ⟨ser, counter, some purse, s.settings.station, s.clock.time, .lane l, some trip⟩
  let (held, s) := s.lookupSighting ser
  match held with
  | none => s.insertSighting x
  | some e =>
    if counter < e.counter then s.countScreen fun c => { c with heldBack := bump c.heldBack }
    else s.replaceSighting x

/-! ### The suspect list (R34) -/

/-- The suspect list's capacity (R34). -/
abbrev suspectCapacity : Nat := 512

/-- Add a new entry at the end of the suspect list, pushing the oldest out of a full one (R34). -/
def State.addSuspect (s : State) (x : SuspectEntry) : State :=
  let (item, s) := s.store .lists x
  let xs := s.screening.suspects
  if xs.length < suspectCapacity then s.setSuspects (xs ++ [item])
  else (s.setSuspects (xs.drop 1 ++ [item])).countScreen fun c => { c with pushOuts := bump c.pushOuts }

/-- Enter a serial in the suspect list after a finding or a conflict (R34, R176). -/
def State.enterSuspect (s : State) (ser : Serial) (reason : SuspectReason) (foundAt : Source) : State :=
  let (listed, s) := s.lookupDeny ser
  if listed.isSome then s
  else
    let (held, s) := s.lookupSuspect ser
    if held.isSome then s else s.addSuspect ⟨ser, reason, s.clock.time, foundAt⟩

/-! ### Screening a card (R37 to R45) -/

/-- The screening unit's answer (R37). -/
inductive ScreenAnswer where
  | clear
  | refuse (r : ScreenRefusal)
  | lock (reason : Nat)
deriving DecidableEq, Repr

/-- Everything a screening request carries (R37). -/
structure ScreenRequest where
  lane : Lane
  kind : TxKind
  bank : AreaId
  card : CardImage
deriving DecidableEq, Repr

/-- Check 1, blocked card (R38). -/
def State.checkBlocked (s : State) (q : ScreenRequest) : Option ScreenAnswer × State :=
  if q.card.w.status = .blocked then
    let s := s.countScreen fun c => { c with blocked := bump c.blocked }
    let s :=
      if q.kind = .emergency then
        s.appendUnreserved .ordinary { JournalRecord.blank .cardLocked (some q.lane) with
          serial := some q.card.serial, counter := some q.card.counter, detail := some (.named .blockedSeen) }
      else s
    (some (.refuse .cardLocked), s)
  else (none, s)

/-- The answer of a denylist hit by action and transaction kind (R39). -/
def denyAnswer (kind : TxKind) (e : DenyEntry) : ScreenAnswer :=
  if e.action = .lock ∧ kind ≠ .emergency then .lock e.reason else .refuse .denylisted

/-- Check 2, the denylist (R39). -/
def State.checkDenylist (s : State) (q : ScreenRequest) : Option ScreenAnswer × State :=
  if !s.screening.denyValid then (none, s)
  else
    let (hit, s) := s.lookupDeny q.card.serial
    match hit with
    | none => (none, s)
    | some e =>
      let s := s.countScreen fun c => { c with denylistHits := bump c.denylistHits }
      let s := s.appendUnreserved .mandatory { JournalRecord.blank .denylistHit (some q.lane) with
        serial := some q.card.serial, counter := some q.card.counter, action := some e.action, detail := some (.reason e.reason) }
      (some (denyAnswer q.kind e), s.raise .denylistHit)

/-- Check 3, the suspect list (R41). -/
def State.checkSuspect (s : State) (q : ScreenRequest) : Option ScreenAnswer × State :=
  let (held, s) := s.lookupSuspect q.card.serial
  match held with
  | none => (none, s)
  | some _ =>
    let s := s.countScreen fun c => { c with suspectHits := bump c.suspectHits }
    let s :=
      if q.kind = .emergency then
        (s.appendUnreserved .ordinary { JournalRecord.blank .cloneDetected (some q.lane) with
          serial := some q.card.serial, counter := some q.card.counter, detail := some (.named .suspectListed) }).raise .cloneSuspect
      else s
    (some (.refuse .suspect), s)

/-- A clone finding: the suspect list, the record, the event, the answer (R44). -/
def State.findClone (s : State) (q : ScreenRequest) (e : Sighting) (reason : SuspectReason) : Option ScreenAnswer × State :=
  let s := s.enterSuspect q.card.serial reason (.lane q.lane)
  let s := s.appendUnreserved .mandatory { JournalRecord.blank .cloneDetected (some q.lane) with
    serial := some q.card.serial, counter := some q.card.counter, secondCounter := some e.counter,
    secondStation := some e.station, source := some e.source, detail := some (.named (suspectDetail reason)) }
  (some (.refuse .cloneDetected), s.raise .cloneSuspect)

/-- The condition of check 5 for equal counters (R42). -/
def diverges (c : CardImage) (e : Sighting) : Bool := e.purse.any (· != c.w.purse) || e.trip.any (· != c.w.trip)

/-- The condition of check 6 with the reads it makes, in the order of R43; it stops at the first that fails. -/
def Bank.travelTooShort (b : Bank) (here now skew : Nat) (e : Sighting) : Rd Bool :=
  if e.station = here then .ret false
  else (readAt none b.stations e.station).bind fun origin =>
    match origin with
    | none => .ret false
    | some o => (readAt none b.stations here).bind fun zone =>
      match zone with
      | none => .ret false
      | some d => (readAt 0 b.travelTimes (o * 16 + d)).bind fun minutes =>
        .ret (decide (ageAt now e.time + skew < minutes * 60))

/-- Checks 4 to 6 against the sighting entry (R42, R43). -/
def State.checkSighting (s : State) (q : ScreenRequest) : Option ScreenAnswer × State :=
  let (held, s) := s.lookupSighting q.card.serial
  match held with
  | none => (none, s)
  | some e =>
    if q.card.counter < e.counter then
      (s.countScreen fun c => { c with regressions := bump c.regressions }).findClone q e .counterRegression
    else if q.card.counter = e.counter ∧ diverges q.card e then
      (s.countScreen fun c => { c with divergences := bump c.divergences }).findClone q e .diverged
    else
      let r := (s.tariff.area q.bank).bank.travelTooShort s.settings.station s.clock.time s.settings.skew e
      let s := s.noteBank q.bank r.tally
      if r.val then
        (s.countScreen fun c => { c with travelFindings := bump c.travelFindings }).findClone q e .impossibleTravel
      else (none, s)

/-- The image fails the ranges of check 8 (R45). -/
def imageInvalid (c : CardImage) : Bool :=
  c.w.purse < -2000 || 100000 < c.w.purse || 7 < c.cls
    || (c.w.trip == .inside && (c.w.entryStation == 0 || c.w.journeyStation == 0))
    || (c.w.trip == .outside && c.w.lastExitStation != 0 && c.w.journeyStation == 0)

/-- Checks 7 and 8, or CLEAR (R37, R45). -/
def State.checkImage (s : State) (q : ScreenRequest) : ScreenAnswer × State :=
  if q.card.counter = 16777215 then
    (.refuse .cardExhausted, s.countScreen fun c => { c with exhausted := bump c.exhausted })
  else if imageInvalid q.card then
    (.refuse .cardDataInvalid, s.countScreen fun c => { c with imageInvalid := bump c.imageInvalid })
  else (.clear, s.countScreen fun c => { c with clear := bump c.clear })

/-- The checks 1 to 8 in order; the first that fires decides (R37).  A LOCK entry thus decides over check 7, the counter at maximum
(R39; log entry 47). -/
def State.runChecks (s : State) (q : ScreenRequest) : ScreenAnswer × State :=
  match s.checkBlocked q with
  | (some a, s) => (a, s)
  | (none, s) =>
    match s.checkDenylist q with
    | (some a, s) => (a, s)
    | (none, s) =>
      match s.checkSuspect q with
      | (some a, s) => (a, s)
      | (none, s) =>
        match s.checkSighting q with
        | (some a, s) => (a, s)
        | (none, s) => s.checkImage q

/-- A screening request served whole: the answer, the flag DENYLIST_UNCHECKED, and the state after (R37, R39, R51). -/
def State.screen (s : State) (q : ScreenRequest) : ScreenAnswer × Bool × State :=
  let s := s.countScreen fun c => { c with screened := bump c.screened }
  let (answer, s) := s.runChecks q
  let unchecked := !s.screening.denyValid
  (answer, unchecked, if unchecked then s.countScreen fun c => { c with unchecked := bump c.unchecked } else s)

/-! ### Feeds (R46 to R49) -/

/-- The four cases of a feed item (R47). -/
inductive FeedCase where
  | inserted | replaced | stale | conflict (r : SuspectReason)
deriving DecidableEq, Repr

/-- The time of an item as examined against station time, and whether it was replaced (R46). -/
def clampFeedTime (now skew time : Nat) : Nat × Bool := if now + skew < time then (now, true) else (time, false)

/-- The case of an item against the entry held (R47); its time already examined. -/
def feedCase (skew : Nat) (x : FeedItem) (e : Sighting) : FeedCase :=
  if e.counter < x.counter then .replaced
  else if x.counter = e.counter then
    if x.station ≠ e.station ∨ skew < x.time - e.time ∨ skew < e.time - x.time then .conflict .counterReused else .stale
  else if e.time + skew < x.time then .conflict .remoteRegression
  else .stale

/-- The sighting a feed item makes (R47). -/
def feedSighting (x : FeedItem) : Sighting := ⟨x.serial, x.counter, x.purse, x.station, x.time, .feed, none⟩

/-- A feed conflict (R48). -/
def State.feedConflict (s : State) (x : FeedItem) (e : Sighting) (reason : SuspectReason) : State :=
  let s := s.enterSuspect x.serial reason .feed
  let s := s.appendUnreserved .mandatory { JournalRecord.blank .feedConflict none with
    serial := some x.serial, counter := some x.counter, station := some x.station, reportedTime := some x.time,
    secondCounter := some e.counter, secondStation := some e.station, secondTime := some e.time,
    detail := some (.named (suspectDetail reason)) }
  s.raise .cloneSuspect

/-- The counts of a feed (R49), and the items clamped. -/
structure FeedCounts where
  inserted : Nat
  replaced : Nat
  stale : Nat
  conflicts : Nat
  clamped : Nat
deriving DecidableEq, Repr

/-- Count one item's case. -/
def FeedCounts.add (n : FeedCounts) (c : FeedCase) (clamped : Bool) : FeedCounts :=
  let n := if clamped then { n with clamped := n.clamped + 1 } else n
  match c with
  | .inserted => { n with inserted := n.inserted + 1 }
  | .replaced => { n with replaced := n.replaced + 1 }
  | .stale => { n with stale := n.stale + 1 }
  | .conflict _ => { n with conflicts := n.conflicts + 1 }

/-- Add a feed's counts to the screening counters (R49, R51). -/
def ScreenCounters.addFeed (c : ScreenCounters) (n : FeedCounts) : ScreenCounters :=
  { c with
    feedInserted := satAdd 65535 c.feedInserted n.inserted
    feedReplaced := satAdd 65535 c.feedReplaced n.replaced
    feedStale := satAdd 65535 c.feedStale n.stale
    feedConflicts := satAdd 65535 c.feedConflicts n.conflicts
    feedClamped := satAdd 65535 c.feedClamped n.clamped }

/-- Apply one item whole (R47): its case, whether its time was replaced, and the state after. -/
def State.applyFeedItem (s : State) (x : FeedItem) : FeedCase × Bool × State :=
  let t := clampFeedTime s.clock.time s.settings.skew x.time
  let x := { x with time := t.1 }
  let (held, s) := s.lookupSighting x.serial
  match held with
  | none => (.inserted, t.2, s.insertSighting (feedSighting x))
  | some e =>
    let k := feedCase s.settings.skew x e
    (k, t.2, match k with
      | .inserted => s
      | .replaced => s.replaceSighting (feedSighting x)
      | .stale => s
      | .conflict reason => s.feedConflict x e reason)

/-- Apply the items in order (R46). -/
def State.applyFeed (s : State) : List FeedItem → FeedCounts → FeedCounts × State
  | [], n => (n, s)
  | x :: xs, n =>
    let r := s.applyFeedItem x
    State.applyFeed r.2.2 xs (n.add r.1 r.2.1)

/-- An item fails the checks of R46. -/
def feedItemBad (x : FeedItem) : Bool :=
  x.serial == 0 || x.station == 0 || 16777215 < x.counter || x.purse.any fun p => p < -2000 || 100000 < p

/-! ### Host requests on the lists (R31, R32, R35, R36) -/

/-- Insert an entry at its place in ascending order of serial (R30). -/
def insertDeny (x : Stored DenyEntry) : List (Stored DenyEntry) → List (Stored DenyEntry)
  | [] => [x]
  | y :: ys => if x.val.serial.toNat < y.val.serial.toNat then x :: y :: ys else y :: insertDeny x ys

/-- The denylist's capacity (R30). -/
abbrev denyCapacity : Nat := 8192

/-- The counts of a DENY ADD (R31). -/
structure DenyCounts where
  added : Nat
  updated : Nat
  notTaken : Nat
  moved : Nat
deriving DecidableEq, Repr

/-- An entry from a checked item. -/
def denyEntryOf (x : DenyItem) : DenyEntry := ⟨x.serial, (denyActionOf x.action).getD .refuse, x.reason.toNat⟩

/-- Add a new entry, moving its serial out of the suspect list: whether it moved, and the state after (R31, R176). -/
def State.addDeny (s : State) (x : DenyEntry) : Bool × State :=
  let (item, s) := s.store .lists x
  let s := s.setDenylist (insertDeny item s.screening.denylist)
  let (held, s) := s.lookupSuspect x.serial
  (held.isSome, if held.isSome then s.setSuspects (withoutSuspect x.serial s.screening.suspects) else s)

/-- Replace an entry's action and reason code in its place (R31). -/
def State.updateDeny (s : State) (x : DenyEntry) : State :=
  let (item, s) := s.store .lists x
  s.setDenylist (s.screening.denylist.map fun e => if e.val.serial = x.serial then item else e)

/-- Take the items of a DENY ADD in order; none when a read found the denylist damaged (R31, R33). -/
def State.takeDenyItems (s : State) : List DenyItem → DenyCounts → Option DenyCounts × State
  | [], n => (some n, s)
  | x :: xs, n =>
    let (held, t) := s.lookupDeny x.serial
    if !t.screening.denyValid then (none, t)
    else if held.isSome then (t.updateDeny (denyEntryOf x)).takeDenyItems xs { n with updated := n.updated + 1 }
    else if t.screening.denylist.length < denyCapacity then
      let r := t.addDeny (denyEntryOf x)
      State.takeDenyItems r.2 xs { n with added := n.added + 1, moved := if r.1 then n.moved + 1 else n.moved }
    else (some { n with notTaken := (x :: xs).length }, t)

/-- An item fails the checks of R31. -/
def denyItemBad (x : DenyItem) : Bool := x.serial == 0 || (denyActionOf x.action).isNone

/-- Remove the serials of a DENY REMOVE in order: counts of removed and not found; none when a read found the denylist damaged
(R32, R33).  A serial named twice is counted once as removed and then as not found, which R32 does not say (DESIGN CHOICE, log
entry 45). -/
def State.removeDenySerials (s : State) : List Serial → (removed notFound : Nat) → Option (Nat × Nat) × State
  | [], r, n => (some (r, n), s)
  | x :: xs, r, n =>
    let (held, t) := s.lookupDeny x
    if !t.screening.denyValid then (none, t)
    else if held.isSome then (t.setDenylist (withoutDeny x t.screening.denylist)).removeDenySerials xs (r + 1) n
    else t.removeDenySerials xs r (n + 1)

/-- What SUSPECT READ takes from the entries at and after its position: the entries returned, the entries left standing, and
what its reads found (R35). -/
structure SuspectPage where
  page : List SuspectEntry
  left : List (Stored SuspectEntry)
  tally : Tally
deriving DecidableEq, Repr

/-- Read entries until the count is reached or the list ends, leaving uncorrectable ones out (R35). -/
def readSuspects : Nat → List (Stored SuspectEntry) → SuspectPage
  | 0, xs => ⟨[], xs, ⟨0, 0⟩⟩
  | _ + 1, [] => ⟨[], [], ⟨0, 0⟩⟩
  | n + 1, x :: xs =>
    match x.bits with
    | .clean => let r := readSuspects n xs; { r with page := x.val :: r.page, left := x :: r.left }
    | .single =>
      let r := readSuspects n xs
      ⟨x.val :: r.page, x :: r.left, { r.tally with corrected := r.tally.corrected + 1 }⟩
    | .double =>
      let r := readSuspects (n + 1) xs
      { r with tally := { r.tally with uncorrected := r.tally.uncorrected + 1 } }

/-- A suspect list entry as SUSPECT READ returns it: serial, reason, detection time, found at (R34, R35, R198). -/
def suspectBytes (x : SuspectEntry) : List Byte :=
  beBytes 8 x.serial.toNat ++ [suspectCode x.reason] ++ beBytes 4 x.time ++ [sourceCode x.foundAt]

/-- SUSPECT READ past its checks: the reply body and the state after (R35). -/
def State.suspectPage (s : State) (position count : Nat) : List Byte × State :=
  let xs := s.screening.suspects
  let r := readSuspects count (xs.drop position)
  let s := (s.setSuspects (xs.take position ++ r.left)).noteFindings .lists r.tally.corrected r.tally.uncorrected
  (beBytes 2 s.screening.suspects.length ++ beBytes 1 r.page.length ++ r.page.flatMap suspectBytes, s)

end Sys2Proof.Machine
end

