-- ==== Sys2Proof/Machine/Commit.lean ====
section
/-! DEFINITION. The end of a transaction (R23), the in-doubt list (R100 to R102, R115), the three outcomes of a COMMIT
(R103 to R108), and the resolution of an entry at the card's next READ (R109 to R113). -/

namespace Sys2Proof.Machine

/-! ### The end of a transaction -/

/-- Add one to the lane's counter of a result code other than GRANTED and GRANTED_RESUMED (R159). -/
def Stats.countResult (x : Stats) (code : ResultCode) : Stats :=
  if resultIndex code < 2 then x else { x with results := x.results.modify (resultIndex code - 2) bump }

/-- A tap controller when its transaction has ended: last result recorded, everything else discarded, in QUIET, or in IDLE when
the field is empty (R23, R24). -/
def Tap.ended (t : Tap) (code : ResultCode) : Tap :=
  { Tap.cleared with
    phase := if t.present then .quiet else .idle
    present := t.present
    lastResult := some code }

/-- The purse as read, where an image was read (R23): the image of a READ answer that passed its checks (DESIGN CHOICE, log entry 43). -/
def State.purseAsRead (s : State) (l : Lane) : Option Int := (s.tap l).image.map (·.w.purse)

/-- A transaction ends with one result (R23); its release of the ACTIVE bank may complete a switchover (R93), and its leaving
COMMITTING may close a draining lane (R138). -/
def State.endTap (s : State) (l : Lane) (code : ResultCode) (charge : Option Nat) (purse : Option Int) : State :=
  let s := s.takeResult l code charge purse
  let s := s.modGate l fun p => { p with stats := p.stats.countResult code }
  let released := (s.tap l).bound
  let s := s.modTap l fun t => t.ended code
  let s := if released = some s.tariff.active then s.trySwitch else s
  s.drainCheck l

/-- A transaction ends with no change confirmed: no charge, the purse as read (R23). -/
def State.endUnchanged (s : State) (l : Lane) (code : ResultCode) : State := s.endTap l code none (s.purseAsRead l)

/-- A transaction ends before its COMMIT; a reservation already made is released (R16, R17). -/
def State.abortTap (s : State) (l : Lane) (code : ResultCode) : State := (s.releaseReservation l).endUnchanged l code

/-! ### The in-doubt list -/

/-- The in-doubt list's capacity (R100). -/
abbrev doubtCapacity : Nat := 32

/-- Replace the in-doubt list's entries. -/
def State.setDoubt (s : State) (xs : List (Stored DoubtEntry)) : State := { s with doubt := { s.doubt with entries := xs } }

/-- Set a lane's mark in the LISTS header (R195).  The header's stored bits stay as they are: whether this write renews its check code
the spec does not say (DESIGN CHOICE, log entry 49). -/
def State.setHeader (s : State) (l : Lane) (k : Option ChangeKind) : State :=
  { s with doubt := { s.doubt with header := s.doubt.header.set l k } }

/-- The RESOLVED_UNKNOWN record of a damaged entry (R115). -/
def State.recordDamagedEntry (s : State) : State :=
  s.appendUnreserved .mandatory { JournalRecord.blank .resolvedUnknown none with detail := some (.named .memoryError) }

/-- Remove a serial's entry; the entries after it keep their order (R100). -/
def State.removeDoubt (s : State) (ser : Serial) : State :=
  s.setDoubt (s.doubt.entries.eraseP fun e => e.val.serial == ser)

/-- Abandon an OPEN entry (R102). -/
def State.abandon (s : State) (e : DoubtEntry) : State :=
  let s := (s.removeDoubt e.serial).appendUnreserved .mandatory { JournalRecord.blank .doubtAbandoned (some e.lane) with
    serial := some e.serial, counter := some e.counterBefore, secondCounter := some (e.counterBefore + 1),
    detail := some (.named (changeDetail e.change)), reference := e.sequence }
  s.raise .inDoubtAbandoned

/-- Search the entries in order for the oldest OPEN one and abandon it; each entry passed is read, and a damaged one is removed
with its record (R101, R102, R115). -/
def State.abandonOldest (s : State) : List (Stored DoubtEntry) → State
  | [] => s
  | e :: es =>
    let s := s.noteRead .lists e.bits
    if e.bits = .double then (s.removeDoubt e.val.serial).recordDamagedEntry.abandonOldest es
    else if e.val.opened then s.abandon e.val
    else s.abandonOldest es

/-- Make room for one entry (R101). -/
def State.makeDoubtRoom (s : State) : State :=
  if s.doubt.entries.length < doubtCapacity then s else s.abandonOldest s.doubt.entries

/-- Add an entry at the end of the list (R100, R101). -/
def State.addDoubt (s : State) (e : DoubtEntry) : State :=
  let (item, s) := s.store .lists e
  s.setDoubt (s.doubt.entries ++ [item])

/-- The result a lane would have on a receipt (R100). -/
def intendedResult : ChangeKind → ResultCode
  | .debit => .granted
  | .lock => .denylisted
  | .release => .emergencyRelease

/-- The entry of a commit in hand (R101). -/
def CommitWork.entry (w : CommitWork) (ser : Serial) (l : Lane) (now : Nat) (opened : Bool) (sequence : Option Nat) : DoubtEntry where
  serial := ser
  lane := l
  change := w.change
  counterBefore := w.counterBefore
  purse := w.values.purse
  trip := w.values.trip
  status := w.values.status
  fareReason := w.fareReason
  version := w.version
  created := now
  opened := opened
  sequence := sequence
  intended := intendedResult w.change
  charge := w.charge

/-- Write the PROVISIONAL entry of a lane's commit, and mark it in the LISTS header (R101, R195). -/
def State.writeProvisional (s : State) (l : Lane) (ser : Serial) (w : CommitWork) : State :=
  let s := s.makeDoubtRoom
  (s.addDoubt (w.entry ser l s.clock.time false none)).setHeader l (some w.change)

/-- A lane's PROVISIONAL entry. -/
def isProvisional (l : Lane) (e : Stored DoubtEntry) : Bool := e.val.lane == l && !e.val.opened

/-- Settling reads the lane's PROVISIONAL entry; a damaged one is removed with its record (R115).  Whether the entry stands. -/
def State.readProvisional (s : State) (l : Lane) : Bool × State :=
  match s.doubt.entries.find? (isProvisional l) with
  | none => (false, s)
  | some e =>
    let s := s.noteRead .lists e.bits
    if e.bits = .double then (false, (s.removeDoubt e.val.serial).recordDamagedEntry) else (true, s)

/-- Remove the lane's PROVISIONAL entry. -/
def State.removeProvisional (s : State) (l : Lane) : State := s.setDoubt (s.doubt.entries.eraseP (isProvisional l))

/-! ### The three outcomes of a COMMIT -/

/-- The record kind of a confirmed change (R105). -/
def confirmedKind (change : ChangeKind) (kind : Option TxKind) (reason : FareReason) : RecordKind :=
  match change with
  | .lock => .cardLocked
  | .release => .emergencyExit
  | .debit =>
    if kind = some .exit then (if reason = .penalty then .exitUnrecorded else .exit)
    else (if reason = .penalty then .entryWithPenalty else .entry)

/-- The record of a confirmed change (R105, R121). -/
def confirmedRecord (l : Lane) (t : Tap) (w : CommitWork) (counter : Nat) : JournalRecord :=
  { JournalRecord.blank (confirmedKind w.change t.kind w.fareReason) (some l) with
    serial := t.inFlight, counter := some counter, charge := some w.charge, purse := some w.values.purse,
    fareReason := some w.fareReason, version := w.version, flags := some t.flags,
    detail := if w.change = .lock then some (.reason w.lockReason) else none }

/-- The IN_DOUBT record of a torn commit (R107, R121). -/
def tornRecord (l : Lane) (t : Tap) (w : CommitWork) (bad : Bool) : JournalRecord :=
  { JournalRecord.blank .inDoubt (some l) with
    serial := t.inFlight, counter := some w.counterBefore, secondCounter := some (w.counterBefore + 1),
    charge := some w.charge, purse := some w.values.purse, fareReason := some w.fareReason, version := w.version,
    flags := some (withReceiptBad t.flags bad), detail := some (.named (changeDetail w.change)) }

/-- Grant the credit of a confirmed DEBIT or a resumption and end the transaction (R108). -/
def State.settleCredit (s : State) (l : Lane) (ser : Serial) (code : ResultCode) (charge : Nat) (purse : Int) : State :=
  if (s.gate l).service = .emergencyOpen then s.endTap l .emergencyRelease (some charge) (some purse)
  else (s.grantCredit l ser).endTap l code (some charge) (some purse)

/-- Settle the credit and the result of a confirmed change (R105, R108, R114). -/
def State.settleConfirmed (s : State) (l : Lane) (ser : Serial) (w : CommitWork) : State :=
  match w.change with
  | .debit => s.settleCredit l ser .granted w.charge w.values.purse
  | .lock => s.endTap l .denylisted (some w.charge) (some w.values.purse)
  | .release => s.endTap l .emergencyRelease (some w.charge) (some w.values.purse)

/-- A confirmed outcome: entry, record, sighting, credit and result, in that order (R105). -/
def State.confirm (s : State) (l : Lane) (w : CommitWork) (counter : Nat) : State :=
  let t := s.tap l
  let ser := t.inFlight.getD 0
  let s := ((s.readProvisional l).2.removeProvisional l).setHeader l none
  let s := s.appendReserved l (changeClass w.change) (confirmedRecord l t w counter)
  let s := s.cardUpdate l ser counter w.values.purse w.values.trip
  s.settleConfirmed l ser w

/-- The result of a refused outcome (R106). -/
def refusedResult (exhausted : Bool) : ChangeKind → ResultCode
  | .debit => if exhausted then .cardExhausted else .commitRefused
  | .lock => if exhausted then .cardExhausted else .commitRefused
  | .release => .emergencyRelease

/-- A refused outcome: the entry removed, the reservation released (R106). -/
def State.refuse (s : State) (l : Lane) (w : CommitWork) (exhausted : Bool) : State :=
  let s := ((s.readProvisional l).2.removeProvisional l).setHeader l none
  (s.releaseReservation l).endUnchanged l (refusedResult exhausted w.change)

/-- The sequence a reserved append took: the next sequence before it, when it stepped forward. -/
def takenSequence (before after : Journal) : Option Nat :=
  if after.nextSequence = before.nextSequence then none else some before.nextSequence

/-- Turn the lane's PROVISIONAL entry OPEN in its place, with the sequence of its IN_DOUBT record (R107). -/
def State.openProvisional (s : State) (l : Lane) (e : DoubtEntry) : State :=
  let (item, s) := s.store .lists e
  s.setDoubt (s.doubt.entries.map fun x => if isProvisional l x then item else x)

/-- Append an IN_DOUBT record against the lane's reservation and put the entry, OPEN with its sequence, in its place; in place
of a damaged entry a new one is added at the end, room made first (R107, R115). -/
def State.tearEntry (s : State) (l : Lane) (ser : Serial) (w : CommitWork) (record : JournalRecord) : State :=
  let created := ((s.doubt.entries.find? (isProvisional l)).map (·.val.created)).getD s.clock.time
  let (stands, s) := s.readProvisional l
  if stands then
    let t := s.appendReserved l (changeClass w.change) record
    t.openProvisional l (w.entry ser l created true (takenSequence s.journal t.journal))
  else
    let s := s.makeDoubtRoom
    let t := s.appendReserved l (changeClass w.change) record
    t.addDoubt (w.entry ser l t.clock.time true (takenSequence s.journal t.journal))

/-- A torn outcome; `bad` when a bad receipt caused it (R107). -/
def State.tear (s : State) (l : Lane) (w : CommitWork) (bad : Bool) : State :=
  let t := s.tap l
  let s := (s.tearEntry l (t.inFlight.getD 0) w (tornRecord l t w bad)).setHeader l none
  s.endUnchanged l .inDoubt

/-! ### Resolution at the next READ -/

/-- Look a serial up in the in-doubt list; a damaged entry of it is removed with its record and the search goes on (R109,
R115). -/
def State.lookupDoubt (s : State) (ser : Serial) : List (Stored DoubtEntry) → Option DoubtEntry × State
  | [] => (none, s)
  | e :: es =>
    if e.val.serial = ser then
      let s := s.noteRead .lists e.bits
      if e.bits = .double then (s.removeDoubt ser).recordDamagedEntry.lookupDoubt ser es else (some e.val, s)
    else s.lookupDoubt ser es

/-- The findings of a resolution (R109). -/
inductive Finding where
  | confirmed | voided | unknown
deriving DecidableEq, Repr

/-- The finding of a card as read against an entry, the first row that applies (R109). -/
def findingOf (c : CardImage) (e : DoubtEntry) : Finding :=
  if c.counter ≤ e.counterBefore then .voided
  else if c.counter = e.counterBefore + 1 ∧ c.w.purse = e.purse ∧ c.w.trip = e.trip ∧ c.w.status = e.status then .confirmed
  else .unknown

/-- The record kind of a finding (R110, R112, R113). -/
def findingKind : Finding → RecordKind
  | .confirmed => .resolvedConfirmed
  | .voided => .resolvedVoided
  | .unknown => .resolvedUnknown

/-- Remove the entry, append the resolution record, and make the card update of a CONFIRMED or UNKNOWN finding
(R109, R110, R112, R113). -/
def State.resolve (s : State) (l : Lane) (c : CardImage) (e : DoubtEntry) : State :=
  let f := findingOf c e
  let s := (s.removeDoubt e.serial).appendUnreserved .mandatory { JournalRecord.blank (findingKind f) (some l) with
    serial := some c.serial, counter := some c.counter, detail := some (.named (changeDetail e.change)), reference := e.sequence }
  if f = .voided then s else s.cardUpdate l c.serial c.counter c.w.purse c.w.trip

/-- The kind of the transaction that made an entry, as its expected trip state tells it (R111). -/
def originalKind (e : DoubtEntry) : TxKind := if e.trip = .inside then .entry else .exit

/-- The resume window of a bank, its read checked and counted; an uncorrectable one is taken as a free value (R94, R96; log
entry 26). -/
def State.readWindow (s : State) (i : AreaId) : Nat × State :=
  let r := (s.tariff.area i).bank.readHeader 3
  let s := s.noteBank i r.tally
  if r.tally.uncorrected = 0 then (r.val, s) else (Config.damagedWindow s.draws, { s with draws := s.draws + 1 })

/-- The conditions of resumption that read no tariff item: DEBIT, the same kind, the lane IN_SERVICE (R111). -/
def State.mayResume (s : State) (l : Lane) (e : DoubtEntry) : Bool :=
  e.change == .debit && (s.tap l).kind == some (originalKind e) && (s.gate l).service == .inService

/-- Whether a CONFIRMED finding grants resumption, the window read only when every other condition holds (R111). -/
def State.testResume (s : State) (l : Lane) (e : DoubtEntry) : Bool × State :=
  if s.mayResume l e then
    match (s.tap l).bound with
    | none => (false, s)
    | some i =>
      let (window, s) := s.readWindow i
      (decide (ageAt s.clock.time e.created ≤ window), s)
  else (false, s)

/-- Step 2 of R18: look the serial up, resolve an entry, and end in a resumption or go on to screening (R109 to R113). -/
def State.resolutionStep (s : State) (l : Lane) (c : CardImage) : State :=
  let (held, s) := s.lookupDoubt c.serial s.doubt.entries
  let goOn (s : State) : State := s.modTap l fun t => { t with stage := some .screening }
  match held with
  | none => goOn s
  | some e =>
    let s := s.resolve l c e
    if findingOf c e = .confirmed then
      let (resumed, s) := s.testResume l e
      if resumed then s.settleCredit l c.serial .grantedResumed e.charge c.w.purse else goOn s
    else goOn s

end Sys2Proof.Machine
end

