-- ==== Sys2Proof/Machine/Tap.lean ====
section
/-! DEFINITION. The tap controller (chapter 1): admission, the card dialogue, evaluation, the commit point, and the reports that
end a transaction. -/

namespace Sys2Proof.Machine

/-! ### Exchanges -/

/-- Hand an exchange to the port; its timer runs for the exchange timeout in force (R4, R5). -/
def State.handExchange (s : State) (l : Lane) (e : Exchange) : State :=
  let time := s.settings.timeout
  s.modTap l fun t => { t with outstanding := some ⟨e, time⟩ }

/-- Stop the exchange timer: the exchange has ended (R5). -/
def State.endExchange (s : State) (l : Lane) : State := s.modTap l fun t => { t with outstanding := none }

/-- A transaction that has not sent its COMMIT (R16, R17). -/
def beforeCommit : TapPhase → Bool
  | .identifying => true
  | .authenticating => true
  | .reading => true
  | .evaluating => true
  | .committing => false
  | .idle => false
  | .quiet => false

/-- Whether an answer of an exchange's type is the answer awaited (R4). -/
def Tap.awaits (t : Tap) (phase : TapPhase) (f : Exchange → Bool) : Bool :=
  t.phase == phase && t.outstanding.any fun o => f o.exchange

/-- The exchange is IDENTIFY. -/
def isIdentify : Exchange → Bool
  | .identify => true
  | _ => false

/-- The exchange is AUTHENTICATE. -/
def isAuthenticate : Exchange → Bool
  | .authenticate _ => true
  | _ => false

/-- The exchange is READ. -/
def isRead : Exchange → Bool
  | .read => true
  | _ => false

/-- The exchange is COMMIT. -/
def isCommit : Exchange → Bool
  | .commit _ _ _ => true
  | _ => false

/-- What the keyed check function gives over an input with the transaction's diversified key and challenge; none before they are
held (R2, R3, R6). -/
def Tap.proof (t : Tap) (f : Check → CheckInput) : Option Check :=
  match t.key, t.challenge with
  | some k, some c => some (Config.keyedCheck k (f c))
  | _, _ => none

/-! ### The ends of an exchange -/

/-- The exchange of a lane ends as NO_ANSWER: TAP_AGAIN before the COMMIT, a torn commit after it (R15, R22, R107). -/
def State.exchangeFails (s : State) (l : Lane) : State :=
  let t := s.tap l
  match t.phase with
  | .identifying => s.endUnchanged l .tapAgain
  | .authenticating => s.endUnchanged l .tapAgain
  | .reading => s.endUnchanged l .tapAgain
  | .committing => match t.work with
    | some w => s.tear l w false
    | none => s
  | .idle => s
  | .evaluating => s
  | .quiet => s

/-- An answer that is not the one awaited: NO_ANSWER while an exchange is awaited, discarded otherwise (R4). -/
def State.wrongAnswer (s : State) (l : Lane) : State := s.exchangeFails l

/-- The exchange timer expires; with none running nothing happens (R5). -/
def State.exchangeTimeout (s : State) (l : Lane) : State :=
  if (s.tap l).outstanding.isSome then s.exchangeFails l else s

/-! ### Field reports -/

/-- Set the field state (R4). -/
def State.setField (s : State) (l : Lane) (present : Bool) : State := s.modTap l fun t => { t with present := present }

/-- Checks 1 to 3 of R8: whether the tap may go on, and the state after the read that readiness makes. -/
def State.admission (s : State) (l : Lane) : Bool × State :=
  let v := (s.gate l).service
  if v ≠ .inService ∧ v ≠ .emergencyOpen then (false, s)
  else if s.link.reset = .waiting then (false, s)
  else (s.readiness (v == .inService) == .ready, s.readinessRead)

/-- The transaction kind of a lane that admits a tap (R8). -/
def Passages.txKind (p : Passages) : TxKind :=
  if p.service = .emergencyOpen then .emergency
  else match p.config.kind with
    | some .exit => .exit
    | some .entry => .entry
    | none => .entry

/-- Start a transaction: kind, bound bank, IDENTIFY (R8, R10). -/
def State.startTap (s : State) (l : Lane) : State :=
  let kind := (s.gate l).txKind
  let bank := s.tariff.toBind
  (s.modTap l fun t => { t with phase := .identifying, kind := some kind, bound := some bank }).handExchange l .identify

/-- CARD_PRESENT in IDLE (R8). -/
def State.tryTap (s : State) (l : Lane) : State :=
  let (ready, s) := s.admission l
  if !ready then s.endUnchanged l .notAvailable
  else if (s.gate l).service = .inService ∧ 2 ≤ (s.gate l).credits.length then s.endUnchanged l .laneBusy
  else s.startTap l

/-- CARD_PRESENT: it sets the field state, and starts a transaction in IDLE once start-up is complete (R4, R8, R193). -/
def State.cardPresent (s : State) (l : Lane) : State :=
  let s := s.setField l true
  if s.phase = .running ∧ (s.tap l).phase = .idle then s.tryTap l else s

/-- MULTIPLE_CARDS (R4, R8, R16, R22). -/
def State.multipleCards (s : State) (l : Lane) : State :=
  let s := s.setField l true
  if s.phase ≠ .running then s
  else match (s.tap l).phase with
    | .idle =>
      let (ready, s) := s.admission l
      s.endUnchanged l (if ready then .multipleCards else .notAvailable)
    | .identifying => s.abortTap l .multipleCards
    | .authenticating => s.abortTap l .multipleCards
    | .reading => s.abortTap l .multipleCards
    | .evaluating => s.abortTap l .multipleCards
    | .committing => s
    | .quiet => s

/-- FIELD_EMPTY (R4, R16, R22, R24). -/
def State.fieldEmpty (s : State) (l : Lane) : State :=
  let s := s.setField l false
  if s.phase ≠ .running then s
  else match (s.tap l).phase with
    | .idle => s
    | .identifying => s.abortTap l .tapAgain
    | .authenticating => s.abortTap l .tapAgain
    | .reading => s.abortTap l .tapAgain
    | .evaluating => s.abortTap l .tapAgain
    | .committing => s.exchangeFails l
    | .quiet => s.modTap l fun t => { t with phase := .idle }

/-! ### Identification, authentication, reading -/

/-- The key of the lowest-numbered loaded slot of a version (R6). -/
def keyFor (slots : List (Option KeySlot)) (version : Nat) : Option Key :=
  if version < 1 ∨ 8 < version then none
  else (slots.findSome? fun k => k.filter (·.version == version)).map (·.key)

/-- Another lane holds the in-flight lock on a serial (R12). -/
def State.lockedElsewhere (s : State) (l : Lane) (ser : Serial) : Bool :=
  allLanes.any fun k => k != l && (s.tap k).inFlight == some ser

/-- Go on to AUTHENTICATE: the diversified key, the challenge, the exchange (R6, R11). -/
def State.startAuthenticate (s : State) (l : Lane) (k : Key) (ser : Serial) : State :=
  let c := Config.challenge s.draws
  let s := { s with draws := s.draws + 1 }
  (s.modTap l fun t => { t with phase := .authenticating, key := some (Config.diversify k ser), challenge := some c }).handExchange
    l (.authenticate c)

/-- The IDENTIFY answer (R11, R12). -/
def State.identified (s : State) (l : Lane) (a : IdentifyAnswer) : State :=
  let s := (s.endExchange l).modTap l fun t => { t with ident := some a }
  if a.serial = 0 then s.endUnchanged l .cardDataInvalid
  else if s.lockedElsewhere l a.serial then s.endUnchanged l .cardBusyElsewhere
  else
    let s := s.modTap l fun t => { t with inFlight := some a.serial }
    if a.network.toNat ≠ s.settings.network then s.endUnchanged l .foreignCard
    else match keyFor s.keys a.keyVersion.toNat with
      | none => s.endUnchanged l .unknownKeyVersion
      | some k => s.startAuthenticate l k a.serial

/-- A wrong response or proof: AUTH_FAILED, CARD_NOT_GENUINE (R13, R14). -/
def State.authFailed (s : State) (l : Lane) (what : DetailName) : State :=
  let ser := (s.tap l).inFlight
  (s.appendUnreserved .ordinary { JournalRecord.blank .authFailed (some l) with
    serial := ser, detail := some (.named what) }).endUnchanged l .cardNotGenuine

/-- The AUTHENTICATE answer (R13). -/
def State.authenticated (s : State) (l : Lane) (response : Check) : State :=
  let s := s.endExchange l
  if (s.tap l).proof .response = some response then
    (s.modTap l fun t => { t with phase := .reading }).handExchange l .read
  else s.authFailed l .authenticate

/-- The bound bank is still usable (R18, R21). -/
def State.boundUsable (s : State) (l : Lane) : Bool := (s.tap l).bound.any s.tariff.isUsable

/-- The image's identification agrees with that of the IDENTIFY answer (R14). -/
def sameIdentity (r : RawImage) (a : Option IdentifyAnswer) : Bool :=
  a.any fun a => a.serial == r.serial && a.network == r.network && a.keyVersion == r.keyVersion

/-- The READ answer, and step 1 of R18 (R14, R18).  An answer that fails its proof or its identification is not kept as an image, so
the result goes with an absent purse; R23 and R167 leave it open whether such an answer counts as a READ (DESIGN CHOICE, log
entry 43). -/
def State.imageRead (s : State) (l : Lane) (r : RawImage) (proof : Check) : State :=
  let s := s.endExchange l
  if (s.tap l).proof (.readProof r) ≠ some proof then s.authFailed l .read
  else if !sameIdentity r (s.tap l).ident then s.endUnchanged l .cardDataInvalid
  else
    let s := s.modTap l fun t => { t with phase := .evaluating, image := some (decodeImage r), stage := some .resolution }
    if s.boundUsable l then s else s.endUnchanged l .notAvailable

/-! ### Evaluation (R18) -/

/-- The service state matches the transaction kind (R21). -/
def serviceMatches (kind : Option TxKind) (v : Service) : Bool :=
  match kind with
  | some .emergency => v == .emergencyOpen
  | some .entry => v == .inService
  | some .exit => v == .inService
  | none => false

/-- Steps 1 and 2 of R21: the service state, then the bank. -/
def State.commitAllowed (s : State) (l : Lane) : Bool :=
  serviceMatches (s.tap l).kind (s.gate l).service && s.boundUsable l

/-- A commit falls due: steps 1 and 2 of R21, then the reservation is awaited. -/
def State.commitDue (s : State) (l : Lane) (w : CommitWork) : State :=
  if s.commitAllowed l then s.modTap l fun t => { t with stage := some .reservation, work := some w }
  else s.endUnchanged l .notAvailable

/-- The result code of a screening refusal. -/
def refusalCode : ScreenRefusal → ResultCode
  | .cardLocked => .cardLocked
  | .denylisted => .denylisted
  | .suspect => .suspect
  | .cloneDetected => .cloneDetected
  | .cardExhausted => .cardExhausted
  | .cardDataInvalid => .cardDataInvalid

/-- The conditions of anti-passback that read no tariff item, with the recorded time to be aged (R19). -/
def passbackTime (kind : TxKind) (here : Nat) (w : Written) : Option Nat :=
  match kind with
  | .entry => if w.trip = .inside ∧ w.entryStation = here then some w.entryTime else none
  | .exit => if w.trip = .outside ∧ w.lastExitStation = here then some w.lastExitTime else none
  | .emergency => none

/-- Anti-passback: whether it ends the transaction, the window read only when the other conditions hold (R19). -/
def State.passback (s : State) (kind : TxKind) (bank : AreaId) (w : Written) : Bool × State :=
  match passbackTime kind s.settings.station w with
  | none => (false, s)
  | some t =>
    let (window, s) := s.readWindow bank
    (decide (ageAt s.clock.time t ≤ window), s)

/-- The values of a LOCK commit (R40). -/
def lockValues (w : Written) : Written := { w with status := .blocked }

/-- The values of a RELEASE commit (R20). -/
def releaseValues (w : Written) (here now : Nat) : Written :=
  { w with trip := .outside, lastExitStation := here, lastExitTime := now, lastExitPenalty := false }

/-- The version of a bank area. -/
def State.versionOf (s : State) (i : AreaId) : Option Nat := (s.tariff.area i).version

/-- A LOCK commit falls due (R18, R40).  It falls due at counter 16,777,215 too, since check 2 of R37 comes before check 7, although
R100 says that no commit follows at that counter (log entry 47). -/
def State.lockDue (s : State) (l : Lane) (bank : AreaId) (c : CardImage) (reason : Nat) : State :=
  s.commitDue l ⟨.lock, c.counter, lockValues c.w, 0, .none, s.versionOf bank, reason⟩

/-- A transaction of kind EMERGENCY after screening (R20). -/
def State.emergencyScreened (s : State) (l : Lane) (bank : AreaId) (c : CardImage) (a : ScreenAnswer) : State :=
  if a = .clear ∧ c.w.trip = .inside then
    s.commitDue l ⟨.release, c.counter, releaseValues c.w s.settings.station s.clock.time, 0, .none, s.versionOf bank, 0⟩
  else s.endUnchanged l .emergencyRelease

/-- A transaction of kind ENTRY or EXIT after screening (R18, R19). -/
def State.gateScreened (s : State) (l : Lane) (kind : TxKind) (bank : AreaId) (c : CardImage) (a : ScreenAnswer) : State :=
  match a with
  | .refuse r => s.endUnchanged l (refusalCode r)
  | .lock reason => s.lockDue l bank c reason
  | .clear =>
    let (passed, s) := s.passback kind bank c.w
    if passed then s.endUnchanged l .alreadyPassed else s.modTap l fun t => { t with stage := some .fare }

/-- Steps 3 to 5 of R18: screening, then what follows from its answer. -/
def State.screeningStep (s : State) (l : Lane) (kind : TxKind) (bank : AreaId) (c : CardImage) : State :=
  let (answer, unchecked, s) := s.screen ⟨l, kind, bank, c⟩
  let s := s.modTap l fun t => { t with flags := withUnchecked t.flags unchecked }
  if kind = .emergency then s.emergencyScreened l bank c answer else s.gateScreened l kind bank c answer

/-- Step 6 of R18: the fare unit's answer, and a DEBIT falls due (R53, R66). -/
def State.fareStep (s : State) (l : Lane) (kind : TxKind) (bank : AreaId) (c : CardImage) : State :=
  let r := (s.tariff.area bank).bank.fare (kind == .exit) s.settings.station s.clock.time c
  let s := s.noteBank bank r.tally
  let s := if r.val.2 then s.raise .tariffRuleOverrun else s
  match r.val.1 with
  | .refuse code => s.endUnchanged l code
  | .charge amount reason flags values =>
    (s.modTap l fun t => { t with flags := joinFlags t.flags flags }).commitDue l
      ⟨.debit, c.counter, values, amount, reason, s.versionOf bank, 0⟩

/-! ### The commit point (R21) -/

/-- The result of a commit that finds no journal place (R99). -/
def noPlaceResult : ChangeKind → ResultCode
  | .debit => .noJournalRoom
  | .lock => .denylisted
  | .release => .emergencyRelease

/-- Step 4 of R21: the PROVISIONAL entry is written and COMMIT handed to the port, together. -/
def State.sendCommit (s : State) (l : Lane) (w : CommitWork) : State :=
  let t := s.tap l
  let ser := t.inFlight.getD 0
  let proof := (t.proof (.commitProof ser w.counterBefore w.values)).getD 0
  ((s.writeProvisional l ser w).modTap l fun t => { t with phase := .committing, stage := none }).handExchange l
    (.commit w.counterBefore w.values proof)

/-- Steps 1 to 4 of R21 when the journal serves the lane's reservation request (R99, R124). -/
def State.reservationStep (s : State) (l : Lane) (w : CommitWork) : State :=
  if !s.commitAllowed l then s.endUnchanged l .notAvailable
  else
    let (placed, s) := s.reserve l (changeClass w.change)
    if placed then s.sendCommit l w else s.endUnchanged l (noPlaceResult w.change)

/-! ### Answers to COMMIT (R103, R104) -/

/-- A RECEIPT passes its check (R104). -/
def receiptGood (t : Tap) (w : CommitWork) (counter : Nat) (proof : Check) : Bool :=
  counter == w.counterBefore + 1 && t.proof (.receiptProof (t.inFlight.getD 0) counter) == some proof

/-- A RECEIPT to the outstanding COMMIT (R104, R105, R107). -/
def State.receipt (s : State) (l : Lane) (w : CommitWork) (counter : Nat) (proof : Check) : State :=
  let t := s.tap l
  let s := s.endExchange l
  if receiptGood t w counter proof then s.confirm l w counter else s.tear l w true

/-- Serve a step of EVALUATING that a lane awaits, with the image, the kind and the bound bank in hand (R18). -/
def State.whenAwaited (s : State) (l : Lane) (stage : EvalStage) (f : TxKind → AreaId → CardImage → State) : State :=
  let t := s.tap l
  if s.phase = .running ∧ t.phase = .evaluating ∧ t.stage = some stage then
    match t.kind, t.bound, t.image with
    | some k, some i, some c => f k i c
    | _, _, _ => s
  else s

/-- Take an answer of the reader port: as the answer awaited, or as one of another type (R4). -/
def State.takeAnswer (s : State) (l : Lane) (phase : TapPhase) (f : Exchange → Bool) (act : State) : State :=
  if s.phase ≠ .running then s else if (s.tap l).awaits phase f then act else s.wrongAnswer l

/-- Take an answer to COMMIT with the commit in hand. -/
def State.takeCommitAnswer (s : State) (l : Lane) (f : CommitWork → State) : State :=
  match (s.tap l).work with
  | none => if s.phase ≠ .running then s else s.wrongAnswer l
  | some w => s.takeAnswer l .committing isCommit (f w)

end Sys2Proof.Machine
end

