-- ==== Sys2Proof/Machine/Link.lean ====
section
/-! DEFINITION. The host link (R179 to R182): the byte receiver, the receive queue, the forming and sending of replies, and the
RESET_COMMAND wait (R192). -/

namespace Sys2Proof.Machine

/-- Change the host link. -/
def State.modLink (s : State) (f : Link → Link) : State := { s with link := f s.link }

/-- Change the link counters (R182). -/
def State.countLink (s : State) (f : LinkCounters → LinkCounters) : State :=
  s.modLink fun k => { k with counters := f k.counters }

/-! ### Answers and replies -/

/-- An answer OK with a body. -/
def ok (body : List Byte) : Answer := ⟨.ok, none, body⟩

/-- An answer OK, or CLAMPED when a value was brought into range, with a body (R181). -/
def okClamped (clamped : Bool) (body : List Byte) : Answer := ⟨if clamped then .clamped else .ok, none, body⟩

/-- An answer BAD_REQUEST. -/
def badRequest : Answer := ⟨.badRequest, none, []⟩

/-- An answer BUSY. -/
def busy : Answer := ⟨.busy, none, []⟩

/-- An answer STARTING. -/
def starting : Answer := ⟨.starting, none, []⟩

/-- An answer REFUSED with its reason. -/
def refused (r : Reason) : Answer := ⟨.refused, some r, []⟩

/-- A reply's body: the status byte, the reason of a REFUSED reply, and what follows an OK or CLAMPED one (R181, R198). -/
def Answer.bytes (a : Answer) : List Byte :=
  statusCode a.status :: (match a.reason with
    | none => []
    | some r => [reasonCode r]) ++ a.body

/-- LEN, KIND, TAG and body: what the CRC covers (R179). -/
def coveredBytes (kind tag : Byte) (body : List Byte) : List Byte := beBytes 2 body.length ++ [kind, tag] ++ body

/-- A frame on the line: SYNC, the covered bytes, the CRC (R179, R198). -/
def frameBytes (kind tag : Byte) (body : List Byte) : List Byte :=
  0xA5 :: coveredBytes kind tag body ++ beBytes 2 (crc16 (coveredBytes kind tag body)).toNat

/-- The frame a reply is sent as; none for a reply to a request that did not come from the receive queue. -/
def Reply.frame (r : Reply) : Option (List Byte) := r.tag.map fun tag => frameBytes r.kind tag r.answer.bytes

/-- The KIND of the reply to a request: its high bit set (R181). -/
def replyKind (kind : Byte) : Byte := kind ||| 0x80

/-- Place a reply for sending (R180). -/
def State.addReply (s : State) (r : Reply) : State := s.modLink fun k => { k with replies := k.replies ++ [r] }

/-- Mark the oldest unanswered request answered. -/
def markAnswered : List QueuedRequest → List QueuedRequest
  | [] => []
  | q :: qs => if q.answered then q :: markAnswered qs else { q with answered := true } :: qs

/-- The oldest unanswered request (R180). -/
def Link.next (k : Link) : Option QueuedRequest := k.queue.find? fun q => !q.answered

/-- Form the reply to a command and place it: to the oldest unanswered request when that is this command, and otherwise without
a tag or a place in the queue (R180; log entry 3). -/
def State.answerRequest (s : State) (kind : Byte) (c : Instr) (a : Answer) (beginsWait : Bool) : State :=
  match s.link.next with
  | some q =>
    if decodeRequest q.kind q.body = c then
      (s.modLink fun k => { k with queue := markAnswered k.queue }).addReply ⟨replyKind kind, some q.tag, a, true, beginsWait⟩
    else s.addReply ⟨replyKind kind, none, a, false, beginsWait⟩
  | none => s.addReply ⟨replyKind kind, none, a, false, beginsWait⟩

/-- Serve a host request: answered STARTING during start-up, served and answered in service, and not handed on once a RESET has
been accepted or while the part holds or has no supply (R180, R181, R191 to R193). -/
def State.hostServe (s : State) (kind : Byte) (c : Instr) (work : State → Answer × State) : State :=
  match s.phase with
  | .running =>
    if s.link.reset = .none then
      let (a, s) := work s
      s.answerRequest kind c a false
    else s
  | .startUp => s.addReply ⟨replyKind kind, none, starting, false, false⟩
  | .held => s
  | .unpowered => s

/-! ### The receive queue -/

/-- During start-up the request at the head of the queue is answered STARTING (R193). -/
def State.serveStarting (s : State) : State :=
  match s.phase, s.link.queue with
  | .startUp, q :: _ =>
    if q.answered then s
    else (s.modLink fun k => { k with queue := markAnswered k.queue }).addReply ⟨replyKind q.kind, some q.tag, starting, true, false⟩
  | _, _ => s

/-- Offer a received request to the queue (R180); during the RESET_COMMAND wait it is discarded (R181). -/
def State.offerRequest (s : State) (kind tag : Byte) (body : List Byte) : State :=
  if s.link.reset = .waiting then s
  else if s.link.queue.length < 4 then (s.modLink fun k => { k with queue := k.queue ++ [⟨kind, tag, body, false⟩] }).serveStarting
  else (s.countLink fun c => { c with overflows := bump c.overflows }).raise .linkError

/-! ### The receiver (R179) -/

/-- The part receives bytes on the host link: not while it holds or has no supply (R191). -/
def State.linkUp (s : State) : Bool := s.phase == .running || s.phase == .startUp

/-- Put the receiver in a state. -/
def State.setReceiver (s : State) (r : Receiver) : State := s.modLink fun k => { k with receiver := r }

/-- Discard the frame being received. -/
def State.discardFrame (s : State) (f : LinkCounters → LinkCounters) : State :=
  ((s.setReceiver .hunting).countLink f).raise .linkError

/-- A frame is whole: its CRC is compared, and a good frame is counted and offered to the queue (R179, R180). -/
def State.frameWhole (s : State) (got : List Byte) : State :=
  let covered := got.take (got.length - 2)
  if (crc16 covered).toNat = ofBytes (got.drop (got.length - 2)) then
    ((s.setReceiver .hunting).countLink fun c => { c with accepted := bump c.accepted }).offerRequest (byteAt got 2) (byteAt got 3)
      (covered.drop 4)
  else s.discardFrame fun c => { c with crcErrors := bump c.crcErrors }

/-- One byte received (R179). -/
def State.rxByte (s : State) (b : Byte) : State :=
  match s.link.receiver with
  | .hunting => if b = 0xA5 then s.setReceiver (.inFrame []) else s
  | .inFrame got =>
    let got := got ++ [b]
    if got.length = 2 ∧ 512 < ofBytes got then s.discardFrame fun c => { c with lengthErrors := bump c.lengthErrors }
    else if 2 ≤ got.length ∧ got.length = numberAt got 0 2 + 6 then s.frameWhole got
    else s.setReceiver (.inFrame got)

/-- Bytes received one after another. -/
def State.rxBytes (s : State) (bs : List Byte) : State := bs.foldl State.rxByte s

/-- More than 20 ms pass between two bytes of a frame (R179). -/
def State.gapTimeout (s : State) : State :=
  match s.link.receiver with
  | .hunting => s
  | .inFrame _ => s.discardFrame fun c => { c with gapErrors := bump c.gapErrors }

end Sys2Proof.Machine
end

