-- ==== Sys2Proof/Machine/Status.lean ====
section
/-! DEFINITION. What the requests that only report reply with: STATUS GET (R187), TARIFF STATUS (R97), JOURNAL READ (R128, R131,
R200) and ECC COUNTS (R174).  The items stand in the order of the owning rules (R198). -/

namespace Sys2Proof.Machine

/-- A number in one byte. -/
def b1 (n : Nat) : List Byte := beBytes 1 n

/-- A number in two bytes. -/
def b2 (n : Nat) : List Byte := beBytes 2 n

/-! ### PART, SCREENING, JOURNAL -/

/-- An accepted state as the position of its name: BLOCKED before CLEAR for a beam, ASSERTED before RELEASED for a limit or the
EMERGENCY line (R140, R198; log entry 17). -/
def Input.stateByte (i : Input) : Byte := boolByte (!i.accepted)

/-- The start-up report (R197); the cause alone stands before the first start-up is complete. -/
def State.reportBytes (s : State) : List Byte :=
  match s.report with
  | some (c, r) => [causeCode c, retentionCode r]
  | none => [causeCode s.cause, 0]

/-- The settings and the station-set mark (R185). -/
def Settings.bytes (x : Settings) : List Byte :=
  b1 x.station ++ b2 x.network ++ b2 x.skew ++ b1 x.timeout ++ [boolByte x.isSet]

/-- The link counters in the order of R182. -/
def LinkCounters.bytes (c : LinkCounters) : List Byte :=
  b2 c.accepted ++ b2 c.lengthErrors ++ b2 c.gapErrors ++ b2 c.crcErrors ++ b2 c.overflows

/-- STATUS GET, PART (R187).  A key slot is its version behind a presence byte, 1 when loaded and 0 when empty, with no other byte
for loaded or empty; an active version of NONE is sent as an absent item (DESIGN CHOICE, log entry 17). -/
def State.partBytes (s : State) : List Byte :=
  s.reportBytes ++ beBytes 4 s.clock.time ++ [boolByte s.clock.timeSet] ++ s.settings.bytes ++ [s.emergency.stateByte]
    ++ s.keys.flatMap (fun k => optionalNat 1 (k.map (·.version)))
    ++ optionalNat 2 s.tariff.activeVersion ++ [boolByte (!s.tariff.usable), pendingCode s.tariff.pending]
    ++ s.events.enableBytes ++ s.link.counters.bytes

/-- The screening counters in the order of R51. -/
def ScreenCounters.bytes (c : ScreenCounters) : List Byte :=
  b2 c.screened ++ b2 c.clear ++ b2 c.blocked ++ b2 c.denylistHits ++ b2 c.suspectHits ++ b2 c.regressions ++ b2 c.divergences
    ++ b2 c.travelFindings ++ b2 c.exhausted ++ b2 c.imageInvalid ++ b2 c.unchecked ++ b2 c.pushOuts ++ b2 c.evictions
    ++ b2 c.heldBack ++ b2 c.feedInserted ++ b2 c.feedReplaced ++ b2 c.feedStale ++ b2 c.feedConflicts ++ b2 c.feedClamped

/-- In-doubt entries in a state (R116). -/
def Doubt.count (d : Doubt) (opened : Bool) : Nat := d.entries.countP fun e => e.val.opened == opened

/-- STATUS GET, SCREENING (R51, R116, R187). -/
def State.screeningBytes (s : State) : List Byte :=
  let x := s.screening
  x.counters.bytes ++ b2 x.sightings.length ++ b2 x.denylist.length ++ [boolByte (!x.denyValid)] ++ b2 x.suspects.length
    ++ b1 (s.doubt.count true) ++ b1 (s.doubt.count false)

/-- The oldest sequence held; absent when held is 0 (R117). -/
def Journal.oldestSeq (j : Journal) : Option Nat := if j.held = 0 then none else some j.oldest

/-- The newest sequence held; absent when held is 0 (R117). -/
def Journal.newestSeq (j : Journal) : Option Nat := if j.held = 0 then none else some j.newest

/-- STATUS GET, JOURNAL (R132). -/
def Journal.bytes (j : Journal) : List Byte :=
  b2 j.held ++ optionalNat 4 j.oldestSeq ++ optionalNat 4 j.newestSeq ++ beBytes 4 j.nextSequence
    ++ b1 (j.reserved .ordinary) ++ b1 (j.reserved .mandatory) ++ [boolByte (!j.isOpen)] ++ b2 j.lostOrdinary ++ b2 j.lostMandatory

/-! ### LANE -/

/-- What is left of a running timer, in milliseconds: a free value that is at most the time it was started with; a draw is taken
whether the timer runs or not (R160, R164; log entry 7). -/
def State.timeLeft (s : State) (duration : Option Nat) : Option Nat × State :=
  (duration.map fun d => min d (Config.millisecondsLeft s.draws), { s with draws := s.draws + 1 })

/-- A credit: serial, state, and the remaining lapse of an UNSTARTED one (R160). -/
def creditBytes (c : Credit) (left : Option Nat) : List Byte :=
  beBytes 8 c.serial.toNat ++ [boolByte c.inUse] ++ optionalNat 2 left

/-- The credits of a lane in list order, each with the time left on its lapse timer. -/
def State.creditsBytes (s : State) : List Credit → List Byte × State
  | [] => ([], s)
  | c :: cs =>
    let (left, s) := s.timeLeft (c.lapse.map (· * 1000))
    let (rest, s) := s.creditsBytes cs
    (creditBytes c left ++ rest, s)

/-- A passage: its credit's serial or none, its mark, and whether a tailgate was found (R160). -/
def passageBytes (x : Passage) : List Byte :=
  optional 8 (x.credit.map fun ser => beBytes 8 ser.toNat) ++ [boolByte x.marked, boolByte x.tailgate]

/-- The statistics in the order of R159. -/
def Stats.bytes (x : Stats) : List Byte :=
  b2 x.grants ++ b2 x.credited ++ b2 x.free ++ b2 x.lapses ++ b2 x.cancellations ++ x.results.flatMap b2

/-- What the passage controller reports, with its credits' bytes already formed (R160). -/
def Passages.bytes (p : Passages) (credits : List Byte) : List Byte :=
  [boolByte p.configured] ++ reportedConfig p.config ++ [serviceCode p.service]
    ++ optional 1 (p.faultCause.map fun c => [faultCode c])
    ++ b1 p.credits.length ++ credits ++ b1 p.passages.length ++ p.passages.flatMap passageBytes
    ++ [boolByte p.latch, boolByte p.intrusionOpen, boolByte p.obstructionReported, leafCode p.leaf.state, boolByte p.leaf.paused,
        p.openLimit.stateByte, p.closedLimit.stateByte]
    ++ p.beams.toList.map Input.stateByte ++ [boolByte (p.occ .approach), boolByte (p.occ .leaves), boolByte (p.occ .exit)] ++ p.stats.bytes

/-- What the tap controller reports (R7, R9).  R7 names NONE among the last results, and R198 numbers no such name: the model sends a
last result as an item that may be absent, NONE being its absence (DEDUCED, log entry 17). -/
def State.tapBytes (s : State) (l : Lane) : List Byte :=
  let t := s.tap l
  [tapPhaseCode t.phase, boolByte (!t.present)] ++ optionalNat 1 (t.lastResult.map resultIndex)
    ++ [readinessCode (s.laneReadiness l)]

/-- A held result: its code, its charge and its purse, either of which may be absent (R164, R198). -/
def HeldResult.bytes (h : HeldResult) : List Byte :=
  b1 (resultIndex h.code) ++ optionalNat 2 h.charge ++ optional 3 (h.purse.map (beSigned 3))

/-- The displayed key, the held result with its remaining hold, and the obstructed flag (R164, R187).  A held result has 8 bytes; its
remaining hold time follows as an item of its own, with its own presence byte (DESIGN CHOICE, log entry 17). -/
def Indicator.bytes (i : Indicator) (left : Option Nat) : List Byte :=
  b1 (keyIndex i.shown) ++ optional 8 (i.held.map HeldResult.bytes) ++ optionalNat 2 left ++ [boolByte i.obstructed]

/-- STATUS GET, LANE (R187); it changes nothing but the count of free values taken. -/
def State.laneBytes (s : State) (l : Lane) : List Byte × State :=
  let (credits, t) := s.creditsBytes (s.gate l).credits
  let (left, t) := t.timeLeft (s.ind l).holdTimer
  (s.tapBytes l ++ [reservationCode (s.journal.reservations.get l)] ++ (s.gate l).bytes credits ++ (s.ind l).bytes left, t)

/-- STATUS GET (R187). -/
def State.status (s : State) (selector lane : Byte) : Answer × State :=
  if selector = 0 then (ok s.partBytes, s)
  else if selector = 1 then (ok s.screeningBytes, s)
  else if selector = 2 then (ok s.journal.bytes, s)
  else if selector = 3 then match laneOf lane with
    | some l => let (body, s) := s.laneBytes l; (ok body, s)
    | none => (badRequest, s)
  else (badRequest, s)

/-! ### TARIFF STATUS, ECC COUNTS -/

/-- TARIFF STATUS (R97).  An active version of NONE is sent as an absent item (DESIGN CHOICE, log entry 17). -/
def State.tariffBytes (s : State) : List Byte :=
  let t := s.tariff
  optionalNat 2 t.activeVersion ++ [boolByte (!t.usable), pendingCode t.pending] ++ optionalNat 2 t.pendingVersion
    ++ optionalNat 4 t.effective ++ [validationCode t.validation] ++ b1 (s.holders t.active) ++ b1 (s.holders t.pendingId)

/-- The five units in the order of R171. -/
def Ecc.units (e : Ecc) : List MemoryUnit := [e.journal, e.sighting, e.lists, e.tariff, e.templates]

/-- The armed injection of every memory (R174, R177). -/
def Ecc.armedBytes (e : Ecc) : List Byte := e.units.map fun u => injectionCode u.armed

/-- ECC COUNTS' reply: the two counters of each memory, then the armed injections (R174). -/
def Ecc.bytes (e : Ecc) : List Byte := e.units.flatMap (fun u => b2 u.corrected ++ b1 u.uncorrected) ++ e.armedBytes

/-- Counters set to 0, injections kept (R174). -/
def MemoryUnit.clear (u : MemoryUnit) : MemoryUnit := { u with corrected := 0, uncorrected := 0 }

/-- All ten counters set to 0 (R174). -/
def Ecc.clear (e : Ecc) : Ecc := ⟨e.journal.clear, e.sighting.clear, e.lists.clear, e.tariff.clear, e.templates.clear⟩

/-! ### JOURNAL READ and JOURNAL RELEASE -/

/-- A field of a record: its bytes, or zeros when it is absent (R200). -/
def fieldBytes (size : Nat) (v : Option (List Byte)) : List Byte := v.getD (List.replicate size 0)

/-- Presence of the 17 optional fields, bit 0 first (R200). -/
def recordPresence (r : JournalRecord) : List Bool :=
  [r.serial.isSome, r.counter.isSome, r.station.isSome, r.reportedTime.isSome, r.secondCounter.isSome, r.secondStation.isSome,
   r.secondTime.isSome, r.source.isSome, r.charge.isSome, r.purse.isSome, r.fareReason.isSome, r.version.isSome, r.prior.isSome,
   r.flags.isSome, r.reference.isSome, r.detail.isSome, r.action.isSome]

/-- The number whose bit i is the i-th flag. -/
def flagSet : List Bool → Nat
  | [] => 0
  | f :: fs => (if f then 1 else 0) + 2 * flagSet fs

/-- The presence mask in 3 bytes, most significant first: bit 0 is the least significant bit of offset 8 (R200). -/
def maskBytes (n : Nat) : List Byte := beBytes 3 n

/-- A record as returned: 57 bytes (R200). -/
def recordBytes (sequence : Nat) (r : JournalRecord) : List Byte :=
  beBytes 4 sequence ++ [kindCode r.kind] ++ [(r.lane.map fun l => BitVec.ofNat 8 l.val).getD 0xFF] ++ maskBytes (flagSet (recordPresence r))
    ++ beBytes 4 r.time
    ++ fieldBytes 8 (r.serial.map fun x => beBytes 8 x.toNat) ++ fieldBytes 3 (r.counter.map (beBytes 3))
    ++ fieldBytes 1 (r.station.map (beBytes 1)) ++ fieldBytes 4 (r.reportedTime.map (beBytes 4))
    ++ fieldBytes 3 (r.secondCounter.map (beBytes 3)) ++ fieldBytes 1 (r.secondStation.map (beBytes 1))
    ++ fieldBytes 4 (r.secondTime.map (beBytes 4)) ++ fieldBytes 1 (r.source.map fun x => [sourceCode x])
    ++ fieldBytes 2 (r.charge.map (beBytes 2)) ++ fieldBytes 4 (r.purse.map (beSigned 4))
    ++ fieldBytes 1 (r.fareReason.map fun x => [fareReasonCode x]) ++ fieldBytes 2 (r.version.map (beBytes 2))
    ++ fieldBytes 2 (r.prior.map fun x => beBytes 2 (x.getD 0)) ++ fieldBytes 1 (r.flags.map fun x => [flagsByte x])
    ++ fieldBytes 4 (r.reference.map (beBytes 4)) ++ fieldBytes 2 (r.detail.map detailBytes)
    ++ fieldBytes 1 (r.action.map fun x => [actionCode x])

/-- A DAMAGED record: its sequence, kind 0xFF, lane 0xFF, every other byte 0 (R131, R200). -/
def damagedBytes (sequence : Nat) : List Byte := beBytes 4 sequence ++ [0xFF, 0xFF] ++ List.replicate 51 0

/-- Records read one after another from a sequence on: their bytes and what the reads found (R131). -/
def readRecords (sequence : Nat) : List (Stored JournalRecord) → List Byte × Tally
  | [] => ([], ⟨0, 0⟩)
  | x :: xs =>
    let r := readRecords (seqForward sequence 1) xs
    match x.bits with
    | .clean => (recordBytes sequence x.val ++ r.1, r.2)
    | .single => (recordBytes sequence x.val ++ r.1, { r.2 with corrected := r.2.corrected + 1 })
    | .double => (damagedBytes sequence ++ r.1, { r.2 with uncorrected := r.2.uncorrected + 1 })

/-- Where a sequence lies (R118): at an index of the held records, behind them, or ahead of them; `empty` while none is held. -/
inductive Place where
  | held (index : Nat)
  | behind
  | ahead
  | empty
deriving DecidableEq, Repr

/-- The place of a sequence (R118, R128, R129). -/
def Journal.place (j : Journal) (sequence : Nat) : Place :=
  if j.held = 0 then .empty
  else if seqDistance j.oldest sequence < j.held then .held (seqDistance j.oldest sequence)
  else if seqDistance sequence j.oldest ≤ 2147483647 then .behind
  else .ahead

/-- The first record returned, how many records stand from it on in the reply, and started-at-oldest (R128). -/
def Journal.readFrom (j : Journal) (start count : Nat) : Nat × List (Stored JournalRecord) × Bool :=
  match j.place start with
  | .held i => (start, (j.records.drop i).take count, false)
  | .behind => (j.oldest, j.records.take count, true)
  | .ahead => (start, [], false)
  | .empty => (start, [], false)

/-- JOURNAL READ past its checks (R128, R131, R200). -/
def State.readJournal (s : State) (start count : Nat) : Answer × State :=
  let j := s.journal
  let (first, records, atOldest) := j.readFrom start count
  let (bytes, tally) := readRecords first records
  (ok (optionalNat 4 j.oldestSeq ++ optionalNat 4 j.newestSeq ++ b2 j.held ++ beBytes 4 j.nextSequence ++ [boolByte atOldest]
    ++ b1 records.length ++ bytes), s.noteFindings .journal tally.corrected tally.uncorrected)

/-- Free the oldest records (R129). -/
def Journal.free (j : Journal) (n : Nat) : Journal :=
  { j with records := j.records.drop n, oldestPlace := (j.oldestPlace + n) % 2048 }

/-- JOURNAL RELEASE past its check: whether CLAMPED, and the journal after (R129). -/
def Journal.release (j : Journal) (upto : Nat) : Bool × Journal :=
  match j.place upto with
  | .held i => (false, j.free (i + 1))
  | .ahead => (true, j.free j.held)
  | .behind => (false, j)
  | .empty => (false, j)

end Sys2Proof.Machine
end

