-- ==== Sys2Proof/Machine/StartUp.lean ====
section
/-! DEFINITION. Resets and start-up (chapter 11): what a reset does to volatile state, the RESET_COMMAND wait, and the six steps of
the start-up sequence. -/

namespace Sys2Proof.Machine

/-! ### A reset falls (R191) -/

/-- An input when a reset falls: the level is the pin's, the rest is volatile. -/
def Input.atReset (i : Input) : Input := { i with accepted := false, timer := none }

/-- A passage controller when a reset falls: its configuration is retained, its inputs keep their levels (R135, R136, R145, R159). -/
def Passages.atReset (p : Passages) : Passages :=
  { Passages.cleared with
    config := p.config
    configured := p.configured
    beams := p.beams.map Input.atReset
    openLimit := p.openLimit.atReset
    closedLimit := p.closedLimit.atReset }

/-- A lane when a reset falls (R7, R136, R164). -/
def LaneUnit.atReset (u : LaneUnit) : LaneUnit := ⟨Tap.cleared, u.gate.atReset, Indicator.cleared⟩

/-- A reset falls with a cause, leaving the part in a phase: all volatile state takes its reset values (R191). -/
def State.resetFalls (s : State) (cause : ResetCause) (phase : PartPhase) : State :=
  { s with
    phase := phase
    cause := cause
    report := none
    emergency := s.emergency.atReset
    link := Link.cleared
    events := Events.cleared
    screening := { s.screening with counters := ScreenCounters.zero }
    journal := { s.journal with reservations := .all none }
    lanes := s.lanes.map LaneUnit.atReset
    display := Display.cleared
    ecc := Ecc.zero }

/-- The phase a reset leaves the part in while the RESET input is as it stands (R191). -/
def State.phaseAfterReset (s : State) : PartPhase := if s.resetLine then .held else .startUp

/-! ### The RESET_COMMAND wait (R192) -/

/-- A tap controller is in COMMITTING. -/
def State.anyCommitting (s : State) : Bool := s.lanes.toList.any fun u => u.tap.phase == .committing

/-- End a lane's transaction at the start of the wait (R17). -/
def State.waitLane (s : State) (l : Lane) : State :=
  if beforeCommit (s.tap l).phase then s.abortTap l .tapAgain else s

/-- The wait ends when no tap controller is in COMMITTING: the reset falls (R192). -/
def State.endWait (s : State) : State :=
  if s.link.reset = .waiting ∧ s.anyCommitting = false then s.resetFalls .resetCommand s.phaseAfterReset else s

/-- The last byte of the reply to RESET has been sent: the wait begins, and ends at once when nothing is in COMMITTING (R17,
R192). -/
def State.beginWait (s : State) : State :=
  (allLanes.foldl State.waitLane (s.modLink fun k => { k with reset := .waiting })).endWait

/-- The last byte of a reply has been sent (R180, R192). -/
def State.replySent (s : State) : State :=
  match s.link.replies with
  | [] => s
  | r :: rs =>
    let s := s.modLink fun k => { k with replies := rs, queue := if r.holdsPlace then k.queue.drop 1 else k.queue }
    if s.phase = .running ∧ r.beginsWait then s.beginWait else s.serveStarting

/-! ### Step 2, the retention check (R194) -/

/-- A marker or header is intact. -/
def intact (x : Stored Bool) : Bool := x.val && x.bits != .double

/-- The retention check passes. -/
def Retention.passes (r : Retention) : Bool :=
  intact r.marker && intact r.journal && intact r.sighting && intact r.lists && intact r.tariff && intact r.settings

/-- The marker and headers as the clearing writes them, last. -/
def Retention.written : Retention :=
  ⟨.fresh true, .fresh true, .fresh true, .fresh true, .fresh true, .fresh true⟩

/-- A lane unconfigured (R135). -/
def Passages.unconfigured (p : Passages) : Passages := { p with config := LaneConfig.cleared, configured := false }

/-- The retained content takes the values of R194's table. -/
def State.clearRetained (s : State) : State :=
  { s with
    clock := ⟨0, false⟩
    settings := Settings.cleared
    keys := KeySlot.allEmpty
    tariff := TariffStore.cleared
    screening := { Screening.cleared with counters := s.screening.counters }
    doubt := Doubt.cleared
    journal := { Journal.cleared with reservations := s.journal.reservations }
    lanes := s.lanes.map fun u => { u with gate := u.gate.unconfigured } }

/-- Step 2: the result, and the state after (R194). -/
def State.retentionCheck (s : State) : RetentionResult × State :=
  if s.retention.passes then (.retained, s)
  else (.tablesLost, { s.clearRetained with retention := Retention.written })

/-! ### Step 3, conversion of PROVISIONAL entries (R195, R116) -/

/-- Rebuild a reservation for each lane the LISTS header marks, with no admission test. -/
def State.rebuildReservations (s : State) : State :=
  { s with journal := { s.journal with reservations := s.doubt.header.map fun k => k.map changeClass } }

/-- The IN_DOUBT record of a converted entry: the fields of R107, no flags, detail RESET. -/
def convertedRecord (e : DoubtEntry) : JournalRecord :=
  { JournalRecord.blank .inDoubt (some e.lane) with
    serial := some e.serial, counter := some e.counterBefore, secondCounter := some (e.counterBefore + 1),
    charge := some e.charge, purse := some e.purse, fareReason := some e.fareReason, version := e.version,
    flags := some RecordFlags.empty, detail := some (.named .reset) }

/-- Turn one PROVISIONAL entry OPEN against its lane's rebuilt reservation. -/
def State.convertEntry (s : State) (e : DoubtEntry) : State :=
  let t := s.appendReserved e.lane (changeClass e.change) (convertedRecord e)
  let (item, t) := t.store .lists { e with opened := true, sequence := takenSequence s.journal t.journal }
  t.setDoubt (t.doubt.entries.map fun x => if x.val.serial = e.serial ∧ !x.val.opened then item else x)

/-- Read the entries in order: damaged ones are removed with their record, PROVISIONAL ones converted, OPEN ones kept. -/
def State.convertEntries (s : State) : List (Stored DoubtEntry) → State
  | [] => s
  | e :: es =>
    let s := s.noteRead .lists e.bits
    if e.bits = .double then (s.removeDoubt e.val.serial).recordDamagedEntry.convertEntries es
    else if e.val.opened then s.convertEntries es
    else (s.convertEntry e.val).convertEntries es

/-- A rebuilt reservation left unconsumed: an IN_DOUBT record with detail MEMORY_ERROR. -/
def State.consumeLeftover (s : State) (l : Lane) : State :=
  match s.journal.reservations.get l with
  | none => s
  | some c => s.appendReserved l c { JournalRecord.blank .inDoubt (some l) with detail := some (.named .memoryError) }

/-- Step 3.  Leftover reservations are consumed from lane 0 to lane 3, an order that R133 and R195 do not give (DESIGN CHOICE, log
entry 14).  The marks of the LISTS header are cleared, its stored bits kept (log entry 49). -/
def State.convertProvisional (s : State) : State :=
  let s := s.rebuildReservations
  let s := allLanes.foldl State.consumeLeftover (s.convertEntries s.doubt.entries)
  { s with doubt := { s.doubt with header := .all none } }

/-! ### Steps 4 to 6 (R196, R197) -/

/-- Step 4: a switchover that is due completes. -/
def State.switchAtStart (s : State) : State :=
  if s.tariff.pending = .switching ∨ s.switchDue then s.completeSwitch else s

/-- The accepted states of a lane's inputs as they stand; an occupied L starts its obstruction timer (R140, R151). -/
def Passages.sample (p : Passages) : Passages :=
  let p := { p with
    beams := p.beams.map fun i => i.accept (blockedBy p.config.polarity i.high)
    openLimit := p.openLimit.accept (!p.openLimit.high)
    closedLimit := p.closedLimit.accept (!p.closedLimit.high) }
  { p with obstruction := if p.occ .leaves then some p.config.obstruction else none }

/-- Step 5 for one lane: inputs, service state, leaves, frame. -/
def State.bringUpLane (s : State) (l : Lane) : State :=
  let s := s.modGate l Passages.sample
  let s := s.setService l (if s.emergency.accepted then .emergencyOpen else .closed)
  (s.putLeaves l (s.gate l).startUpLeaves).composeAndSend l

/-- Step 5. -/
def State.bringUpLanes (s : State) : State :=
  allLanes.foldl State.bringUpLane { s with emergency := s.emergency.accept s.emergency.high }

/-- Step 6: events, enables, report, RESET_DONE; start-up is complete. -/
def State.finishStartUp (s : State) (result : RetentionResult) : State :=
  ({ s with events := Events.cleared, report := some (s.cause, result), phase := .running } : State).raise .resetDone

/-- The settle interval expires: steps 2 to 6 (R193). -/
def State.startUp (s : State) : State :=
  let (result, s) := s.retentionCheck
  s.convertProvisional.switchAtStart.bringUpLanes.finishStartUp result

end Sys2Proof.Machine
end

