-- ==== Sys2Proof/Machine/HostRequests.lean ====
section
/-! DEFINITION. The meanings of the host requests (R181): each is served by its block and answered; during start-up it is answered
STARTING.  The number handed to `hostServe` is the request's KIND (R198). -/

namespace Sys2Proof.Machine

open Host

/-- What every command of this part answers. -/
abbrev Result := Outcome State Fault Refusal

/-! ### STATUS GET, the clock, the settings, the keys (chapter 10) -/

/-- STATUS_GET (R187). -/
def execStatusGet (selector lane : Byte) (s : State) : Result :=
  .next (s.hostServe 0x01 (.statusGet selector lane) fun s => s.status selector lane)

/-- A change of station time is a time step: the flag was set and the difference exceeds the skew allowance (R184). -/
def State.isStep (s : State) (time : Nat) : Bool :=
  s.clock.timeSet && (s.settings.skew < time - s.clock.time || s.settings.skew < s.clock.time - time)

/-- TIME SET (R184); a scheduled bank may fall due (R91).  A TIME_STEP record is appended before the TARIFF_SWITCH record of a
switchover that the same request completes, an order the spec does not give (DESIGN CHOICE, log entry 51). -/
def State.setTime (s : State) (time : Nat) : Answer × State :=
  let old := s.clock.time
  let stepped := s.isStep time
  let s := { s with clock := ⟨time, true⟩ }
  let s :=
    if stepped then
      (s.appendUnreserved .mandatory { JournalRecord.blank .timeStep none with secondTime := some old }).raise .timeStep
    else s
  (ok (beBytes 4 old ++ beBytes 4 time ++ [boolByte stepped]), s.enterSwitching)

/-- TIME_SET (R184). -/
def execTimeSet (time : BitVec 32) (s : State) : Result :=
  .next (s.hostServe 0x02 (.timeSet time) fun s => s.setTime time.toNat)

/-- TIME_GET (R183). -/
def execTimeGet (s : State) : Result :=
  .next (s.hostServe 0x03 .timeGet fun s => (ok (beBytes 4 s.clock.time ++ [boolByte s.clock.timeSet]), s))

/-- The settings a STATION SET applies (R185). -/
def appliedStation (station network skew timeout : Nat) : Settings :=
  ⟨clampNat 1 255 station, network, clampNat 0 600 skew, clampNat 10 100 timeout, true⟩

/-- STATION SET (R185). -/
def State.setStation (s : State) (station network skew timeout : Nat) : Answer × State :=
  let x := appliedStation station network skew timeout
  (okClamped (x.station != station || x.skew != skew || x.timeout != timeout)
    (b1 x.station ++ b2 x.network ++ b2 x.skew ++ b1 x.timeout), { s with settings := x })

/-- STATION_SET (R185). -/
def execStationSet (station : Byte) (network skew : BitVec 16) (timeout : Byte) (s : State) : Result :=
  .next (s.hostServe 0x04 (.stationSet station network skew timeout) fun s =>
    s.setStation station.toNat network.toNat skew.toNat timeout.toNat)

/-- KEY LOAD (R186). -/
def State.loadKey (s : State) (slot version : Nat) (wrapped : BitVec 256) : Answer × State :=
  if 7 < slot ∨ version < 1 ∨ 8 < version then (badRequest, s)
  else match Config.unwrapKey wrapped version with
    | none => (refused .keyCheckFailed, s)
    | some k => (ok [], { s with keys := s.keys.set slot (some ⟨version, k⟩) })

/-- KEY_LOAD (R186). -/
def execKeyLoad (slot version : Byte) (wrapped : BitVec 256) (s : State) : Result :=
  .next (s.hostServe 0x0C (.keyLoad slot version wrapped) fun s => s.loadKey slot.toNat version.toNat wrapped)

/-! ### Lane configuration and service (chapter 7) -/

/-- The configuration replaces the lane's; a change of polarity takes each beam's accepted state afresh (R134, R135). -/
def Passages.applyConfig (p : Passages) (c : LaneConfig) : Passages :=
  { p with
    config := c
    configured := true
    beams := if c.polarity = p.config.polarity then p.beams
      else p.beams.map fun i => i.accept (blockedBy c.polarity i.high) }

/-- LANE CONFIG (R134, R135). -/
def State.configureLane (s : State) (lane : Byte) (x : LaneSettings) : Answer × State :=
  match laneOf lane with
  | none => (badRequest, s)
  | some l =>
    if settingsBad x then (badRequest, s)
    else if (s.gate l).service ≠ .closed then (busy, s)
    else if maskBlind (x.mask.truncate 6) then (refused .segmentBlind, s)
    else (okClamped (settingsClamped x) (configBytes (appliedSettings x)),
      s.beamChange l fun p => p.applyConfig (appliedSettings x))

/-- LANE_CONFIG (R134). -/
def execLaneConfig (lane : Byte) (settings : LaneSettings) (s : State) : Result :=
  .next (s.hostServe 0x05 (.laneConfig lane settings) fun s => s.configureLane lane settings)

/-- A LANE SERVICE request: its lane number checked, then its effect, refused or not (R136). -/
def State.laneService (s : State) (lane : Byte) (f : State → Lane → Option Reason × State) : Answer × State :=
  match laneOf lane with
  | none => (badRequest, s)
  | some l =>
    let (reason, s) := f s l
    match reason with
    | some r => (refused r, s)
    | none => (ok [], s)

/-- LANE_SERVICE_IN (R137). -/
def execLaneServiceIn (lane : Byte) (s : State) : Result :=
  .next (s.hostServe 0x06 (.laneServiceIn lane) fun s => s.laneService lane State.serviceIn)

/-- LANE_SERVICE_OUT (R138). -/
def execLaneServiceOut (lane : Byte) (s : State) : Result :=
  .next (s.hostServe 0x06 (.laneServiceOut lane) fun s => s.laneService lane State.serviceOut)

/-- LANE_SERVICE_HOLD_OPEN (R139). -/
def execLaneServiceHoldOpen (lane : Byte) (s : State) : Result :=
  .next (s.hostServe 0x06 (.laneServiceHoldOpen lane) fun s => s.laneService lane State.serviceHoldOpen)

/-! ### Tariff (chapter 4) -/

/-- TARIFF BEGIN (R87). -/
def State.beginTariff (s : State) (version : Nat) : Answer × State :=
  if version = 0 then (badRequest, s)
  else if s.tariff.activeVersion = some version then (refused .versionInUse, s)
  else if s.tariff.pending = .switching then (busy, s)
  else if s.holders s.tariff.pendingId ≠ 0 then (busy, s)
  else (ok [], s.clearPending version)

/-- TARIFF_BEGIN (R87). -/
def execTariffBegin (version : BitVec 16) (s : State) : Result :=
  .next (s.hostServe 0x07 (.tariffBegin version) fun s => s.beginTariff version.toNat)

/-- TARIFF WRITE (R88); a request of no items does not fit its kind (R181). -/
def State.writeTariff (s : State) (part : Byte) (start : Nat) (items : List TariffItem) : Answer × State :=
  if items.isEmpty then (badRequest, s)
  else if s.tariff.pending ≠ .loading then (refused .wrongState, s)
  else match bankPartOf part with
    | none => (badRequest, s)
    | some p =>
      if partSize p < start + items.length ∨ items.all (itemOk p) = false then (badRequest, s)
      else (ok [], s.writeItems p start items)

/-- TARIFF_WRITE (R88). -/
def execTariffWrite (part : Byte) (start : BitVec 16) (items : List TariffItem) (s : State) : Result :=
  .next (s.hostServe 0x08 (.tariffWrite part start items) fun s => s.writeTariff part start.toNat items)

/-- TARIFF CLOSE (R89). -/
def State.closeTariff (s : State) : Answer × State :=
  if s.tariff.pending ≠ .loading then (refused .wrongState, s)
  else
    let s := s.closeBank
    (ok [pendingCode s.tariff.pending, validationCode s.tariff.validation], s)

/-- TARIFF_CLOSE (R89). -/
def execTariffClose (s : State) : Result := .next (s.hostServe 0x09 .tariffClose State.closeTariff)

/-- TARIFF ACTIVATE (R90, R91). -/
def State.activateTariff (s : State) (time : Nat) : Answer × State :=
  if !s.clock.timeSet then (refused .timeNotSet, s)
  else if s.tariff.pending = .ready ∨ s.tariff.pending = .scheduled then
    let s := State.enterSwitching { s with tariff := { s.tariff with pending := .scheduled, effective := some time } }
    (ok [pendingCode s.tariff.pending], s)
  else (refused .wrongState, s)

/-- TARIFF_ACTIVATE (R90). -/
def execTariffActivate (time : BitVec 32) (s : State) : Result :=
  .next (s.hostServe 0x0A (.tariffActivate time) fun s => s.activateTariff time.toNat)

/-- TARIFF_STATUS (R97). -/
def execTariffStatus (s : State) : Result := .next (s.hostServe 0x0B .tariffStatus fun s => (ok s.tariffBytes, s))

/-! ### Denylist, suspect list, feeds (chapter 2) -/

/-- DENY ADD (R31, R33). -/
def State.addDenyItems (s : State) (items : List DenyItem) : Answer × State :=
  if items.length < 1 ∨ 51 < items.length ∨ items.any denyItemBad = true then (badRequest, s)
  else if !s.screening.denyValid then (refused .denylistInvalid, s)
  else
    let found := s.screening.suspects
    let (counts, s) := s.takeDenyItems items ⟨0, 0, 0, 0⟩
    match counts with
    | some n => (ok (b1 n.added ++ b1 n.updated ++ b1 n.notTaken ++ b1 n.moved), s)
    | none => (refused .denylistInvalid, s.setSuspects found)

/-- DENY_ADD (R31). -/
def execDenyAdd (items : List DenyItem) (s : State) : Result :=
  .next (s.hostServe 0x0D (.denyAdd items) fun s => s.addDenyItems items)

/-- DENY REMOVE (R32, R33). -/
def State.removeDeny (s : State) (serials : List Serial) : Answer × State :=
  if serials.length < 1 ∨ 63 < serials.length then (badRequest, s)
  else if !s.screening.denyValid then (refused .denylistInvalid, s)
  else
    let (counts, s) := s.removeDenySerials serials 0 0
    match counts with
    | some n => (ok (b1 n.1 ++ b1 n.2), s)
    | none => (refused .denylistInvalid, s)

/-- DENY_REMOVE (R32). -/
def execDenyRemove (serials : List Serial) (s : State) : Result :=
  .next (s.hostServe 0x0E (.denyRemove serials) fun s => s.removeDeny serials)

/-- DENY CLEAR (R32). -/
def State.clearDeny (s : State) : State := { s with screening := { s.screening with denylist := [], denyValid := true } }

/-- DENY_CLEAR (R32). -/
def execDenyClear (s : State) : Result := .next (s.hostServe 0x0F .denyClear fun s => (ok [], s.clearDeny))

/-- SUSPECT READ (R35). -/
def State.readSuspectPage (s : State) (position count : Nat) : Answer × State :=
  if 511 < position ∨ count < 1 ∨ 32 < count then (badRequest, s)
  else
    let (body, s) := s.suspectPage position count
    (ok body, s)

/-- SUSPECT_READ (R35). -/
def execSuspectRead (position : BitVec 16) (count : Byte) (s : State) : Result :=
  .next (s.hostServe 0x10 (.suspectRead position count) fun s => s.readSuspectPage position.toNat count.toNat)

/-- SUSPECT CLEAR (R36, R176). -/
def State.clearSuspect (s : State) (ser : Serial) : Answer × State :=
  let (held, s) := s.lookupSuspect ser
  if held.isSome then (ok (b1 1), s.setSuspects (withoutSuspect ser s.screening.suspects)) else (ok (b1 0), s)

/-- SUSPECT_CLEAR (R36). -/
def execSuspectClear (serial : Serial) (s : State) : Result :=
  .next (s.hostServe 0x11 (.suspectClear serial) fun s => s.clearSuspect serial)

/-- FEED SIGHTINGS (R46 to R49). -/
def State.feed (s : State) (items : List FeedItem) : Answer × State :=
  if items.length < 1 ∨ 32 < items.length ∨ items.any feedItemBad = true then (badRequest, s)
  else if !s.clock.timeSet then (refused .timeNotSet, s)
  else
    let (n, s) := s.applyFeed items ⟨0, 0, 0, 0, 0⟩
    (okClamped (n.clamped != 0) (b1 n.inserted ++ b1 n.replaced ++ b1 n.stale ++ b1 n.conflicts),
      s.countScreen fun c => c.addFeed n)

/-- FEED_SIGHTINGS (R46). -/
def execFeedSightings (items : List FeedItem) (s : State) : Result :=
  .next (s.hostServe 0x12 (.feedSightings items) fun s => s.feed items)

/-! ### Journal (chapter 6) -/

/-- JOURNAL READ (R128). -/
def State.journalRead (s : State) (start count : Nat) : Answer × State :=
  if start = 0 ∨ count < 1 ∨ 8 < count then (badRequest, s) else s.readJournal start count

/-- JOURNAL_READ (R128). -/
def execJournalRead (start : BitVec 32) (count : Byte) (s : State) : Result :=
  .next (s.hostServe 0x13 (.journalRead start count) fun s => s.journalRead start.toNat count.toNat)

/-- JOURNAL RELEASE (R129). -/
def State.journalRelease (s : State) (upto : Nat) : Answer × State :=
  if upto = 0 then (badRequest, s)
  else
    let (clamped, j) := s.journal.release upto
    (okClamped clamped (b2 j.held ++ optionalNat 4 j.oldestSeq), { s with journal := j })

/-- JOURNAL_RELEASE (R129). -/
def execJournalRelease (upto : BitVec 32) (s : State) : Result :=
  .next (s.hostServe 0x14 (.journalRelease upto) fun s => s.journalRelease upto.toNat)

/-! ### Events (chapter 10) -/

/-- EVENTS_PEEK (R189). -/
def execEventsPeek (s : State) : Result := .next (s.hostServe 0x15 .eventsPeek fun s => (ok s.events.listBytes, s))

/-- EVENTS TAKE: the list and the clearing are one step (R189). -/
def State.takeEvents (s : State) : Answer × State :=
  (ok s.events.listBytes, { s with events := { s.events with pending := 0 } })

/-- EVENTS_TAKE (R189). -/
def execEventsTake (s : State) : Result := .next (s.hostServe 0x16 .eventsTake State.takeEvents)

/-- EVENTS ENABLE: bits 0 to 28 are the flags in priority order (R190). -/
def State.enableEvents (s : State) (flags : BitVec 32) : Answer × State :=
  let e := { s.events with enabled := flags.truncate 29 }
  (ok e.enableBytes, { s with events := e })

/-- EVENTS_ENABLE (R190). -/
def execEventsEnable (flags : BitVec 32) (s : State) : Result :=
  .next (s.hostServe 0x17 (.eventsEnable flags) fun s => s.enableEvents flags)

/-! ### Indicators (chapter 8) -/

/-- A lane's frame is composed from a template number: its displayed key maps to it. -/
def Display.uses (d : Display) (n : Nat) (i : Indicator) : Bool := (d.entry i.key).val == n

/-- TEMPLATE WRITE (R162). -/
def State.writeTemplate (s : State) (number : Byte) (cells : List RawCell) (slots : List RawSlot) : Answer × State :=
  if templateOk number cells slots then
    let (item, s) := s.store .templates (templateOf cells slots)
    let s := { s with display := { s.display with templates := s.display.templates.set number.toNat item } }
    (ok [], s.recompose (s.display.uses number.toNat))
  else (badRequest, s)

/-- TEMPLATE_WRITE (R162). -/
def execTemplateWrite (number : Byte) (cells : List RawCell) (slots : List RawSlot) (s : State) : Result :=
  .next (s.hostServe 0x18 (.templateWrite number cells slots) fun s => s.writeTemplate number cells slots)

/-- Apply the items of a RESULT MAP in order (R163). -/
def State.mapItems (s : State) : List (Byte × Byte) → State
  | [] => s
  | x :: xs =>
    let (item, s) := s.store .templates x.2.toNat
    State.mapItems { s with display := { s.display with map := s.display.map.set x.1.toNat item } } xs

/-- RESULT MAP (R163). -/
def State.mapResults (s : State) (items : List (Byte × Byte)) : Answer × State :=
  if items.length < 1 ∨ 27 < items.length ∨ items.all mapItemOk = false then (badRequest, s)
  else (ok [], (s.mapItems items).recompose fun i => items.any fun x => x.1.toNat == keyIndex i.key)

/-- RESULT_MAP (R163). -/
def execResultMap (items : List (Byte × Byte)) (s : State) : Result :=
  .next (s.hostServe 0x19 (.resultMap items) fun s => s.mapResults items)

/-! ### Memory check unit (chapter 9) -/

/-- ECC COUNTS: 0 is KEEP and 1 is CLEAR (R174). -/
def State.eccCounts (s : State) (clear : Byte) : Answer × State :=
  if clear = 0 then (ok s.ecc.bytes, s)
  else if clear = 1 then (ok s.ecc.bytes, { s with ecc := s.ecc.clear })
  else (badRequest, s)

/-- ECC_COUNTS (R174). -/
def execEccCounts (clear : Byte) (s : State) : Result :=
  .next (s.hostServe 0x1A (.eccCounts clear) fun s => s.eccCounts clear)

/-- The kind of an injection: 0 SINGLE, 1 DOUBLE (R177). -/
def injectionOf : Byte → Option Injection
  | 0 => some .single | 1 => some .double | _ => none

/-- ECC INJECT (R177). -/
def State.inject (s : State) (memory kind : Byte) : Answer × State :=
  match memoryOf memory, injectionOf kind with
  | some m, some k =>
    let e := s.ecc.set m { s.ecc.get m with armed := some k }
    (ok e.armedBytes, { s with ecc := e })
  | _, _ => (badRequest, s)

/-- ECC_INJECT (R177). -/
def execEccInject (memory kind : Byte) (s : State) : Result :=
  .next (s.hostServe 0x1B (.eccInject memory kind) fun s => s.inject memory kind)

/-! ### RESET and requests that fit no kind (R181) -/

/-- RESET accepted: answered OK, and no further request is handed on (R181). -/
def State.acceptReset (s : State) : State :=
  (s.answerRequest 0x1C .reset (ok []) true).modLink fun k => { k with reset := .replying }

/-- RESET (R181); during start-up it is answered STARTING and has no effect (R193). -/
def execReset (s : State) : Result :=
  .next (if s.phase = .running ∧ s.link.reset = .none then s.acceptReset
    else s.hostServe 0x1C .reset fun s => (ok [], s))

/-- UNKNOWN_KIND: answered BAD_REQUEST without reaching any block (R181). -/
def execUnknownKind (kind : Byte) (body : List Byte) (s : State) : Result :=
  .next (s.hostServe kind (.unknownKind kind body) fun s => (badRequest, s))

end Sys2Proof.Machine
end

