-- ==== Sys2Proof/Machine/LaneCommands.lean ====
section
/-! DEFINITION. The meanings of a lane's inputs and timers, of the EMERGENCY line, and of the lane indicators' steps (chapters 7
and 8). -/

namespace Sys2Proof.Machine

/-! ### Beams and limits (R140) -/

/-- A level change of an input: recorded in every phase, debounced in service (R140, R196). -/
def State.inputLevel (s : State) (i : Input) (high : Bool) (time : Nat) : Input :=
  if s.phase = .running then i.levelChange high time else { i with high := high }

/-- BEAM_LEVEL_CHANGE (R140). -/
def execBeamLevelChange (lane : Lane) (beam : Beam) (high : Bool) (s : State) : Result :=
  .next (s.modGate lane fun p =>
    { p with beams := p.beams.set beam (s.inputLevel (p.beams.get beam) high p.config.debounce) })

/-- A beam's accepted state takes what its level means (R140). -/
def Passages.acceptBeam (p : Passages) (beam : Beam) : Passages :=
  let i := p.beams.get beam
  { p with beams := p.beams.set beam (i.accept (blockedBy p.config.polarity i.high)) }

/-- BEAM_DEBOUNCE_EXPIRY (R140, R141); with the timer stopped nothing happens. -/
def execBeamDebounceExpiry (lane : Lane) (beam : Beam) (s : State) : Result :=
  .next (if s.phase = .running ∧ ((s.gate lane).beams.get beam).timer.isSome then
    s.beamChange lane fun p => p.acceptBeam beam
  else s)

/-- LIMIT_LEVEL_CHANGE (R140). -/
def execLimitLevelChange (lane : Lane) (limit : Limit) (high : Bool) (s : State) : Result :=
  .next (s.modGate lane fun p => p.modLimit limit fun i => s.inputLevel i high p.config.debounce)

/-- LIMIT_DEBOUNCE_EXPIRY (R140, R152): a limit is asserted while its input is low (signal summary of chapter 12). -/
def execLimitDebounceExpiry (lane : Lane) (limit : Limit) (s : State) : Result :=
  .next (if s.phase = .running ∧ ((s.gate lane).limit limit).timer.isSome then
    s.limitChange lane limit (!((s.gate lane).limit limit).high)
  else s)

/-! ### The EMERGENCY line (R157, R158) -/

/-- EMERGENCY_LEVEL_CHANGE (R157): the debounce time is fixed at 50 ms. -/
def execEmergencyLevelChange (asserted : Bool) (s : State) : Result :=
  .next { s with emergency := s.inputLevel s.emergency asserted 50 }

/-- A tap controller at an assertion of the line (R17). -/
def State.emergencyTap (s : State) (l : Lane) : State :=
  if beforeCommit (s.tap l).phase && (s.tap l).kind != some .emergency then s.abortTap l .tapAgain else s

/-- An assertion of the line: the event, every lane, every tap controller (R157, R17). -/
def State.emergencyAsserted (s : State) : State :=
  let s := ({ s with emergency := ⟨true, true, none⟩ } : State).raise .emergency
  allLanes.foldl (fun s l => (s.emergencyLane l).emergencyTap l) s

/-- EMERGENCY_ASSERT (R157); while the line is accepted as asserted nothing changes. -/
def execEmergencyAssert (s : State) : Result :=
  .next (if s.phase = .running ∧ s.emergency.accepted = false then s.emergencyAsserted else s)

/-- EMERGENCY_RELEASE_LINE (R158); while the line is accepted as released nothing changes. -/
def execEmergencyReleaseLine (s : State) : Result :=
  .next (if s.phase = .running ∧ s.emergency.accepted = true then
    State.raise { s with emergency := ⟨false, false, none⟩ } .emergency
  else s)

/-! ### Lane timers -/

/-- CREDIT_LAPSE: of the credit at a position of the list (R143). -/
def execCreditLapse (lane : Lane) (position : Fin 2) (s : State) : Result :=
  .next (if s.phase = .running then s.lapseCredit lane position.val else s)

/-- CLOSE_DELAY_EXPIRY (R154). -/
def execCloseDelayExpiry (lane : Lane) (s : State) : Result :=
  .next (if s.phase = .running ∧ (s.gate lane).leaf.closeDelay.isSome then s.putLeaves lane (s.gate lane).enterClosing else s)

/-- START_PHASE_EXPIRY (R153): the drive goes to the run duty. -/
def execStartPhaseExpiry (lane : Lane) (s : State) : Result :=
  .next (if s.phase = .running then s.modGate lane fun p => { p with leaf := { p.leaf with startPhase := none } } else s)

/-- The travel timer expires: a jam in OPENING or CLOSING (R156). -/
def State.travelExpired (s : State) (l : Lane) : State :=
  match (s.gate l).leaf.state with
  | .opening => s.jam l .jamOpening
  | .closing => s.jam l .jamClosing
  | .closed => s
  | .opened => s
  | .jammed => s

/-- LEAF_TRAVEL_TIMEOUT (R156). -/
def execLeafTravelTimeout (lane : Lane) (s : State) : Result :=
  .next (if s.phase = .running ∧ (s.gate lane).leaf.travel.isSome then s.travelExpired lane else s)

/-- OBSTRUCTION_TIMER_EXPIRY (R151). -/
def execObstructionTimerExpiry (lane : Lane) (s : State) : Result :=
  .next (if s.phase = .running then s.obstructionExpired lane else s)

/-! ### Lane indicators (chapter 8) -/

/-- INDICATOR_RESULT (R165). -/
def execIndicatorResult (lane : Lane) (code : ResultCode) (charge : Option Nat) (purse : Option Int) (s : State) : Result :=
  .next (if s.phase = .running then s.takeResult lane code charge purse else s)

/-- INDICATOR_STATE_CHANGE (R166). -/
def execIndicatorStateChange (lane : Lane) (state : Service) (s : State) : Result :=
  .next (if s.phase = .running then s.indicateService lane state else s)

/-- INDICATOR_OBSTRUCTION (R166). -/
def execIndicatorObstruction (lane : Lane) (started : Bool) (s : State) : Result :=
  .next (if s.phase = .running then s.indicateObstruction lane started else s)

/-- INDICATOR_HOLD_EXPIRY (R165). -/
def execIndicatorHoldExpiry (lane : Lane) (s : State) : Result :=
  .next (if s.phase = .running then s.holdExpired lane else s)

/-- DISPLAY_SEND_COMPLETE (R169). -/
def execDisplaySendComplete (lane : Lane) (s : State) : Result := .next (s.modInd lane Indicator.sendComplete)

end Sys2Proof.Machine
end

