-- ==== Sys2Proof/Machine/LinkCommands.lean ====
section
/-! DEFINITION. The meanings of the host link's own steps: received bytes, gaps, sent replies, the end of the RESET_COMMAND wait
(R179, R180, R192). -/

namespace Sys2Proof.Machine

/-- FRAME_RECEIVED: the bytes of a frame received one after another (R179). -/
def execFrameReceived (bytes : List Byte) (s : State) : Result := .next (if s.linkUp then s.rxBytes bytes else s)

/-- INTER_BYTE_GAP_TIMEOUT (R179). -/
def execInterByteGapTimeout (s : State) : Result := .next (if s.linkUp then s.gapTimeout else s)

/-- SYNC_RECEIVED: one byte received, which is a SYNC or is not (R179). -/
def execSyncReceived (byte : Byte) (s : State) : Result := .next (if s.linkUp then s.rxByte byte else s)

/-- LEN_RECEIVED: the two bytes after SYNC (R179). -/
def execLenReceived (high low : Byte) (s : State) : Result := .next (if s.linkUp then s.rxBytes [high, low] else s)

/-- REPLY_SENT (R180, R192). -/
def execReplySent (s : State) : Result := .next (if s.linkUp then s.replySent else s)

/-- RESET_COMMAND_WAIT_END (R192). -/
def execResetCommandWaitEnd (s : State) : Result := .next (if s.phase = .running then s.endWait else s)

end Sys2Proof.Machine
end

