-- ==== Sys2Proof/Machine/SystemCommands.lean ====
section
/-! DEFINITION. The meanings of the supply, the RESET input and the settle interval (chapter 11). -/

namespace Sys2Proof.Machine

/-- POWER_ON: a reset falls and start-up begins, or the part holds while the RESET input is asserted (R191). -/
def execPowerOn (s : State) : Result := .next (s.resetFalls .powerOn s.phaseAfterReset)

/-- The RESET input is asserted: a reset falls and the part holds; without main supply the input alone changes (R191). -/
def State.lineAsserted (s : State) : State :=
  let s := { s with resetLine := true }
  if s.phase = .unpowered then s else s.resetFalls .resetLine .held

/-- RESET_LINE_ASSERT (R191); while it is asserted already nothing changes. -/
def execResetLineAssert (s : State) : Result := .next (if s.resetLine then s else s.lineAsserted)

/-- RESET_LINE_RELEASE: a part that holds begins start-up (R191). -/
def execResetLineRelease (s : State) : Result :=
  .next { s with resetLine := false, phase := if s.phase = .held then .startUp else s.phase }

/-- SETTLE_INTERVAL_EXPIRY (R193). -/
def execSettleIntervalExpiry (s : State) : Result := .next (if s.phase = .startUp then s.startUp else s)

/-- MAIN_SUPPLY_LOSS: all activity stops, volatile state is lost, and the retention domain goes on (R183, R193). -/
def execMainSupplyLoss (s : State) : Result := .next (s.resetFalls s.cause .unpowered)

/-- The retention domain loses its content; the next retention check fails (R194). -/
def State.loseRetention (s : State) : State := { s.clearRetained with retention := Retention.lost }

/-- RETENTION_DOMAIN_LOSS: VBACK fails while the main supply is absent (R194). -/
def execRetentionDomainLoss (s : State) : Result := .next (if s.phase = .unpowered then s.loseRetention else s)

end Sys2Proof.Machine
end

