-- ==== Sys2Proof/Machine/TapCommands.lean ====
section
/-! DEFINITION. The meanings of the reader reports, of the steps of a transaction, and of the updates, records and credits it
asks for (chapters 1, 2, 3, 5 and 6). -/

namespace Sys2Proof.Machine

/-- The tap controllers take reports: in service, and during start-up for the field state alone (R191, R193). -/
def State.tapsUp (s : State) : Bool := s.phase == .running || s.phase == .startUp

/-- CARD_PRESENT (R8). -/
def execCardPresent (lane : Lane) (s : State) : Result := .next (if s.tapsUp then s.cardPresent lane else s)

/-- MULTIPLE_CARDS (R16). -/
def execMultipleCards (lane : Lane) (s : State) : Result := .next (if s.tapsUp then s.multipleCards lane else s)

/-- FIELD_EMPTY (R16). -/
def execFieldEmpty (lane : Lane) (s : State) : Result := .next (if s.tapsUp then s.fieldEmpty lane else s)

/-- NO_ANSWER (R15). -/
def execNoAnswer (lane : Lane) (s : State) : Result := .next (if s.phase = .running then s.exchangeFails lane else s)

/-- EXCHANGE_TIMEOUT (R5). -/
def execExchangeTimeout (lane : Lane) (s : State) : Result := .next (if s.phase = .running then s.exchangeTimeout lane else s)

/-- WRONG_TYPE_ANSWER (R4). -/
def execWrongTypeAnswer (lane : Lane) (s : State) : Result := .next (if s.phase = .running then s.wrongAnswer lane else s)

/-- IDENTIFY_ANSWER: the 12 bytes of the answer (R11, R201). -/
def execIdentifyAnswer (lane : Lane) (answer : Vector Byte 12) (s : State) : Result :=
  .next (s.takeAnswer lane .identifying isIdentify (s.identified lane (identifyAnswerAt answer.toList)))

/-- AUTHENTICATE_ANSWER (R13). -/
def execAuthenticateAnswer (lane : Lane) (response : Check) (s : State) : Result :=
  .next (s.takeAnswer lane .authenticating isAuthenticate (s.authenticated lane response))

/-- READ_ANSWER: the 48 bytes of the image and the 8 of its proof (R14, R201). -/
def execReadAnswer (lane : Lane) (image : Vector Byte 48) (proof : Vector Byte 8) (s : State) : Result :=
  .next (s.takeAnswer lane .reading isRead (s.imageRead lane (rawImageAt image.toList) (proofAt proof.toList)))

/-- RESOLUTION_LOOKUP (R109). -/
def execResolutionLookup (lane : Lane) (s : State) : Result :=
  .next (s.whenAwaited lane .resolution fun _ _ c => s.resolutionStep lane c)

/-- SCREENING_REQUEST (R37). -/
def execScreeningRequest (lane : Lane) (s : State) : Result :=
  .next (s.whenAwaited lane .screening fun kind bank c => s.screeningStep lane kind bank c)

/-- FARE_REQUEST (R53). -/
def execFareRequest (lane : Lane) (s : State) : Result :=
  .next (s.whenAwaited lane .fare fun kind bank c => s.fareStep lane kind bank c)

/-- RESERVATION_REQUEST (R124). -/
def execReservationRequest (lane : Lane) (s : State) : Result :=
  .next (match (s.tap lane).work with
    | none => s
    | some w => s.whenAwaited lane .reservation fun _ _ _ => s.reservationStep lane w)

/-- RECEIPT (R104, R105). -/
def execReceipt (lane : Lane) (counter : BitVec 24) (proof : Check) (s : State) : Result :=
  .next (s.takeCommitAnswer lane fun w => s.receipt lane w counter.toNat proof)

/-- REFUSED_COUNTER (R106). -/
def execRefusedCounter (lane : Lane) (s : State) : Result :=
  .next (s.takeCommitAnswer lane fun w => (s.endExchange lane).refuse lane w false)

/-- REFUSED_EXHAUSTED (R106). -/
def execRefusedExhausted (lane : Lane) (s : State) : Result :=
  .next (s.takeCommitAnswer lane fun w => (s.endExchange lane).refuse lane w true)

/-- CARD_UPDATE (R28). -/
def execCardUpdate (lane : Lane) (serial : Serial) (counter : BitVec 24) (purse : Int) (trip : Trip) (s : State) : Result :=
  .next (if s.phase = .running then s.cardUpdate lane serial counter.toNat purse trip else s)

/-- RECORD_APPEND: a record that is not reserved (R125). -/
def execRecordAppend (cls : AdmissionClass) (record : JournalRecord) (s : State) : Result :=
  .next (if s.phase = .running then s.appendUnreserved cls record else s)

/-- CREDIT_GRANT (R142). -/
def execCreditGrant (lane : Lane) (serial : Serial) (s : State) : Result :=
  .next (if s.phase = .running then s.grantCredit lane serial else s)

/-- The clock adds one second and stops at its end; a scheduled bank may fall due (R91, R183). -/
def State.tick (s : State) : State :=
  let s := { s with clock := { s.clock with time := satAdd 4294967295 s.clock.time 1 } }
  if s.phase = .running then s.enterSwitching else s

/-- CLOCK_TICK: the clock counts in every phase, on the backup supply too (R183). -/
def execClockTick (s : State) : Result := .next s.tick

end Sys2Proof.Machine
end

