-- ==== Sys2Proof/Machine/Dispatch.lean ====
section
/-! DEFINITION. The dispatch: one arm for each command, each one call of the command's meaning. -/

namespace Sys2Proof.Machine

open Host

/-- The effect of a command on everything but the queue of waiting commands. -/
def exec (i : Instr) (s : State) : Host.Outcome State Fault Refusal :=
  match i with
  | .statusGet selector lane => Sys2Proof.Machine.execStatusGet selector lane s
  | .timeSet time => Sys2Proof.Machine.execTimeSet time s
  | .timeGet => Sys2Proof.Machine.execTimeGet s
  | .stationSet station network skew timeout => Sys2Proof.Machine.execStationSet station network skew timeout s
  | .laneConfig lane settings => Sys2Proof.Machine.execLaneConfig lane settings s
  | .laneServiceIn lane => Sys2Proof.Machine.execLaneServiceIn lane s
  | .laneServiceOut lane => Sys2Proof.Machine.execLaneServiceOut lane s
  | .laneServiceHoldOpen lane => Sys2Proof.Machine.execLaneServiceHoldOpen lane s
  | .tariffBegin version => Sys2Proof.Machine.execTariffBegin version s
  | .tariffWrite part start items => Sys2Proof.Machine.execTariffWrite part start items s
  | .tariffClose => Sys2Proof.Machine.execTariffClose s
  | .tariffActivate time => Sys2Proof.Machine.execTariffActivate time s
  | .tariffStatus => Sys2Proof.Machine.execTariffStatus s
  | .keyLoad slot version wrapped => Sys2Proof.Machine.execKeyLoad slot version wrapped s
  | .denyAdd items => Sys2Proof.Machine.execDenyAdd items s
  | .denyRemove serials => Sys2Proof.Machine.execDenyRemove serials s
  | .denyClear => Sys2Proof.Machine.execDenyClear s
  | .suspectRead position count => Sys2Proof.Machine.execSuspectRead position count s
  | .suspectClear serial => Sys2Proof.Machine.execSuspectClear serial s
  | .feedSightings items => Sys2Proof.Machine.execFeedSightings items s
  | .journalRead start count => Sys2Proof.Machine.execJournalRead start count s
  | .journalRelease upto => Sys2Proof.Machine.execJournalRelease upto s
  | .eventsPeek => Sys2Proof.Machine.execEventsPeek s
  | .eventsTake => Sys2Proof.Machine.execEventsTake s
  | .eventsEnable flags => Sys2Proof.Machine.execEventsEnable flags s
  | .templateWrite number cells slots => Sys2Proof.Machine.execTemplateWrite number cells slots s
  | .resultMap items => Sys2Proof.Machine.execResultMap items s
  | .eccCounts clear => Sys2Proof.Machine.execEccCounts clear s
  | .eccInject memory kind => Sys2Proof.Machine.execEccInject memory kind s
  | .reset => Sys2Proof.Machine.execReset s
  | .unknownKind kind body => Sys2Proof.Machine.execUnknownKind kind body s
  | .frameReceived bytes => Sys2Proof.Machine.execFrameReceived bytes s
  | .interByteGapTimeout => Sys2Proof.Machine.execInterByteGapTimeout s
  | .replySent => Sys2Proof.Machine.execReplySent s
  | .resetCommandWaitEnd => Sys2Proof.Machine.execResetCommandWaitEnd s
  | .cardPresent lane => Sys2Proof.Machine.execCardPresent lane s
  | .multipleCards lane => Sys2Proof.Machine.execMultipleCards lane s
  | .fieldEmpty lane => Sys2Proof.Machine.execFieldEmpty lane s
  | .noAnswer lane => Sys2Proof.Machine.execNoAnswer lane s
  | .exchangeTimeout lane => Sys2Proof.Machine.execExchangeTimeout lane s
  | .wrongTypeAnswer lane => Sys2Proof.Machine.execWrongTypeAnswer lane s
  | .identifyAnswer lane answer => Sys2Proof.Machine.execIdentifyAnswer lane answer s
  | .authenticateAnswer lane response => Sys2Proof.Machine.execAuthenticateAnswer lane response s
  | .readAnswer lane image proof => Sys2Proof.Machine.execReadAnswer lane image proof s
  | .resolutionLookup lane => Sys2Proof.Machine.execResolutionLookup lane s
  | .screeningRequest lane => Sys2Proof.Machine.execScreeningRequest lane s
  | .fareRequest lane => Sys2Proof.Machine.execFareRequest lane s
  | .reservationRequest lane => Sys2Proof.Machine.execReservationRequest lane s
  | .receipt lane counter proof => Sys2Proof.Machine.execReceipt lane counter proof s
  | .refusedCounter lane => Sys2Proof.Machine.execRefusedCounter lane s
  | .refusedExhausted lane => Sys2Proof.Machine.execRefusedExhausted lane s
  | .cardUpdate lane serial counter purse trip => Sys2Proof.Machine.execCardUpdate lane serial counter purse trip s
  | .recordAppend cls record => Sys2Proof.Machine.execRecordAppend cls record s
  | .creditGrant lane serial => Sys2Proof.Machine.execCreditGrant lane serial s
  | .clockTick => Sys2Proof.Machine.execClockTick s
  | .beamLevelChange lane beam high => Sys2Proof.Machine.execBeamLevelChange lane beam high s
  | .beamDebounceExpiry lane beam => Sys2Proof.Machine.execBeamDebounceExpiry lane beam s
  | .limitLevelChange lane limit high => Sys2Proof.Machine.execLimitLevelChange lane limit high s
  | .limitDebounceExpiry lane limit => Sys2Proof.Machine.execLimitDebounceExpiry lane limit s
  | .emergencyLevelChange asserted => Sys2Proof.Machine.execEmergencyLevelChange asserted s
  | .emergencyAssert => Sys2Proof.Machine.execEmergencyAssert s
  | .emergencyReleaseLine => Sys2Proof.Machine.execEmergencyReleaseLine s
  | .creditLapse lane position => Sys2Proof.Machine.execCreditLapse lane position s
  | .closeDelayExpiry lane => Sys2Proof.Machine.execCloseDelayExpiry lane s
  | .startPhaseExpiry lane => Sys2Proof.Machine.execStartPhaseExpiry lane s
  | .leafTravelTimeout lane => Sys2Proof.Machine.execLeafTravelTimeout lane s
  | .obstructionTimerExpiry lane => Sys2Proof.Machine.execObstructionTimerExpiry lane s
  | .indicatorResult lane code charge purse => Sys2Proof.Machine.execIndicatorResult lane code charge purse s
  | .indicatorStateChange lane state => Sys2Proof.Machine.execIndicatorStateChange lane state s
  | .indicatorObstruction lane started => Sys2Proof.Machine.execIndicatorObstruction lane started s
  | .indicatorHoldExpiry lane => Sys2Proof.Machine.execIndicatorHoldExpiry lane s
  | .displaySendComplete lane => Sys2Proof.Machine.execDisplaySendComplete lane s
  | .powerOn => Sys2Proof.Machine.execPowerOn s
  | .resetLineAssert => Sys2Proof.Machine.execResetLineAssert s
  | .resetLineRelease => Sys2Proof.Machine.execResetLineRelease s
  | .settleIntervalExpiry => Sys2Proof.Machine.execSettleIntervalExpiry s
  | .syncReceived byte => Sys2Proof.Machine.execSyncReceived byte s
  | .lenReceived high low => Sys2Proof.Machine.execLenReceived high low s
  | .mainSupplyLoss => Sys2Proof.Machine.execMainSupplyLoss s
  | .retentionDomainLoss => Sys2Proof.Machine.execRetentionDomainLoss s

end Sys2Proof.Machine
end

