-- ==== Sys2Proof/Safety.lean ====
section
/-! DEFINITION. The words the statements about this part are written in: what a reply is, how a transaction ends, when memories are
undamaged, and the properties that every step keeps. -/

namespace Sys2Proof.Machine

/-! ### Requests and replies -/

/-- The part is in service and hands requests to its blocks: start-up is complete and no RESET has been accepted (R181, R193). -/
def Serving (s : State) : Prop := s.phase = .running ∧ s.link.reset = .none

/-- The requests of the receive queue, without the mark that says they are answered. -/
def Link.requests (k : Link) : List (Byte × Byte × List Byte) := k.queue.map fun q => (q.kind, q.tag, q.body)

/-- Going from `s` to `t`, one reply with this answer, its KIND the request's with the high bit set, was placed behind the replies
waiting, and nothing else of the host link changed but the mark of the request it answers (R180, R181). -/
def Replied (s t : State) (kind : Byte) (a : Answer) : Prop :=
  (∃ tag place, t.link.replies = s.link.replies ++ [⟨kind ||| 0x80, tag, a, place, false⟩])
    ∧ t.link.requests = s.link.requests ∧ t.link.receiver = s.link.receiver ∧ t.link.counters = s.link.counters
    ∧ t.link.reset = s.link.reset

/-- Going from `s` to `t`, a request was answered, and everything outside the host link is as in `u`. -/
def Served (s t : State) (kind : Byte) (a : Answer) (u : State) : Prop :=
  Replied s t kind a ∧ { t with link := s.link } = { u with link := s.link }

/-- The command is answered with `a` and leaves everything outside the host link as in `u`. -/
def Answers (c : Instr) (s : State) (kind : Byte) (a : Answer) (u : State) : Prop :=
  ∃ t, exec c s = .next t ∧ Served s t kind a u

/-! ### Undamaged memories and the frame a lane shows -/

/-- No item of the TEMPLATES memory has a changed bit. -/
def DisplayClean (s : State) : Prop :=
  (∀ x ∈ s.display.map, x.bits = .clean) ∧ (∀ x ∈ s.display.templates, x.bits = .clean)

/-- No injection is armed for a memory. -/
def Disarmed (s : State) (m : Memory) : Prop := (s.ecc.get m).armed = none

/-- The frame that an indicator's displayed key and held result give with undamaged templates (R164, R167). -/
def frameOf (d : Display) (i : Indicator) : List DispCell := composeFrame i (d.template (d.entry i.key).val).val

/-- An indicator after it has composed its frame and handed it to its display link (R167, R169). -/
def refreshed (d : Display) (i : Indicator) : Indicator := { i.handFrame (frameOf d i) with shown := i.key }

/-- The cells of a field slot, left to right (R161). -/
def fieldCells (x : Slot) : List Nat := (List.range x.width).map fun k => 16 * x.line + (x.rightEnd + 1 - x.width) + k

/-- A template as TEMPLATE WRITE can leave one: 32 cells, each slot within its line, no two slots with a cell in common (R161, R162). -/
def TemplateSound (t : Template) : Prop :=
  t.cells.length = 32 ∧ (∀ x ∈ t.slots, x.line ≤ 1 ∧ x.rightEnd ≤ 15 ∧ x.width ≤ x.rightEnd + 1)
    ∧ t.slots.Pairwise fun x y => ∀ n ∈ fieldCells x, n ∉ fieldCells y

/-- The decimal digits of a number, the first one not 0 unless it is the only one. -/
def Decimal (digits : List Nat) (n : Nat) : Prop :=
  digits ≠ [] ∧ (∀ d ∈ digits, d < 10) ∧ digits.foldl (fun v d => 10 * v + d) 0 = n ∧ (digits.head? = some 0 → digits = [0])

/-- The value that a field shows: of the held result, its charge in a FARE field and its purse in a BALANCE field; none under a state key
or OBSTRUCTION, which no held result goes with (R164, R167). -/
def shownValue (i : Indicator) (k : SlotKind) : Option Int :=
  i.held.bind fun h => if k = .fare then h.charge.map Int.ofNat else h.purse

/-! ### The end of a transaction -/

/-- The tap controller of a lane whose transaction has ended: QUIET, or IDLE when the field is empty, holding its field state and
its last result and nothing else (R23, R24). -/
def tapDone (t : Tap) (code : ResultCode) : Tap where
  phase := if t.present then .quiet else .idle
  present := t.present
  kind := none
  bound := none
  inFlight := none
  ident := none
  key := none
  challenge := none
  image := none
  outstanding := none
  lastResult := some code
  stage := none
  flags := RecordFlags.empty
  work := none

/-- A lane whose transaction has ended: the tap controller done, the result counted, the indicator showing it (R23, R159, R165). -/
def laneDone (d : Display) (u : LaneUnit) (code : ResultCode) (charge : Option Nat) (purse : Option Int) : LaneUnit where
  tap := tapDone u.tap code
  gate := { u.gate with stats := u.gate.stats.countResult code }
  ind := refreshed d { u.ind with held := some ⟨code, charge, purse⟩, holdTimer := some u.gate.config.indicatorHold }

/-- Nothing outside the lane waits for a transaction of it to end: no switchover is under way, and the lane is not one that DRAINING
holds open for this transaction alone (R93, R138). -/
def Calm (s : State) (l : Lane) : Prop :=
  DisplayClean s ∧ s.tariff.pending ≠ .switching
    ∧ ¬((s.gate l).service = .draining ∧ (s.gate l).credits = [] ∧ (s.gate l).passages = [])

/-- The state in which a lane's transaction has ended and nothing else has changed. -/
def State.done (s : State) (l : Lane) (code : ResultCode) (charge : Option Nat) (purse : Option Int) : State :=
  { s with lanes := s.lanes.set l (laneDone s.display (s.lane l) code charge purse) }

/-- The purse that goes with a result that changed nothing: the purse as read, where an image was read (R23). -/
def purseRead (s : State) (l : Lane) : Option Int := (s.tap l).image.map fun c => c.w.purse

/-- The state with a lane's field state set (R4). -/
def State.withField (s : State) (l : Lane) (present : Bool) : State :=
  { s with lanes := s.lanes.set l { s.lane l with tap := { s.tap l with present := present } } }

/-- The state with a lane's tap controller replaced. -/
def State.withTap (s : State) (l : Lane) (t : Tap) : State := { s with lanes := s.lanes.set l { s.lane l with tap := t } }

/-- The state with a lane's passage controller replaced. -/
def State.withGate (s : State) (l : Lane) (p : Passages) : State := { s with lanes := s.lanes.set l { s.lane l with gate := p } }

/-- The state with a lane's indicator replaced. -/
def State.withInd (s : State) (l : Lane) (i : Indicator) : State := { s with lanes := s.lanes.set l { s.lane l with ind := i } }

/-! ### The card image on the reader port (R201) -/

/-- A card image laid out in 48 bytes, most significant byte first, in the order of R201's table. -/
def imageBytes (r : RawImage) : List Byte :=
  beBytes 8 r.serial.toNat ++ beBytes 2 r.network.toNat ++ [r.keyVersion, r.status, r.cls] ++ beBytes 2 r.classExpiry.toNat
    ++ beBytes 3 r.purse.toNat ++ beBytes 3 r.counter.toNat ++ [r.trip, r.entryStation] ++ beBytes 4 r.entryTime.toNat
    ++ [r.journeyStation] ++ beBytes 4 r.journeyTime.toNat ++ beBytes 2 r.journeyCharged.toNat ++ [r.lastExitStation]
    ++ beBytes 4 r.lastExitTime.toNat ++ [r.lastExitPenalty] ++ beBytes 2 r.accDay.toNat ++ beBytes 2 r.daily.toNat
    ++ beBytes 2 r.accWeek.toNat ++ beBytes 2 r.weekly.toNat

/-! ### Readiness (R9) -/

/-- The area that a new transaction binds: the pending one while it is SWITCHING (R10). -/
def bankToBind (s : State) : AreaId :=
  if s.tariff.pending = .switching then (match s.tariff.active with | .a => .b | .b => .a) else s.tariff.active

/-- The entry of this station in the station table of the bank that a new transaction binds (R9). -/
def zoneEntry (s : State) : Stored (Option Nat) :=
  (((match bankToBind s with | .a => s.tariff.areaA | .b => s.tariff.areaB).bank.stations)[s.settings.station]?).getD (.fresh none)

/-- The five conditions of R9 for a lane. -/
def ReadyFor (s : State) (l : Lane) : Prop :=
  s.clock.timeSet = true ∧ s.settings.isSet = true
    ∧ (s.tariff.pending = .switching ∨ (s.tariff.activeVersion.isSome = true ∧ s.tariff.usable = true))
    ∧ (zoneEntry s).val.isSome = true
    ∧ ((s.gate l).service = .inService → s.journal.held + s.journal.outstanding < 1984)

/-- Checks 1 to 3 of R8: the lane takes taps, no RESET_COMMAND wait is under way, and the part is ready for the lane. -/
def TakesTaps (s : State) (l : Lane) : Prop :=
  ((s.gate l).service = .inService ∨ (s.gate l).service = .emergencyOpen) ∧ s.link.reset ≠ .waiting ∧ ReadyFor s l

/-! ### The trip journal -/

/-- One more record is admitted in either class with no event: it neither closes ordinary admission nor brings held to 1,536, and
no injection is armed for the journal (R123, R126, R178). -/
def HasRoom (s : State) : Prop :=
  s.journal.held + s.journal.outstanding + 1 < 1984 ∧ s.journal.held + 1 ≠ 1536 ∧ Disarmed s .journal

/-- The state with a record, at station time, added at the newest end of the journal (R118, R119). -/
def State.withRecord (s : State) (r : JournalRecord) : State :=
  { s with journal := { s.journal with
      records := s.journal.records ++ [⟨{ r with time := s.clock.time }, .clean⟩]
      nextSequence := seqForward s.journal.nextSequence 1 } }

/-- The state with one uncorrectable read of a memory counted and its event raised (R173, R175). -/
def State.struck (s : State) (m : Memory) : State :=
  let u := s.ecc.get m
  State.raise { s with ecc := s.ecc.set m { u with
    corrected := min 65535 u.corrected, uncorrected := min 255 (u.uncorrected + 1) } } .memoryUncorrected

/-- The state with a memory's armed injection spent (R178). -/
def State.spent (s : State) (m : Memory) : State := { s with ecc := s.ecc.set m { s.ecc.get m with armed := none } }

/-- The state in which an in-doubt entry that was read and found uncorrectable is gone, with these entries left and its record appended
(R115). -/
def State.lostEntry (s : State) (left : List (Stored DoubtEntry)) : State :=
  State.withRecord { s.struck .lists with doubt := { s.doubt with entries := left } }
    { JournalRecord.blank .resolvedUnknown none with detail := some (.named .memoryError) }

/-- The kinds of R200's list, numbered from 1. -/
def recordKinds : List RecordKind :=
  [.entry, .exit, .entryWithPenalty, .exitUnrecorded, .emergencyExit, .cardLocked, .inDoubt, .resolvedConfirmed, .resolvedVoided,
   .resolvedUnknown, .doubtAbandoned, .creditLapsed, .creditCancelled, .tailgate, .intrusion, .cloneDetected, .denylistHit, .authFailed,
   .feedConflict, .tariffSwitch, .timeStep]

/-- The named detail codes of R200's list, numbered from 1. -/
def detailNames : List DetailName :=
  [.authenticate, .read, .blockedSeen, .debit, .lock, .release, .reset, .memoryError, .fault, .emergency, .segmentL, .segmentX,
   .counterRegression, .diverged, .impossibleTravel, .suspectListed, .counterReused, .remoteRegression]

/-- The optional fields of a record: offset, size and bytes, in the order of their presence bits (R200). -/
def recordFields (r : JournalRecord) : List (Nat × Nat × Option (List Byte)) :=
  let flag (b : Bool) (n : Nat) : Nat := if b = true then n else 0
  [(13, 8, r.serial.map fun x => beBytes 8 x.toNat),
   (21, 3, r.counter.map (beBytes 3)),
   (24, 1, r.station.map (beBytes 1)),
   (25, 4, r.reportedTime.map (beBytes 4)),
   (29, 3, r.secondCounter.map (beBytes 3)),
   (32, 1, r.secondStation.map (beBytes 1)),
   (33, 4, r.secondTime.map (beBytes 4)),
   (37, 1, r.source.map fun x => match x with | .lane l => beBytes 1 l.val | .feed => [0x80]),
   (38, 2, r.charge.map (beBytes 2)),
   (40, 4, r.purse.map fun v => beBytes 4 (v % 4294967296).toNat),
   (44, 1, r.fareReason.map fun x => beBytes 1 (List.idxOf x [.none, .leg, .journey, .dayCap, .weekCap, .penalty])),
   (45, 2, r.version.map (beBytes 2)),
   (47, 2, r.prior.map fun x => beBytes 2 (x.getD 0)),
   (49, 1, r.flags.map fun f => beBytes 1 (flag f.ruleOverrun 1 + flag f.unknownStation 2 + flag f.classExpired 4
      + flag f.clockBehind 8 + flag f.denylistUnchecked 16 + flag f.receiptBad 32)),
   (50, 4, r.reference.map (beBytes 4)),
   (54, 2, r.detail.map fun x => match x with | .named d => [0, BitVec.ofNat 8 (List.idxOf d detailNames + 1)] | .reason c => 1 :: beBytes 1 c),
   (56, 1, r.action.map fun x => if x = .refuse then [1] else [2])]

/-- Every number of a record lies in the range of its field, so that its bytes hold it (R119, R200). -/
def RecordFits (r : JournalRecord) : Prop :=
  let within (v : Option Nat) (n : Nat) : Prop := ∀ x, v = some x → x < n
  r.time < 2 ^ 32 ∧ within r.counter (2 ^ 24) ∧ within r.station 256 ∧ within r.reportedTime (2 ^ 32) ∧ within r.secondCounter (2 ^ 24)
    ∧ within r.secondStation 256 ∧ within r.secondTime (2 ^ 32) ∧ within r.charge 65536
    ∧ (∀ v, r.purse = some v → -2147483648 ≤ v ∧ v < 2147483648) ∧ within r.version 65536 ∧ within (r.prior.bind id) 65536
    ∧ within r.reference (2 ^ 32) ∧ ∀ c, r.detail = some (.reason c) → c < 256

/-! ### The sighting table -/

/-- The sighting entry held for a serial. -/
def sightingOf (s : State) (ser : Serial) : Option Sighting :=
  (s.screening.sightings.find? fun e => e.val.serial == ser).map fun e => e.val

/-- The entry for a serial, if held, is undamaged, the table has room, and no injection is armed for it. -/
def SightingsQuiet (s : State) (ser : Serial) : Prop :=
  (∀ e, s.screening.sightings.find? (fun e => e.val.serial == ser) = some e → e.bits = .clean)
    ∧ s.screening.sightings.length < 16384 ∧ Disarmed s .sighting

/-- The state with a card update applied to an undamaged table that is not full: held back by a greater counter, and otherwise the
one entry of its serial, in the last place (R28). -/
def State.sighted (s : State) (x : Sighting) : State :=
  if (sightingOf s x.serial).any fun e => decide (x.counter < e.counter) then
    { s with screening := { s.screening with counters := { s.screening.counters with
        heldBack := min 65535 (s.screening.counters.heldBack + 1) } } }
  else { s with screening := { s.screening with
      sightings := (s.screening.sightings.filter fun e => e.val.serial != x.serial) ++ [⟨x, .clean⟩] } }

/-- The sighting a card update makes (R28). -/
def updateOf (s : State) (l : Lane) (ser : Serial) (counter : Nat) (purse : Int) (trip : Trip) : Sighting where
  serial := ser
  counter := counter
  purse := some purse
  station := s.settings.station
  time := s.clock.time
  source := .lane l
  trip := some trip

/-- A serial is pinned: in flight at a lane, or held by the in-doubt list (R29). -/
def Pinned (s : State) (ser : Serial) : Prop :=
  (∃ l, (s.tap l).inFlight = some ser) ∨ ∃ e ∈ s.doubt.entries, e.val.serial = ser

/-! ### The in-doubt list -/

/-- The lane's PROVISIONAL entry, the first of the list. -/
def provisionalOf (s : State) (l : Lane) : Option (Stored DoubtEntry) :=
  s.doubt.entries.find? fun e => e.val.lane == l && !e.val.opened

/-- The state without the lane's PROVISIONAL entry, its mark in the LISTS header and its reservation. -/
def State.settled (s : State) (l : Lane) : State :=
  { s with
    doubt :=
      { entries := s.doubt.entries.eraseP fun e => e.val.lane == l && !e.val.opened
        header := s.doubt.header.set l none }
    journal := { s.journal with reservations := s.journal.reservations.set l none } }

/-! ### Awaited steps -/

/-- A lane in EVALUATING awaits a block's answer, with the kind, the bank and the image of its transaction. -/
def Awaits (s : State) (l : Lane) (stage : EvalStage) (kind : TxKind) (bank : AreaId) (c : CardImage) : Prop :=
  s.phase = .running ∧ (s.tap l).phase = .evaluating ∧ (s.tap l).stage = some stage ∧ (s.tap l).kind = some kind
    ∧ (s.tap l).bound = some bank ∧ (s.tap l).image = some c

/-- A bank may be charged from: the ACTIVE one with a version and USABLE, or the pending one in SWITCHING (R85, R18, R21). -/
def BankUsable (s : State) (i : AreaId) : Prop :=
  if i = s.tariff.active then (s.tariff.area i).version.isSome = true ∧ s.tariff.usable = true else s.tariff.pending = .switching

/-- The lane's service state is the one a transaction kind needs (R21). -/
def ServiceFits (s : State) (l : Lane) (kind : TxKind) : Prop :=
  if kind = .emergency then (s.gate l).service = .emergencyOpen else (s.gate l).service = .inService

/-- The state with a journal place reserved for a lane (R123). -/
def State.withPlace (s : State) (l : Lane) (c : AdmissionClass) : State :=
  { s with journal := { s.journal with reservations := s.journal.reservations.set l (some c) } }

/-- The PROVISIONAL entry of a commit in hand (R100, R101). -/
def provisionalEntry (s : State) (l : Lane) (ser : Serial) (w : CommitWork) : DoubtEntry where
  serial := ser
  lane := l
  change := w.change
  counterBefore := w.counterBefore
  purse := w.values.purse
  trip := w.values.trip
  status := w.values.status
  fareReason := w.fareReason
  version := w.version
  created := s.clock.time
  opened := false
  sequence := none
  intended := if w.change = .debit then .granted else if w.change = .lock then .denylisted else .emergencyRelease
  charge := w.charge

/-- A tap controller that has handed its COMMIT to the port (R3, R5, R21). -/
def sentTap (s : State) (l : Lane) (ser : Serial) (w : CommitWork) (k : Key) (challenge : Check) : Tap :=
  { s.tap l with
    phase := .committing
    stage := none
    outstanding := some ⟨.commit w.counterBefore w.values
      (Config.keyedCheck k (.commitProof ser w.counterBefore w.values challenge)), s.settings.timeout⟩ }

/-- A lane in COMMITTING awaits the card's answer to a commit. -/
def Commits (s : State) (l : Lane) (w : CommitWork) (ser : Serial) : Prop :=
  s.phase = .running ∧ (s.tap l).phase = .committing ∧ (s.tap l).work = some w ∧ (s.tap l).inFlight = some ser
    ∧ ∃ o expected values proof, (s.tap l).outstanding = some o ∧ o.exchange = .commit expected values proof

/-! ### Screening -/

/-- No serial of the denylist, and none of the suspect list, is this one. -/
def Unlisted (s : State) (ser : Serial) : Prop :=
  (∀ e ∈ s.screening.denylist, e.val.serial ≠ ser) ∧ ∀ e ∈ s.screening.suspects, e.val.serial ≠ ser

/-- A serial stands undamaged in the denylist, or in no entry of it and undamaged in the suspect list (R34). -/
def Listed (s : State) (ser : Serial) : Prop :=
  (∃ e, s.screening.denylist.find? (fun x => x.val.serial == ser) = some ⟨e, .clean⟩)
    ∨ ((∀ x ∈ s.screening.denylist, x.val.serial ≠ ser)
      ∧ ∃ e, s.screening.suspects.find? (fun x => x.val.serial == ser) = some ⟨e, .clean⟩)

/-- The state with a screening request counted: once as screened, once as unchecked while the denylist is INVALID, and as `f` says
for its answer (R51). -/
def State.screenedAs (s : State) (f : ScreenCounters → ScreenCounters) : State :=
  { s with screening := { s.screening with counters := f { s.screening.counters with
      screened := min 65535 (s.screening.counters.screened + 1)
      unchecked := if s.screening.denyValid then s.screening.counters.unchecked else min 65535 (s.screening.counters.unchecked + 1) } } }

/-- The counters of the nine answers a screening request can have (R51). -/
def ScreenCounters.answers (c : ScreenCounters) : List Nat :=
  [c.clear, c.blocked, c.denylistHits, c.suspectHits, c.regressions, c.divergences, c.travelFindings, c.exhausted, c.imageInvalid]

/-- The zone entry of a station in a bank. -/
def zoneAt (b : Bank) (station : Nat) : Stored (Option Nat) := (b.stations[station]?).getD (.fresh none)

/-- The three items that check 6 reads in a bank are undamaged (R43). -/
def TravelReadable (s : State) (bank : AreaId) (e : Sighting) : Prop :=
  let b := (s.tariff.area bank).bank
  (zoneAt b e.station).bits = .clean ∧ (zoneAt b s.settings.station).bits = .clean
    ∧ ∀ o d, ((b.travelTimes[o * 16 + d]?).getD (Stored.fresh 0)).bits = .clean

/-- Check 6 fires: the sighting was made at another station, both stations have a zone, and the time since is too short for the way
between them (R43). -/
def ImpossibleTravel (s : State) (bank : AreaId) (e : Sighting) : Prop :=
  let b := (s.tariff.area bank).bank
  e.station ≠ s.settings.station ∧ ∃ o d, (zoneAt b e.station).val = some o ∧ (zoneAt b s.settings.station).val = some d
    ∧ (s.clock.time - e.time) + s.settings.skew < ((b.travelTimes[o * 16 + d]?).getD (Stored.fresh 0)).val * 60

/-- A card's image fails the ranges of check 8 (R45). -/
def OutOfRange (c : CardImage) : Prop :=
  c.w.purse < -2000 ∨ 100000 < c.w.purse ∨ 7 < c.cls
    ∨ (c.w.trip = .inside ∧ (c.w.entryStation = 0 ∨ c.w.journeyStation = 0))
    ∨ (c.w.trip = .outside ∧ c.w.lastExitStation ≠ 0 ∧ c.w.journeyStation = 0)

/-- The screening unit with a new entry at the end of its suspect list; a full list pushes its oldest entry out (R34). -/
def Screening.suspecting (x : Screening) (e : SuspectEntry) : Screening :=
  if x.suspects.length < 512 then { x with suspects := x.suspects ++ [⟨e, .clean⟩] }
  else { x with
    suspects := x.suspects.drop 1 ++ [⟨e, .clean⟩]
    counters := { x.counters with pushOuts := min 65535 (x.counters.pushOuts + 1) } }

/-- The state after feed items are applied one after another in list order (R46). -/
def State.fed (s : State) (items : List FeedItem) : State := items.foldl (fun u x => (u.applyFeedItem x).2.2) s

/-- The cases of feed items, each against what the items before it leave (R47). -/
def State.feedCases (s : State) : List FeedItem → List FeedCase
  | [] => []
  | x :: xs => (s.applyFeedItem x).1 :: State.feedCases (s.applyFeedItem x).2.2 xs

/-- What the items of a DENY ADD make of undamaged lists, one after another in the order of the request, and how each is counted (R31): an
update in its place, an insertion in ascending order of serial that takes the serial out of the suspect list, or, with 8,192 entries held,
an item that is not taken and ends the taking. -/
def Screening.denying (x : Screening) : List DenyItem → DenyCounts × Screening
  | [] => (⟨0, 0, 0, 0⟩, x)
  | i :: is =>
    let entry : Stored DenyEntry := ⟨⟨i.serial, if i.action = 0 then .refuse else .lock, i.reason.toNat⟩, .clean⟩
    if x.denylist.any fun y => y.val.serial == i.serial then
      let r := Screening.denying
        { x with denylist := x.denylist.map fun y => if y.val.serial = i.serial then entry else y } is
      ({ r.1 with updated := r.1.updated + 1 }, r.2)
    else if x.denylist.length < 8192 then
      let r := Screening.denying
        { x with
          denylist := (x.denylist.filter fun y => decide (y.val.serial.toNat < i.serial.toNat)) ++ [entry]
            ++ x.denylist.filter fun y => decide (i.serial.toNat < y.val.serial.toNat)
          suspects := x.suspects.filter fun y => y.val.serial != i.serial } is
      ({ r.1 with
          added := r.1.added + 1
          moved := if x.suspects.any fun y => y.val.serial == i.serial then r.1.moved + 1 else r.1.moved }, r.2)
    else (⟨0, 0, is.length + 1, 0⟩, x)

/-! ### Tariff banks -/

/-- What one item of a bank holds, whatever its section (R86). -/
inductive PartItem where
  | number (v : Nat)
  | zone (z : Option Nat)
  | band (x : Band)
  | cls (x : TariffClass)
  | rule (x : Rule)
deriving DecidableEq, Repr

/-- A stored item with what it holds seen as an item of any section. -/
def seen {α : Type} (f : α → PartItem) (x : Stored α) : Stored PartItem := ⟨f x.val, x.bits⟩

/-- The items of one section of a bank (R86). -/
def Bank.part (b : Bank) : BankPart → List (Stored PartItem)
  | .header => b.header.map (seen .number)
  | .stations => b.stations.map (seen .zone)
  | .baseFares => b.baseFares.map (seen .number)
  | .travelTimes => b.travelTimes.map (seen .number)
  | .incompleteFares => b.incompleteFares.map (seen .number)
  | .unrecordedFares => b.unrecordedFares.map (seen .number)
  | .bands => b.bands.map (seen .band)
  | .classes => b.classes.map (seen .cls)
  | .holidays => b.holidays.map (seen .number)
  | .rules => b.rules.map (seen .rule)

/-- What a TARIFF WRITE item puts into a section (R86, R88). -/
def written : BankPart → TariffItem → PartItem
  | .header, x => .number (itemNumber x)
  | .stations, x => .zone (itemZone x)
  | .baseFares, x => .number (itemNumber x)
  | .travelTimes, x => .number (itemNumber x)
  | .incompleteFares, x => .number (itemNumber x)
  | .unrecordedFares, x => .number (itemNumber x)
  | .bands, x => .band (itemBand x)
  | .classes, x => .cls (itemClass x)
  | .holidays, x => .number (itemNumber x)
  | .rules, x => .rule (itemRule x)

/-- The bank of the PENDING area. -/
def pendingBank (s : State) : Bank := (s.tariff.area s.tariff.pendingId).bank

/-- The state with the bank of the PENDING area replaced. -/
def State.withPendingBank (s : State) (b : Bank) : State :=
  { s with tariff := s.tariff.setArea s.tariff.pendingId { s.tariff.area s.tariff.pendingId with bank := b } }

/-- A header field lies in a range. -/
def FieldIn (b : Bank) (i lo hi : Nat) : Prop := lo ≤ b.headerVal i ∧ b.headerVal i ≤ hi

/-- Check 1 of TARIFF CLOSE (R86, R89). -/
def HeaderInRange (b : Bank) : Prop :=
  FieldIn b 0 0 1439 ∧ FieldIn b 1 1 100 ∧ FieldIn b 2 0 180 ∧ FieldIn b 3 10 300 ∧ FieldIn b 4 0 2000 ∧ FieldIn b 5 0 5000
    ∧ FieldIn b 6 0 100000 ∧ FieldIn b 9 1 128 ∧ FieldIn b 10 1 8 ∧ FieldIn b 11 1 8 ∧ FieldIn b 12 1 8 ∧ FieldIn b 13 0 32

/-- Check 5 of TARIFF CLOSE for one day type (R89). -/
def BandsInOrder (b : Bank) (dayType : Nat) : Prop :=
  let bands := ((b.bands.drop (8 * dayType)).take (min 8 (b.headerVal (10 + dayType)))).map fun x => x.val
  (bands.map fun x => x.start).Pairwise (· < ·) ∧ (bands.head?.map fun x => x.start) = some 0
    ∧ ∀ x ∈ bands, 250 ≤ x.factor ∧ x.factor ≤ 4000

/-- Check 6 of TARIFF CLOSE (R89). -/
def LastRuleEndsChain (b : Bank) : Prop :=
  b.headerVal 8 = 0 ∨ ((b.rules[b.headerVal 8 - 1]?).getD (Stored.fresh Rule.never)).val.chain = false

/-- The record of a switchover: the new version, the prior one, the effective time (R93, R121). -/
def TariffStore.switchRecord (x : TariffStore) : JournalRecord :=
  { JournalRecord.blank .tariffSwitch none with
    version := x.pendingVersion, prior := some x.activeVersion, secondTime := x.effective }

/-- The state in which a switchover has completed: the roles changed, the old bank discarded, the record appended, the event raised
(R93).  The discarded bank keeps its items, without a version, where no reader reaches them (log entry 33). -/
def State.switched (s : State) : State :=
  let recorded := s.withRecord s.tariff.switchRecord
  let dropped := s.tariff.setArea s.tariff.active { s.tariff.area s.tariff.active with version := none }
  State.raise { recorded with tariff := { dropped with
    active := s.tariff.pendingId, usable := true, pending := .empty, effective := none, validation := .none } } .tariffSwitched

/-- What a station time does to a tariff store whose bank is SCHEDULED (R91, R93): nothing before its effective time, and from then on
it is SWITCHING, or has completed when no transaction holds the ACTIVE bank. -/
def State.scheduledAt (s : State) (effective : Nat) : State :=
  if s.clock.time < effective then s
  else if s.holders s.tariff.active = 0 then s.switched
  else { s with tariff := { s.tariff with pending := .switching } }

/-! ### Charges -/

/-- The items that a pair evaluation may read are undamaged. -/
def BankClean (b : Bank) : Prop :=
  (∀ x ∈ b.header, x.bits = .clean) ∧ (∀ x ∈ b.stations, x.bits = .clean) ∧ (∀ x ∈ b.baseFares, x.bits = .clean)
    ∧ (∀ x ∈ b.holidays, x.bits = .clean) ∧ (∀ x ∈ b.bands, x.bits = .clean) ∧ (∀ x ∈ b.classes, x.bits = .clean)
    ∧ ∀ x ∈ b.rules, x.bits = .clean

/-- The band that a lookup takes among a day type's bands in use, whose starts ascend: the last whose start is not above the minute
(R59). -/
def TakesBand (b : Bank) (dayType minute : Nat) (band : Band) : Prop :=
  ∃ before after, ((b.bands.drop (8 * dayType)).take (b.headerVal (10 + dayType))).map (fun x => x.val) = before ++ band :: after
    ∧ (∀ x ∈ before, x.start < band.start) ∧ band.start ≤ minute ∧ ∀ x ∈ after, minute < x.start

/-- The header fields that a charge rests on are undamaged. -/
def HeaderClean (b : Bank) : Prop := ∀ x ∈ b.header, x.bits = .clean

/-! ### Memory checks -/

/-- Damaged items of a list, by how they read (R172). -/
def countBits {α : Type} (b : Integrity) (xs : List (Stored α)) : Nat := xs.countP fun x => x.bits == b

/-! ### Lanes -/

/-- The two limits do not read asserted together, so that no movement of the leaves ends in a jam (R156). -/
def LimitsAgree (p : Passages) : Prop := p.bothLimits = false

/-- Nothing outside the lane differs from `u`, and of the lane neither its tap controller. -/
def OnlyLane (u t : State) (l : Lane) : Prop :=
  { t with lanes := u.lanes } = u ∧ (∀ k, k ≠ l → t.lane k = u.lane k) ∧ t.tap l = u.tap l

/-- The three requests of LANE SERVICE (R136). -/
inductive ServiceRequest where
  | into | out | holdOpen
deriving DecidableEq, Repr

/-- The command of a LANE SERVICE request. -/
def ServiceRequest.command : ServiceRequest → Byte → Instr
  | .into => .laneServiceIn
  | .out => .laneServiceOut
  | .holdOpen => .laneServiceHoldOpen

/-- Why a LANE SERVICE request is refused, by the lane's service state, whether it is configured, and whether the EMERGENCY line is
asserted (R137 to R139). -/
def ServiceRequest.refusal (q : ServiceRequest) (v : Service) (configured line : Bool) : Option Reason :=
  if v = .emergencyOpen ∧ line = true then some .emergency
  else if q ≠ .out ∧ configured = false then some .notConfigured
  else if q = .holdOpen ∧ v = .fault then some .laneFault
  else none

/-- The service state that a LANE SERVICE request asks for. -/
def ServiceRequest.asks : ServiceRequest → Service
  | .into => .inService
  | .out => .draining
  | .holdOpen => .heldOpen

/-- A LANE SERVICE request that changes nothing in a state: the lane has what is asked for, or is out of service (R137 to R139). -/
def ServiceRequest.idle (q : ServiceRequest) (v : Service) : Prop := v = q.asks ∨ (q = .out ∧ v = .closed)

/-- A lane holds nothing that keeps it DRAINING (R138). -/
def Drained (s : State) (l : Lane) : Prop :=
  (s.gate l).credits = [] ∧ (s.gate l).passages = [] ∧ (s.tap l).phase ≠ .committing

/-- A service state after the test for the end of draining (R138). -/
def drained (v : Service) (done : Bool) : Service := if v = .draining ∧ done = true then .closed else v

/-- Leaves set moving: off the start, with new timers at the duties of the configuration (R153, R154). -/
def movingLeaf (p : Passages) (v : LeafState) : Leaf :=
  ⟨v, if p.config.startPhase = 0 then none else some p.config.startPhase, some p.config.leafTravel, none, false,
   p.config.startDuty, p.config.runDuty, p.config.holdDuty⟩

/-- Leaves that have come to rest in a state, every timer stopped (R153, R154, R156). -/
def restingLeaf (p : Passages) (v : LeafState) : Leaf :=
  ⟨v, none, none, none, false, p.leaf.moveStart, p.leaf.moveRun, p.leaf.moveHold⟩

/-- The leaves that are to enter CLOSING: at the limit already, paused by an occupied L, or moving (R154, R155). -/
def closingLeaf (p : Passages) : Leaf :=
  if p.closedLimit.accepted = true then restingLeaf p .closed
  else if p.occ .leaves = true then ⟨.closing, none, none, none, true, p.leaf.moveStart, p.leaf.moveRun, p.leaf.moveHold⟩
  else movingLeaf p .closing

/-- The leaves that are to enter OPENING: at the limit already, held there at the hold duty in force, or moving (R153). -/
def openingLeaf (p : Passages) : Leaf :=
  if p.openLimit.accepted = true then { restingLeaf p .opened with moveHold := p.config.holdDuty } else movingLeaf p .opening

/-- Leaves stopped where they stand, OPEN, a close delay going on (R153). -/
def stoppedLeaf (p : Passages) : Leaf :=
  { p.leaf with state := .opened, startPhase := none, travel := none, paused := false }

/-- Leaves that wait in CLOSING for L to clear, the drive off (R155). -/
def pausedLeaf (p : Passages) : Leaf :=
  { p.leaf with state := .closing, startPhase := none, travel := none, closeDelay := none, paused := true }

/-- Leaves `v` in OPEN or OPENING after the test of the close condition (R149, R154): closed at once after a tailgate or with a close delay
of 0, else their close delay started, or stopped when the condition does not hold. -/
def closeChecked (latched : Bool) (p : Passages) (v : Leaf) : Leaf :=
  if p.demand = false ∧ p.occ .leaves = false then
    if latched = true ∨ (v.closeDelay = none ∧ p.config.closeDelay = 0) then closingLeaf p
    else if v.closeDelay = none then { v with closeDelay := some p.config.closeDelay }
    else v
  else { v with closeDelay := none }

/-- The passage controller after its leaf drive has taken the change from `p` to `q` (R152); LeavesReactToDemandAndSegment says what the
leaf drive makes of it. -/
def reacted (p q : Passages) : Passages := { q with leaf := (p.leafReact q).1.leaf }

/-- The statistics with cancelled credits counted (R144, R159). -/
def Stats.cancelled (x : Stats) (n : Nat) : Stats := { x with cancellations := min 65535 (x.cancellations + n) }

/-- A passage controller after a jam outside EMERGENCY_OPEN (R144, R145, R156). -/
def jammedGate (p : Passages) (cause : FaultCause) : Passages :=
  { p with
    service := .fault
    faultCause := some cause
    credits := []
    passages := []
    latch := false
    intrusionOpen := false
    stats := p.stats.cancelled p.credits.length
    leaf := restingLeaf p .jammed }

/-- An indicator whose held result has been ended by a change that composes its frame anew (R166). -/
def endedHold (d : Display) (i : Indicator) : Indicator := refreshed d { i with held := none, holdTimer := none }

/-- The records of a lane's credits, cancelled in list order (R144). -/
def cancelRecords (l : Lane) (credits : List Credit) (cause : DetailName) : List JournalRecord :=
  credits.map fun c => { JournalRecord.blank .creditCancelled (some l) with serial := some c.serial, detail := some (.named cause) }

/-- The state with records added at the newest end one after another. -/
def State.withRecords (s : State) (rs : List JournalRecord) : State := rs.foldl State.withRecord s

/-- Several more records are admitted in either class with no event (R123, R126, R178). -/
def HasRooms (s : State) (n : Nat) : Prop := s.journal.held + s.journal.outstanding + n < 1536 ∧ Disarmed s .journal

/-- The state after a jam outside EMERGENCY_OPEN (R156): `p` is the passage controller that jams. -/
def State.jammed (s : State) (l : Lane) (p : Passages) (cause : FaultCause) : State :=
  let recorded := s.withRecords (cancelRecords l p.credits .fault)
  let ind := if p.service = .fault then s.ind l else endedHold s.display { s.ind l with service := .fault }
  State.raise ((recorded.withGate l (jammedGate p cause)).withInd l ind) (.laneFault l)

/-- The leaf drive has nothing left to do for the demand and segment L as they stand (R152 to R155): CLOSED leaves have no demand; in OPENING
and OPEN the close delay runs exactly while the close condition holds, with no latch to close at once; OPEN leaves that are to be open
stand at the open limit; CLOSING leaves have no demand, and are paused only by an occupied L. -/
def LeavesAtRest (p : Passages) : Prop :=
  let waits := if p.demand = false ∧ p.occ .leaves = false then p.leaf.closeDelay.isSome = true ∧ p.latch = false
    else p.leaf.closeDelay = none
  (p.leaf.state = .closed → p.demand = false)
    ∧ (p.leaf.state = .opening → waits)
    ∧ (p.leaf.state = .opened → waits ∧ (p.demand = true → p.openLimit.accepted = true))
    ∧ (p.leaf.state = .closing → p.demand = false ∧ (p.leaf.paused = true → p.occ .leaves = true))

/-- How a passage settles (R148): a marked one consumes its credit or counts as a free passage, an unmarked one gives its credit back
with a new lapse timer.  `cs` and `st` are the credits and the statistics after. -/
def Settles (p : Passages) (x : Passage) (cs : List Credit) (st : Stats) : Prop :=
  (x.credit = none ∧ cs = p.credits
    ∧ st = if x.marked = true then { p.stats with free := min 65535 (p.stats.free + 1) } else p.stats)
  ∨ ∃ pre c post, p.credits = pre ++ c :: post ∧ (∀ y ∈ pre, ¬(y.inUse = true ∧ y.serial = c.serial)) ∧ c.inUse = true
    ∧ x.credit = some c.serial
    ∧ (x.marked = true → cs = pre ++ post ∧ st = { p.stats with credited := min 65535 (p.stats.credited + 1) })
    ∧ (x.marked = false → cs = pre ++ { c with inUse := false, lapse := some p.config.creditLapse } :: post ∧ st = p.stats)

/-- How passages settle one after another, oldest first (R148). -/
def SettlesAll (p : Passages) : List Passage → List Credit → Stats → Prop
  | [], cs, st => cs = p.credits ∧ st = p.stats
  | x :: xs, cs, st => ∃ c t, Settles p x c t ∧ SettlesAll { p with credits := c, stats := t } xs cs st

/-- A beam's debounce timer runs, and its expiry makes the segment's occupancy `after` (R140, R141). -/
def BeamTurns (s : State) (l : Lane) (b : Beam) (g : Segment) (after : Bool) : Prop :=
  s.phase = .running ∧ ((s.gate l).beams.get b).timer.isSome = true ∧ segmentOf b = g ∧ (s.gate l).occ g = !after
    ∧ ((s.gate l).acceptBeam b).occ g = after

/-! ### The host link, resets and start-up -/

/-- The KIND of a host request (R198); none for a command that is not one. -/
def requestKind : Instr → Option Byte
  | .statusGet _ _ => some 0x01 | .timeSet _ => some 0x02 | .timeGet => some 0x03 | .stationSet _ _ _ _ => some 0x04
  | .laneConfig _ _ => some 0x05 | .laneServiceIn _ => some 0x06 | .laneServiceOut _ => some 0x06
  | .laneServiceHoldOpen _ => some 0x06 | .tariffBegin _ => some 0x07 | .tariffWrite _ _ _ => some 0x08
  | .tariffClose => some 0x09 | .tariffActivate _ => some 0x0A | .tariffStatus => some 0x0B | .keyLoad _ _ _ => some 0x0C
  | .denyAdd _ => some 0x0D | .denyRemove _ => some 0x0E | .denyClear => some 0x0F | .suspectRead _ _ => some 0x10
  | .suspectClear _ => some 0x11 | .feedSightings _ => some 0x12 | .journalRead _ _ => some 0x13 | .journalRelease _ => some 0x14
  | .eventsPeek => some 0x15 | .eventsTake => some 0x16 | .eventsEnable _ => some 0x17 | .templateWrite _ _ _ => some 0x18
  | .resultMap _ => some 0x19 | .eccCounts _ => some 0x1A | .eccInject _ _ => some 0x1B | .reset => some 0x1C
  | .unknownKind kind _ => some kind
  | _ => none

/-- The state with a frame discarded: the receiver HUNTING, one link counter changed, LINK_ERROR raised (R179, R182). -/
def State.frameLost (s : State) (c : LinkCounters) : State :=
  State.raise { s with link := { s.link with receiver := .hunting, counters := c } } .linkError

/-- What a reset leaves of the part, with its cause and the phase it puts the part in: the retained content as it stands, the inputs at
their levels, everything volatile at its value after reset (R191). -/
def State.fallen (s : State) (cause : ResetCause) (phase : PartPhase) : State :=
  { s with
    phase := phase
    cause := cause
    report := none
    emergency := ⟨s.emergency.high, false, none⟩
    link := ⟨.hunting, [], [], ⟨0, 0, 0, 0, 0⟩, .none⟩
    events := ⟨0, Events.defaultEnables⟩
    screening := { s.screening with counters := ScreenCounters.zero }
    journal := { s.journal with reservations := .all none }
    display := Display.cleared
    ecc := ⟨⟨0, 0, none⟩, ⟨0, 0, none⟩, ⟨0, 0, none⟩, ⟨0, 0, none⟩, ⟨0, 0, none⟩⟩
    lanes := s.lanes.map fun u =>
      { tap := Tap.cleared
        gate := { Passages.cleared with
          config := u.gate.config
          configured := u.gate.configured
          beams := u.gate.beams.map fun i => ⟨i.high, false, none⟩
          openLimit := ⟨u.gate.openLimit.high, false, none⟩
          closedLimit := ⟨u.gate.closedLimit.high, false, none⟩ }
        ind := Indicator.cleared } }

/-- Where a reset leads: to start-up, or to holding while the RESET input is asserted (R191). -/
def landing (s : State) : PartPhase := if s.resetLine = true then .held else .startUp

/-- Every lane stands as a reset leaves it, with no credit and no passage (R142, R145). -/
def LanesFallen (s : State) : Prop := ∀ l, (s.gate l).credits = [] ∧ (s.gate l).passages = [] ∧ (s.gate l).stats = Stats.zero

/-- The marker and every header stand, and none is uncorrectable (R194). -/
def Retained (s : State) : Prop :=
  let r := s.retention
  ∀ x ∈ [r.marker, r.journal, r.sighting, r.lists, r.tariff, r.settings], x.val = true ∧ x.bits ≠ .double

/-- What step 3 of start-up makes of the in-doubt list, in its order, and the records it appends (R115, R116, R195): an uncorrectable entry
goes with its RESOLVED_UNKNOWN record, an OPEN one stays, a PROVISIONAL one becomes OPEN with the sequence of its IN_DOUBT record. -/
def converted (next : Nat) : List (Stored DoubtEntry) → List (Stored DoubtEntry) × List JournalRecord
  | [] => ([], [])
  | e :: es =>
    if e.bits = .double then
      let r := converted (seqForward next 1) es
      (r.1, { JournalRecord.blank .resolvedUnknown none with detail := some (.named .memoryError) } :: r.2)
    else if e.val.opened = true then
      let r := converted next es
      (e :: r.1, r.2)
    else
      let r := converted (seqForward next 1) es
      (⟨{ e.val with opened := true, sequence := some next }, .clean⟩ :: r.1,
       { JournalRecord.blank .inDoubt (some e.val.lane) with
          serial := some e.val.serial, counter := some e.val.counterBefore, secondCounter := some (e.val.counterBefore + 1)
          charge := some e.val.charge, purse := some e.val.purse, fareReason := some e.val.fareReason, version := e.val.version
          flags := some RecordFlags.empty, detail := some (.named .reset) } :: r.2)

/-- A PROVISIONAL entry that start-up can read. -/
def readableProvisional (x : Stored DoubtEntry) : Bool := x.bits != .double && !x.val.opened

/-- The in-doubt list as the part leaves it: a serial at most once, and each readable PROVISIONAL entry the only one of its lane, which the
LISTS header marks (R100, R101, R195). -/
def DoubtMarked (s : State) : Prop :=
  (s.doubt.entries.map fun x => x.val.serial).Nodup
    ∧ ((s.doubt.entries.filter readableProvisional).map fun x => x.val.lane).Nodup
    ∧ ∀ x ∈ s.doubt.entries, readableProvisional x = true → (s.doubt.header.get x.val.lane).isSome = true

/-- The lanes whose rebuilt reservation no readable PROVISIONAL entry consumes, lane 0 first (R195; log entry 14). -/
def State.leftover (s : State) : List Lane :=
  allLanes.filter fun l => (s.doubt.header.get l).isSome && !(s.doubt.entries.any fun x => readableProvisional x && x.val.lane == l)

/-- The record that consumes a rebuilt reservation left over (R195). -/
def leftoverRecord (l : Lane) : JournalRecord :=
  { JournalRecord.blank .inDoubt (some l) with detail := some (.named .memoryError) }

/-- A lane as start-up brings it up from its inputs (R140, R151, R196): the accepted states as the levels mean, the service state by the
EMERGENCY line, the leaves by their limits, a send of its frame under way. -/
def BroughtUp (s u : State) (l : Lane) : Prop :=
  let p := s.gate l
  let q := u.gate l
  (∀ b, q.beams.get b = ⟨(p.beams.get b).high, (p.beams.get b).high == decide (q.config.polarity = .activeHigh), none⟩)
    ∧ q.openLimit = ⟨p.openLimit.high, !p.openLimit.high, none⟩ ∧ q.closedLimit = ⟨p.closedLimit.high, !p.closedLimit.high, none⟩
    ∧ (p.openLimit.high = true ∨ p.closedLimit.high = true →
      q.service = (if s.emergency.high = true then .emergencyOpen else .closed)
        ∧ q.leaf.state = (if s.emergency.high = true then if p.openLimit.high = true then .opening else .opened
          else if p.closedLimit.high = true then .closing else .closed))
    ∧ (p.openLimit.high = false ∧ p.closedLimit.high = false → q.leaf.state = .jammed ∧ q.faultCause = some .bothLimits
      ∧ q.service = if s.emergency.high = true then .emergencyOpen else .fault)
    ∧ q.obstruction = (if q.occ .leaves = true then some q.config.obstruction else none)
    ∧ (u.ind l).service = q.service ∧ (u.ind l).sending = some (u.ind l).frame ∧ u.tap l = s.tap l

/-! ### Status reports (R187)

Their items stand in the order of R187 and of the rules that own them; the encodings that R198 leaves open are those of log entry
17. -/

/-- A condition as a byte: 1 when it holds. -/
def mark (b : Bool) : Byte := if b = true then 1 else 0

/-- STATUS GET, PART (R182, R183, R185, R186, R187, R190, R197). -/
def partReport (s : State) (cause : ResetCause) (result : RetentionResult) : List Byte :=
  [causeCode cause, retentionCode result] ++ beBytes 4 s.clock.time ++ [mark s.clock.timeSet]
    ++ beBytes 1 s.settings.station ++ beBytes 2 s.settings.network ++ beBytes 2 s.settings.skew ++ beBytes 1 s.settings.timeout
    ++ [mark s.settings.isSet, mark (!s.emergency.accepted)]
    ++ s.keys.flatMap (fun k => optionalNat 1 (k.map fun x => x.version))
    ++ optionalNat 2 s.tariff.activeVersion ++ [mark (!s.tariff.usable), pendingCode s.tariff.pending]
    ++ beBytes 4 s.events.enabled.toNat
    ++ [s.link.counters.accepted, s.link.counters.lengthErrors, s.link.counters.gapErrors, s.link.counters.crcErrors,
        s.link.counters.overflows].flatMap (beBytes 2)

/-- STATUS GET, SCREENING (R51, R116). -/
def screeningReport (s : State) : List Byte :=
  let n := s.screening.counters
  [n.screened, n.clear, n.blocked, n.denylistHits, n.suspectHits, n.regressions, n.divergences, n.travelFindings, n.exhausted,
    n.imageInvalid, n.unchecked, n.pushOuts, n.evictions, n.heldBack, n.feedInserted, n.feedReplaced, n.feedStale, n.feedConflicts,
    n.feedClamped].flatMap (beBytes 2)
    ++ beBytes 2 s.screening.sightings.length ++ beBytes 2 s.screening.denylist.length ++ [mark (!s.screening.denyValid)]
    ++ beBytes 2 s.screening.suspects.length
    ++ beBytes 1 (s.doubt.entries.countP fun e => e.val.opened) ++ beBytes 1 (s.doubt.entries.countP fun e => !e.val.opened)

/-- STATUS GET, JOURNAL (R132). -/
def journalReport (j : Journal) : List Byte :=
  let ends := if j.held = 0 then none else some (seqBack j.nextSequence j.held, seqBack j.nextSequence 1)
  beBytes 2 j.held ++ optionalNat 4 (ends.map fun x => x.1) ++ optionalNat 4 (ends.map fun x => x.2) ++ beBytes 4 j.nextSequence
    ++ beBytes 1 (allLanes.countP fun l => j.reservations.get l == some .ordinary)
    ++ beBytes 1 (allLanes.countP fun l => j.reservations.get l == some .mandatory)
    ++ [mark (decide (1984 ≤ j.held + j.outstanding))] ++ beBytes 2 j.lostOrdinary ++ beBytes 2 j.lostMandatory

/-- The readiness reason of a lane: the first condition of R9 that fails, counted from 1, 0 when all hold, and 6 in a service state that
takes no taps. -/
def readinessNumber (s : State) (l : Lane) : Byte :=
  if (s.gate l).service ≠ .inService ∧ (s.gate l).service ≠ .emergencyOpen then 6
  else if s.clock.timeSet = false then 1
  else if s.settings.isSet = false then 2
  else if ¬(s.tariff.pending = .switching ∨ (s.tariff.activeVersion.isSome = true ∧ s.tariff.usable = true))
    ∨ (zoneEntry s).bits = .double then 3
  else if (zoneEntry s).val = none then 4
  else if (s.gate l).service = .inService ∧ 1984 ≤ s.journal.held + s.journal.outstanding then 5
  else 0

/-- STATUS GET, LANE: the tap controller and the lane's reservation (R7, R9, R117). -/
def tapReport (s : State) (l : Lane) : List Byte :=
  [tapPhaseCode (s.tap l).phase, mark (!(s.tap l).present)] ++ optionalNat 1 ((s.tap l).lastResult.map resultIndex)
    ++ [readinessNumber s l, reservationCode (s.journal.reservations.get l)]

/-- STATUS GET, LANE: the passage controller (R160); the lapse time left of the n-th credit is the free value of the n-th draw. -/
def passageReport (s : State) (l : Lane) : List Byte :=
  let p := s.gate l
  let left (n : Nat) (c : Credit) : Option Nat := c.lapse.map fun d => min (d * 1000) (Config.millisecondsLeft (s.draws + n))
  [mark p.configured] ++ reportedConfig p.config ++ [serviceCode p.service] ++ optional 1 (p.faultCause.map fun c => [faultCode c])
    ++ beBytes 1 p.credits.length
    ++ (p.credits.zipIdx.flatMap fun x => beBytes 8 x.1.serial.toNat ++ [mark x.1.inUse] ++ optionalNat 2 (left x.2 x.1))
    ++ beBytes 1 p.passages.length
    ++ (p.passages.flatMap fun x =>
      optional 8 (x.credit.map fun ser => beBytes 8 ser.toNat) ++ [mark x.marked, mark x.tailgate])
    ++ [mark p.latch, mark p.intrusionOpen, mark p.obstructionReported, leafCode p.leaf.state, mark p.leaf.paused,
        mark (!p.openLimit.accepted), mark (!p.closedLimit.accepted)]
    ++ (p.beams.toList.map fun i => mark (!i.accepted)) ++ [mark (p.occ .approach), mark (p.occ .leaves), mark (p.occ .exit)]
    ++ ([p.stats.grants, p.stats.credited, p.stats.free, p.stats.lapses, p.stats.cancellations] ++ p.stats.results).flatMap (beBytes 2)

/-- STATUS GET, LANE: the indicator unit (R164); the hold time left is the free value of the draw after the credits'. -/
def indicatorReport (s : State) (l : Lane) : List Byte :=
  let i := s.ind l
  let left := i.holdTimer.map fun d => min d (Config.millisecondsLeft (s.draws + (s.gate l).credits.length))
  beBytes 1 (keyIndex i.shown)
    ++ optional 8 (i.held.map fun h =>
      beBytes 1 (resultIndex h.code) ++ optionalNat 2 h.charge ++ optional 3 (h.purse.map (beSigned 3)))
    ++ optionalNat 2 left ++ [mark i.obstructed]

/-! ### Properties that every step keeps -/

/-- The serials in flight: no two lanes have one in common (R12). -/
def OneLanePerCard (s : State) : Prop :=
  ∀ (k l : Lane) (ser : Serial), (s.tap k).inFlight = some ser → (s.tap l).inFlight = some ser → k = l

/-- The denylist and the suspect list: each serial at most once in either and in no case in both, the denylist ascending and within its
8,192 places, empty while INVALID, and the suspect list within its 512 (R30, R33, R34). -/
def ListsSound (s : State) : Prop :=
  (s.screening.denylist.map fun x => x.val.serial.toNat).Pairwise (· < ·) ∧ s.screening.denylist.length ≤ 8192
    ∧ (s.screening.denyValid = false → s.screening.denylist = [])
    ∧ (s.screening.suspects.map fun x => x.val.serial).Nodup ∧ s.screening.suspects.length ≤ 512
    ∧ ∀ x ∈ s.screening.denylist, ∀ y ∈ s.screening.suspects, x.val.serial ≠ y.val.serial

/-- Places of the journal taken, promised, or owed to a PROVISIONAL entry of the in-doubt list, which start-up records (R123, R195). -/
def Doubt.owes (s : State) : Nat :=
  s.journal.held + (allLanes.countP fun l => (s.journal.reservations.get l).isSome || (s.doubt.header.get l).isSome)

/-- The journal never promises more places than it has, and in service every lane marked PROVISIONAL is in COMMITTING with a
reservation (R99, R117, R123). -/
def PlacesSound (s : State) : Prop :=
  Doubt.owes s ≤ 2048
    ∧ (s.phase = .running → ∀ l, (s.doubt.header.get l).isSome = true →
      (s.tap l).phase = .committing ∧ (s.journal.reservations.get l).isSome = true)

/-- The credits of a lane are at most two, as are its passages; until the grants counter saturates every credit granted is accounted for;
the tailgate latch stands only while a passage is in progress (R142, R145, R148, R149, R159). -/
def CreditsSound (p : Passages) : Prop :=
  p.credits.length ≤ 2 ∧ p.passages.length ≤ 2
    ∧ (p.stats.grants < 65535 →
      p.stats.grants = p.stats.credited + p.stats.lapses + p.stats.cancellations + p.credits.length)
    ∧ (p.latch = true → p.passages ≠ [])

/-- The leaves of a lane in service are driven towards open only for someone let in, or for a lane held open, and are never driven
against someone in L; a lane in FAULT has JAMMED leaves, and those wait for no close (R152, R154, R155, R156). -/
def LeavesSound (p : Passages) : Prop :=
  (p.leaf.state = .opening → p.letIn = true ∨ p.service = .heldOpen ∨ p.service = .emergencyOpen)
    ∧ (p.service = .fault → p.leaf.state = .jammed)
    ∧ (p.leaf.state = .jammed → p.leaf.closeDelay = none)
    ∧ (p.leaf.state = .closing → p.leaf.paused = false → p.occ .leaves = false)

end Sys2Proof.Machine
end

