-- ==== Sys2Proof/Certificates/Slice0/Obligations.lean ====
section
/-! DEFINITION. The statements about the part, in the order of the manual's chapters. -/

open Sys2Proof Sys2Proof.Machine

/-! ### The queue of commands -/

/-- A step takes the command at the front of the queue and executes it on the state with the queue's rest. -/
def Obligations.StepRunsTheFrontCommand : Prop :=
  ∀ (c : Instr) (rest : List Instr) (s : State), step { s with pending := c :: rest } = exec c { s with pending := rest }

/-! ### Chapter 1: the tap transaction -/

/-- A report of a card that reaches a tap controller in IDLE starts a transaction or ends at once with its refusal (R8, R9, R10), the
station's entry in the bank concerned undamaged; an uncorrectable one marks the bank, and the tap ends NOT_AVAILABLE (R94 to R96).  The
other reports in IDLE set the field state (R4, R8); that a NO_ANSWER there does nothing is log entry 10. -/
def Obligations.CardReportInIdleStartsOrRefuses : Prop :=
  ∀ (s : State) (l : Lane), s.phase = .running → (s.tap l).phase = .idle →
    let entered := s.withField l true
    let refuses (c : Instr) (u : State) (code : ResultCode) : Prop := exec c s = .next (u.endTap l code none (purseRead s l))
    let usable := s.tariff.pending = .switching ∨ (s.tariff.activeVersion.isSome = true ∧ s.tariff.usable = true)
    ((zoneEntry s).bits = .clean →
      (TakesTaps s l → ((s.gate l).service = .inService → (s.gate l).credits.length < 2) →
        exec (.cardPresent l) s = .next (s.withTap l { s.tap l with
          phase := .identifying
          present := true
          kind := some (if (s.gate l).service = .emergencyOpen then .emergency
            else if (s.gate l).config.kind = some .exit then .exit else .entry)
          bound := some (bankToBind s)
          outstanding := some ⟨.identify, s.settings.timeout⟩ }))
      ∧ (TakesTaps s l → (s.gate l).service = .inService → 2 ≤ (s.gate l).credits.length → refuses (.cardPresent l) entered .laneBusy)
      ∧ (¬TakesTaps s l → refuses (.cardPresent l) entered .notAvailable ∧ refuses (.multipleCards l) entered .notAvailable)
      ∧ (TakesTaps s l → refuses (.multipleCards l) entered .multipleCards))
    ∧ ((zoneEntry s).bits = .double → ((s.gate l).service = .inService ∨ (s.gate l).service = .emergencyOpen) →
      s.link.reset ≠ .waiting → s.clock.timeSet = true → s.settings.isSet = true → usable →
      let marked := entered.noteBank (bankToBind s) ⟨0, 1⟩
      refuses (.cardPresent l) marked .notAvailable ∧ refuses (.multipleCards l) marked .notAvailable)
    ∧ exec (.fieldEmpty l) s = .next (s.withField l false)
    ∧ exec (.noAnswer l) s = .next s

/-- In QUIET a FIELD_EMPTY report takes the controller to IDLE, the reports of cards set the field state and nothing else, and
answers are discarded (R24, R4).  That an EXCHANGE_TIMEOUT or a NO_ANSWER with no exchange outstanding does nothing is log entry 10. -/
def Obligations.QuietWaitsForAnEmptyField : Prop :=
  ∀ (s : State) (l : Lane), s.phase = .running → (s.tap l).phase = .quiet →
    exec (.fieldEmpty l) s = .next (s.withTap l { s.tap l with present := false, phase := .idle })
    ∧ exec (.cardPresent l) s = .next (s.withField l true) ∧ exec (.multipleCards l) s = .next (s.withField l true)
    ∧ ∀ (a : Vector Byte 12) (x p : Check) (i : Vector Byte 48) (q : Vector Byte 8) (n : BitVec 24) (c : Instr),
        c ∈ [.noAnswer l, .wrongTypeAnswer l, .identifyAnswer l a, .authenticateAnswer l x, .readAnswer l i q, .receipt l n p,
          .refusedCounter l, .refusedExhausted l, .exchangeTimeout l] → exec c s = .next s

/-- No answer, or an answer of a type not awaited, ends a dialogue that has not come to EVALUATING with TAP_AGAIN, and so does the exchange
timer while it runs (R4, R5, R15, R23). FIELD_EMPTY and MULTIPLE_CARDS before the COMMIT end the transaction and release its reservation; a
CARD_PRESENT sets the field state (R16). That an EXCHANGE_TIMEOUT or a NO_ANSWER with no exchange outstanding does nothing is log entry 10.
-/
def Obligations.LostAnswersAndLeavingCardsEndTheDialogue : Prop :=
  ∀ (s : State) (l : Lane), s.phase = .running →
    let dialogue := (s.tap l).phase = .identifying ∨ (s.tap l).phase = .authenticating ∨ (s.tap l).phase = .reading
    let lost : State := s.endTap l .tapAgain none (purseRead s l)
    let freed : State := { s with journal := { s.journal with reservations := s.journal.reservations.set l none } }
    (dialogue →
      exec (.noAnswer l) s = .next lost ∧ exec (.wrongTypeAnswer l) s = .next lost
      ∧ ((s.tap l).outstanding.isSome = true → exec (.exchangeTimeout l) s = .next lost)
      ∧ ((s.tap l).outstanding = none → exec (.exchangeTimeout l) s = .next s))
    ∧ ((dialogue ∨ (s.tap l).phase = .evaluating) →
      exec (.fieldEmpty l) s = .next ((freed.withField l false).endTap l .tapAgain none (purseRead s l))
      ∧ exec (.multipleCards l) s = .next ((freed.withField l true).endTap l .multipleCards none (purseRead s l))
      ∧ exec (.cardPresent l) s = .next (s.withField l true))
    ∧ ((s.tap l).phase = .evaluating → exec (.noAnswer l) s = .next s)

/-- The IDENTIFY answer awaited, its 12 bytes the first of the card image's layout: the four checks of R11 in order, then AUTHENTICATE with
a new challenge and the key of the lowest-numbered slot of the card's key version, diversified for the card (R6, R11, R12, R201). The
challenge is a free value, log entry 6. -/
def Obligations.IdentifyAnswerIsChecked : Prop :=
  (∀ r : RawImage, identifyAnswerAt ((imageBytes r).take 12) = ⟨r.serial, r.network, r.keyVersion, r.status⟩)
  ∧ ∀ (s : State) (l : Lane) (bytes : Vector Byte 12) (time : Nat), s.phase = .running → (s.tap l).phase = .identifying →
    (s.tap l).outstanding = some ⟨.identify, time⟩ →
    let a := identifyAnswerAt bytes.toList
    let known : State := s.withTap l { s.tap l with outstanding := none, ident := some a }
    let locked : State := s.withTap l { s.tap l with outstanding := none, ident := some a, inFlight := some a.serial }
    let free := ∀ k, k ≠ l → (s.tap k).inFlight ≠ some a.serial
    let home := a.network.toNat = s.settings.network
    let version := a.keyVersion.toNat
    let ends (u : State) (code : ResultCode) : Prop :=
      exec (.identifyAnswer l bytes) s = .next (u.endTap l code none (purseRead s l))
    (a.serial = 0 → ends known .cardDataInvalid)
    ∧ (a.serial ≠ 0 → ¬free → ends known .cardBusyElsewhere)
    ∧ (a.serial ≠ 0 → free → ¬home → ends locked .foreignCard)
    ∧ (a.serial ≠ 0 → free → home → (version < 1 ∨ 8 < version ∨ ∀ slot, some slot ∈ s.keys → slot.version ≠ version) →
      ends locked .unknownKeyVersion)
    ∧ ∀ (i : Nat) (slot : KeySlot), a.serial ≠ 0 → free → home → 1 ≤ version → version ≤ 8 →
      s.keys[i]? = some (some slot) → slot.version = version →
      (∀ (j : Nat) (x : KeySlot), j < i → s.keys[j]? = some (some x) → x.version ≠ version) →
      exec (.identifyAnswer l bytes) s = .next { s.withTap l { s.tap l with
          phase := .authenticating
          ident := some a
          inFlight := some a.serial
          key := some (Config.diversify slot.key a.serial)
          challenge := some (Config.challenge s.draws)
          outstanding := some ⟨.authenticate (Config.challenge s.draws), s.settings.timeout⟩ } with draws := s.draws + 1 }

/-- The AUTHENTICATE answer awaited: an equal response goes on to READ, another is recorded AUTH_FAILED and ends CARD_NOT_GENUINE (R13). -/
def Obligations.AuthenticateAnswerIsChecked : Prop :=
  ∀ (s : State) (l : Lane) (response challenge : Check) (k : Key) (o : Outstanding), s.phase = .running →
    (s.tap l).phase = .authenticating → (s.tap l).outstanding = some o → o.exchange = .authenticate challenge →
    (s.tap l).key = some k → (s.tap l).challenge = some challenge →
    (response = Config.keyedCheck k (.response challenge) →
      exec (.authenticateAnswer l response) s
        = .next (s.withTap l { s.tap l with phase := .reading, outstanding := some ⟨.read, s.settings.timeout⟩ }))
    ∧ (response ≠ Config.keyedCheck k (.response challenge) → HasRoom s →
      exec (.authenticateAnswer l response) s = .next (State.endTap
        ((s.withTap l { s.tap l with outstanding := none }).withRecord { JournalRecord.blank .authFailed (some l) with
          serial := (s.tap l).inFlight, detail := some (.named .authenticate) }) l .cardNotGenuine none (purseRead s l)))

/-- The READ answer awaited, its 48 bytes the card image in the layout of R201 and 8 more its proof: the proof, the identification, and the
bank of step 1 of R18 are checked in that order; an image that passes is kept and its resolution is asked for (R14, R18, R201).  That an
answer failing its proof or its identification leaves no purse as read is the model's choice (log entry 43). -/
def Obligations.ReadAnswerIsChecked : Prop :=
  (∀ (r : RawImage) (p : Check), rawImageAt (imageBytes r) = r ∧ (imageBytes r).length = 48 ∧ proofAt (beBytes 8 p.toNat) = p)
  ∧ ∀ (s : State) (l : Lane) (bytes : Vector Byte 48) (tail : Vector Byte 8) (challenge : Check) (k : Key) (a : IdentifyAnswer)
    (i : AreaId) (time : Nat), s.phase = .running → (s.tap l).phase = .reading → (s.tap l).outstanding = some ⟨.read, time⟩ →
    (s.tap l).key = some k → (s.tap l).challenge = some challenge → (s.tap l).ident = some a → (s.tap l).bound = some i →
    let image := rawImageAt bytes.toList
    let good := proofAt tail.toList = Config.keyedCheck k (.readProof image challenge)
    let same := a.serial = image.serial ∧ a.network = image.network ∧ a.keyVersion = image.keyVersion
    let answered : State := s.withTap l { s.tap l with outstanding := none }
    let taken : State := s.withTap l { s.tap l with
      phase := .evaluating, outstanding := none, image := some (decodeImage image), stage := some .resolution }
    let ends (u : State) (code : ResultCode) (purse : Option Int) : Prop :=
      exec (.readAnswer l bytes tail) s = .next (u.endTap l code none purse)
    (¬good → HasRoom s →
      ends (answered.withRecord { JournalRecord.blank .authFailed (some l) with
        serial := (s.tap l).inFlight, detail := some (.named .read) }) .cardNotGenuine (purseRead s l))
    ∧ (good → ¬same → ends answered .cardDataInvalid (purseRead s l))
    ∧ (good → same → ¬BankUsable s i → ends taken .notAvailable (some image.purse.toInt))
    ∧ (good → same → BankUsable s i → exec (.readAnswer l bytes tail) s = .next taken)
    ∧ (decodeImage image).w.purse = image.purse.toInt ∧ (decodeImage image).counter = image.counter.toNat
    ∧ ((decodeImage image).w.status = .active ↔ image.status = 0) ∧ ((decodeImage image).w.trip = .outside ↔ image.trip = 0)
    ∧ ((decodeImage image).w.lastExitPenalty = false ↔ image.lastExitPenalty = 0)

/-- The lookup of a card's serial in the in-doubt list: with no entry held the tap goes on to screening; an entry held is removed,
its finding recorded, the sighting table follows a card found CONFIRMED or UNKNOWN, and a debit confirmed in time at a lane of the
same kind in service is resumed with a credit (R109 to R113). -/
def Obligations.ResolutionFollowsTheCard : Prop :=
  ∀ (s : State) (l : Lane) (kind : TxKind) (bank : AreaId) (c : CardImage), Awaits s l .resolution kind bank c →
    let goOn (u : State) : State := u.withTap l { u.tap l with stage := some .screening }
    ((∀ e ∈ s.doubt.entries, e.val.serial ≠ c.serial) → exec (.resolutionLookup l) s = .next (goOn s))
    ∧ ∀ (e : DoubtEntry), s.doubt.entries.find? (fun e => e.val.serial == c.serial) = some ⟨e, .clean⟩ →
      HasRoom s → SightingsQuiet s c.serial →
      let applied := c.counter = e.counterBefore + 1 ∧ c.w.purse = e.purse ∧ c.w.trip = e.trip ∧ c.w.status = e.status
      let outcome : RecordKind := if c.counter ≤ e.counterBefore then .resolvedVoided
        else if applied then .resolvedConfirmed else .resolvedUnknown
      let recorded : State := State.withRecord
        { s with doubt := { s.doubt with entries := s.doubt.entries.eraseP fun e => e.val.serial == c.serial } }
        { JournalRecord.blank outcome (some l) with
          serial := some c.serial, counter := some c.counter, reference := e.sequence
          detail := some (.named (changeDetail e.change)) }
      let followed := recorded.sighted (updateOf s l c.serial c.counter c.w.purse c.w.trip)
      let original := if e.trip = .inside then TxKind.entry else TxKind.exit
      let window := ((s.tariff.area bank).bank.header[3]?).getD (.fresh 0)
      (outcome = .resolvedVoided → exec (.resolutionLookup l) s = .next (goOn recorded))
      ∧ (outcome = .resolvedUnknown → exec (.resolutionLookup l) s = .next (goOn followed))
      ∧ (outcome = .resolvedConfirmed → window.bits = .clean →
        ¬(e.change = .debit ∧ kind = original ∧ s.clock.time - e.created ≤ window.val ∧ (s.gate l).service = .inService) →
        exec (.resolutionLookup l) s = .next (goOn followed))
      ∧ (outcome = .resolvedConfirmed → window.bits = .clean → e.change = .debit → kind = original →
        s.clock.time - e.created ≤ window.val → (s.gate l).service = .inService →
        ∃ u, exec (.creditGrant l c.serial) followed = .next u
          ∧ exec (.resolutionLookup l) s = .next (u.endTap l .grantedResumed (some e.charge) (some c.w.purse)))

/-- The commit point: the service state and the bank are checked again, a journal place is asked for in the class of the change, and
with a place granted the PROVISIONAL entry is written and COMMIT handed to the port; the grant that closes ordinary admission raises
JOURNAL_FULL (R21, R99, R101, R126).  That the service state and the bank are checked again here, after the step that made the commit due, is
log entry 15; that the mark written in the LISTS header leaves its stored bits as they were is log entry 49. -/
def Obligations.CommitTakesAPlaceThenIsSent : Prop :=
  ∀ (s : State) (l : Lane) (kind : TxKind) (bank : AreaId) (c : CardImage) (w : CommitWork) (ser : Serial) (k : Key)
    (challenge : Check), Awaits s l .reservation kind bank c → (s.tap l).work = some w → (s.tap l).inFlight = some ser →
    (s.tap l).key = some k → (s.tap l).challenge = some challenge →
    let limit := if w.change = .debit then 1984 else 2048
    let taken := s.journal.held + s.journal.outstanding
    let placed : State := s.withPlace l (if w.change = .debit then .ordinary else .mandatory)
    let ends (code : ResultCode) : Prop := exec (.reservationRequest l) s = .next (s.endTap l code none (purseRead s l))
    (¬(ServiceFits s l kind ∧ BankUsable s bank) → ends .notAvailable)
    ∧ (ServiceFits s l kind → BankUsable s bank → ¬taken < limit →
      ends (if w.change = .debit then .noJournalRoom else if w.change = .lock then .denylisted else .emergencyRelease))
    ∧ (ServiceFits s l kind → BankUsable s bank → taken < limit → s.journal.reservations.get l = none →
      let noted : State := if taken + 1 = 1984 then placed.raise .journalFull else placed
      exec (.reservationRequest l) s = .next ((noted.writeProvisional l ser w).withTap l (sentTap s l ser w k challenge))
      ∧ (s.doubt.entries.length < 32 → Disarmed s .lists → noted.writeProvisional l ser w = { noted with doubt :=
          { entries := s.doubt.entries ++ [⟨provisionalEntry s l ser w, .clean⟩]
            header := s.doubt.header.set l (some w.change) } }))

/-- With 32 entries in the in-doubt list, the writing of a PROVISIONAL entry first abandons the oldest OPEN entry, with its record and
its event; entries that are not OPEN keep their places.  So does the commit that a lane sends (R101, R102), its
checks made again here (log entry 15); the LISTS header keeps its stored bits (log entry 49). -/
def Obligations.FullInDoubtListAbandonsTheOldestOpen : Prop :=
  ∀ (s : State) (l : Lane) (ser : Serial) (w : CommitWork) (before after : List (Stored DoubtEntry)) (e : DoubtEntry),
    s.doubt.entries = before ++ ⟨e, .clean⟩ :: after → s.doubt.entries.length = 32 →
    (∀ x ∈ before, x.bits = .clean ∧ x.val.opened = false ∧ x.val.serial ≠ e.serial) → e.opened = true → Disarmed s .lists →
    let abandoned (u : State) : State := State.raise
      { u.withRecord { JournalRecord.blank .doubtAbandoned (some e.lane) with
          serial := some e.serial, counter := some e.counterBefore, secondCounter := some (e.counterBefore + 1)
          reference := e.sequence
          detail := some (.named (changeDetail e.change)) } with
        doubt :=
          { entries := before ++ after ++ [⟨provisionalEntry s l ser w, .clean⟩]
            header := s.doubt.header.set l (some w.change) } } .inDoubtAbandoned
    (HasRoom s → s.writeProvisional l ser w = abandoned s)
    ∧ ∀ (kind : TxKind) (bank : AreaId) (c : CardImage) (k : Key) (challenge : Check),
      Awaits s l .reservation kind bank c → (s.tap l).work = some w → (s.tap l).inFlight = some ser →
      (s.tap l).key = some k → (s.tap l).challenge = some challenge → ServiceFits s l kind → BankUsable s bank →
      s.journal.reservations.get l = none →
      let placed : State := s.withPlace l (if w.change = .debit then .ordinary else .mandatory)
      HasRoom placed →
        exec (.reservationRequest l) s = .next ((abandoned placed).withTap l (sentTap s l ser w k challenge))

/-- A RECEIPT that passes its check confirms the commit: the PROVISIONAL entry goes, the record of the change takes the reserved place, the
sighting table takes the receipt's counter, and the credit and the result follow the change (R103 to R105, R108, R114). The LISTS header
keeps its stored bits when its mark is cleared (log entry 49). -/
def Obligations.GoodReceiptConfirmsTheChange : Prop :=
  ∀ (s : State) (l : Lane) (w : CommitWork) (ser : Serial) (k : Key) (challenge proof : Check) (counter : BitVec 24)
    (e : DoubtEntry) (cls : AdmissionClass), Commits s l w ser → (s.tap l).key = some k → (s.tap l).challenge = some challenge →
    provisionalOf s l = some ⟨e, .clean⟩ → s.journal.reservations.get l = some cls → s.journal.held + 1 ≠ 1536 →
    Disarmed s .journal → SightingsQuiet s ser →
    counter.toNat = w.counterBefore + 1 → proof = Config.keyedCheck k (.receiptProof ser counter.toNat challenge) →
    let kind : RecordKind := if w.change = .lock then .cardLocked else if w.change = .release then .emergencyExit
      else if (s.tap l).kind = some .exit then (if w.fareReason = .penalty then .exitUnrecorded else .exit)
      else if w.fareReason = .penalty then .entryWithPenalty else .entry
    let settled : State := (((s.settled l).withTap l { s.tap l with outstanding := none }).withRecord
      { JournalRecord.blank kind (some l) with
        serial := some ser, counter := some counter.toNat, charge := some w.charge, purse := some w.values.purse
        fareReason := some w.fareReason, version := w.version, flags := some (s.tap l).flags
        detail := if w.change = .lock then some (.reason w.lockReason) else none }).sighted
      (updateOf s l ser counter.toNat w.values.purse w.values.trip)
    let result := exec (.receipt l counter proof) s
    (w.change = .lock → result = .next (settled.endTap l .denylisted (some w.charge) (some w.values.purse)))
    ∧ (w.change = .release → result = .next (settled.endTap l .emergencyRelease (some w.charge) (some w.values.purse)))
    ∧ (w.change = .debit → (s.gate l).service = .emergencyOpen →
      result = .next (settled.endTap l .emergencyRelease (some w.charge) (some w.values.purse)))
    ∧ (w.change = .debit → (s.gate l).service ≠ .emergencyOpen →
      ∃ u, exec (.creditGrant l ser) settled = .next u
        ∧ result = .next (u.endTap l .granted (some w.charge) (some w.values.purse)))

/-- The card's refusal of a COMMIT removes the PROVISIONAL entry and releases the reservation, with no record, no card update and no
credit (R106).  The LISTS header keeps its stored bits when its mark is cleared (log entry 49). -/
def Obligations.RefusedCommitLeavesNoTrace : Prop :=
  ∀ (s : State) (l : Lane) (w : CommitWork) (ser : Serial) (e : DoubtEntry), Commits s l w ser →
    provisionalOf s l = some ⟨e, .clean⟩ →
    let settled : State := (s.settled l).withTap l { s.tap l with outstanding := none }
    let ends (c : Instr) (code : ResultCode) : Prop :=
      exec c s = .next (settled.endTap l (if w.change = .release then .emergencyRelease else code) none (purseRead s l))
    ends (.refusedCounter l) .commitRefused ∧ ends (.refusedExhausted l) .cardExhausted

/-- A COMMIT whose outcome the part does not learn turns the PROVISIONAL entry OPEN in its place, with the sequence of an IN_DOUBT record
that takes the reserved place, and ends IN_DOUBT; a RECEIPT that fails its check does the same with the flag RECEIPT_BAD; in place of an
uncorrectable entry, which goes with its record, a new OPEN one is written at the end (R22, R104, R107, R115). What that new entry takes
from the tap controller is log entry 19; the LISTS header keeps its stored bits when its mark is cleared (log entry 49). -/
def Obligations.TornCommitOpensItsEntry : Prop :=
  ∀ (s : State) (l : Lane) (w : CommitWork) (ser : Serial) (k : Key) (challenge proof : Check) (counter : BitVec 24)
    (e : DoubtEntry) (cls : AdmissionClass), Commits s l w ser → (s.tap l).key = some k → (s.tap l).challenge = some challenge →
    s.journal.reservations.get l = some cls → Disarmed s .journal → Disarmed s .lists →
    let opened (u : State) (created : Nat) : Stored DoubtEntry :=
      ⟨{ w.entry ser l created true none with sequence := some u.journal.nextSequence }, .clean⟩
    let torn (u : State) (entries : List (Stored DoubtEntry)) (bad : Bool) (t : Tap) : State := State.endTap (State.withTap (State.withRecord
      { u with
        doubt := { entries := entries, header := s.doubt.header.set l none }
        journal := { u.journal with reservations := s.journal.reservations.set l none } }
      { JournalRecord.blank .inDoubt (some l) with
        serial := some ser, counter := some w.counterBefore, secondCounter := some (w.counterBefore + 1)
        charge := some w.charge, purse := some w.values.purse, fareReason := some w.fareReason, version := w.version
        flags := some { (s.tap l).flags with receiptBad := (s.tap l).flags.receiptBad || bad }
        detail := some (.named (changeDetail w.change)) })
      l t) l .inDoubt none (purseRead s l)
    let badReceipt := ¬(counter.toNat = w.counterBefore + 1 ∧ proof = Config.keyedCheck k (.receiptProof ser counter.toNat challenge))
    let tears (u : State) (entries : List (Stored DoubtEntry)) : Prop :=
      exec (.noAnswer l) s = .next (torn u entries false (s.tap l))
      ∧ exec (.exchangeTimeout l) s = .next (torn u entries false (s.tap l))
      ∧ exec (.wrongTypeAnswer l) s = .next (torn u entries false (s.tap l))
      ∧ exec (.fieldEmpty l) s = .next (torn u entries false { s.tap l with present := false })
      ∧ (badReceipt → exec (.receipt l counter proof) s = .next (torn u entries true { s.tap l with outstanding := none }))
    (provisionalOf s l = some ⟨e, .clean⟩ → s.journal.held + 1 ≠ 1536 →
      tears s (s.doubt.entries.map fun x => if x.val.lane == l && !x.val.opened then opened s e.created else x))
    ∧ (∀ before after, s.doubt.entries = before ++ ⟨e, .double⟩ :: after → e.lane = l → e.opened = false →
      (∀ x ∈ before, ¬(x.val.lane = l ∧ x.val.opened = false)) → (∀ x ∈ before ++ after, x.val.serial ≠ e.serial) →
      before.length + after.length < 32 → HasRooms s 2 →
      let lost := s.lostEntry (before ++ after)
      tears lost (before ++ after ++ [opened lost s.clock.time]))
    ∧ exec (.cardPresent l) s = .next (s.withField l true) ∧ exec (.multipleCards l) s = .next (s.withField l true)

/-! ### Chapter 2: screening -/

/-- A card update overwrites, inserts or is held back; with the table full it first evicts the least recently updated entry whose serial is
not pinned (R28, R29). That the evicted entry is not itself read, so that a damaged one goes uncounted, is log entry 30; that a CARD_UPDATE
may be given alone is log entry 9. -/
def Obligations.CardUpdateFollowsTheCard : Prop :=
  ∀ (s : State) (l : Lane) (ser : Serial) (counter : BitVec 24) (purse : Int) (trip : Trip), s.phase = .running →
    (SightingsQuiet s ser →
      exec (.cardUpdate l ser counter purse trip) s = .next (s.sighted (updateOf s l ser counter.toNat purse trip)))
    ∧ ∀ (before after : List (Stored Sighting)) (x : Stored Sighting), s.screening.sightings = before ++ x :: after →
      s.screening.sightings.length = 16384 → Disarmed s .sighting → (∀ e ∈ s.screening.sightings, e.val.serial ≠ ser) →
      (∀ e ∈ before, e.bits = .clean ∧ Pinned s e.val.serial) → ¬Pinned s x.val.serial →
      exec (.cardUpdate l ser counter purse trip) s = .next { s with screening := { s.screening with
        sightings := before ++ after ++ [⟨updateOf s l ser counter.toNat purse trip, .clean⟩]
        counters := { s.screening.counters with evictions := min 65535 (s.screening.counters.evictions + 1) } } }

/-- The checks of the lists. Check 1 answers CARD_LOCKED and check 3 answers SUSPECT, each with its counter and, in an emergency lane only,
its record and event; check 2 records its hit, raises DENYLIST_HIT and answers by the entry's action and the transaction kind, and while the
denylist is INVALID it does not fire and the answer carries DENYLIST_UNCHECKED (R38, R39, R41). That check 2 answers a card at the greatest
counter too is log entry 47. -/
def Obligations.BlockedDenylistedAndSuspectCardsAreAnswered : Prop :=
  ∀ (s : State) (q : ScreenRequest),
    let unchecked := !s.screening.denyValid
    let note (kind : RecordKind) (d : DetailName) : JournalRecord := { JournalRecord.blank kind (some q.lane) with
      serial := some q.card.serial, counter := some q.card.counter, detail := some (.named d) }
    let locked := s.screenedAs fun n => { n with blocked := min 65535 (n.blocked + 1) }
    let suspected := s.screenedAs fun n => { n with suspectHits := min 65535 (n.suspectHits + 1) }
    (q.card.w.status = .blocked → q.kind ≠ .emergency → s.screen q = (.refuse .cardLocked, unchecked, locked))
    ∧ (q.card.w.status = .blocked → q.kind = .emergency → HasRoom s →
      s.screen q = (.refuse .cardLocked, unchecked, locked.withRecord (note .cardLocked .blockedSeen)))
    ∧ (∀ e, q.card.w.status = .active → s.screening.denyValid = true →
      s.screening.denylist.find? (fun x => x.val.serial == q.card.serial) = some ⟨e, .clean⟩ → HasRoom s →
      s.screen q = (if e.action = .lock ∧ q.kind ≠ .emergency then .lock e.reason else .refuse .denylisted, false,
        ((s.screenedAs fun n => { n with denylistHits := min 65535 (n.denylistHits + 1) }).withRecord
          { JournalRecord.blank .denylistHit (some q.lane) with
            serial := some q.card.serial, counter := some q.card.counter, action := some e.action
            detail := some (.reason e.reason) }).raise .denylistHit))
    ∧ (q.card.w.status = .active → s.screening.denyValid = false →
      (s.screen q).2.1 = true ∧ ∀ r, (s.screen q).1 ≠ .lock r ∧ (s.screen q).1 ≠ .refuse .denylisted)
    ∧ ∀ e, q.card.w.status = .active → (∀ x ∈ s.screening.denylist, x.val.serial ≠ q.card.serial) →
      s.screening.suspects.find? (fun x => x.val.serial == q.card.serial) = some ⟨e, .clean⟩ →
      (q.kind ≠ .emergency → s.screen q = (.refuse .suspect, unchecked, suspected))
      ∧ (q.kind = .emergency → HasRoom s →
        s.screen q = (.refuse .suspect, unchecked,
          (suspected.withRecord (note .cloneDetected .suspectListed)).raise .cloneSuspect))

/-- Checks 4 to 6 compare the card with its sighting: a lower counter, an equal counter with another state, or too little time since a
sighting elsewhere is a clone finding, which enters the suspect list, pushing the oldest entry out of a full one, the journal and the event
unit, and leaves the sighting; a finding for a serial that stands in the denylist or the suspect list already leaves both as they are (R34,
R42 to R44). -/
def Obligations.CloneFindingsAreRecordedAndSuspected : Prop :=
  (∀ (s : State) (q : ScreenRequest) (e : Sighting), q.card.w.status = .active → Unlisted s q.card.serial →
    s.screening.sightings.find? (fun x => x.val.serial == q.card.serial) = some ⟨e, .clean⟩ → TravelReadable s q.bank e →
    Disarmed s .lists → HasRoom s →
    let differs := (∃ p, e.purse = some p ∧ p ≠ q.card.w.purse) ∨ ∃ x, e.trip = some x ∧ x ≠ q.card.w.trip
    let finding (reason : SuspectReason) (d : DetailName) (f : ScreenCounters → ScreenCounters) : ScreenAnswer × Bool × State :=
      let counted := s.screenedAs f
      let recorded := counted.withRecord { JournalRecord.blank .cloneDetected (some q.lane) with
        serial := some q.card.serial, counter := some q.card.counter, secondCounter := some e.counter
        secondStation := some e.station, source := some e.source, detail := some (.named d) }
      (.refuse .cloneDetected, !s.screening.denyValid, State.raise
        { recorded with screening := counted.screening.suspecting ⟨q.card.serial, reason, s.clock.time, .lane q.lane⟩ } .cloneSuspect)
    (q.card.counter < e.counter → s.screen q
      = finding .counterRegression .counterRegression fun n => { n with regressions := min 65535 (n.regressions + 1) })
    ∧ (q.card.counter = e.counter → differs → s.screen q
      = finding .diverged .diverged fun n => { n with divergences := min 65535 (n.divergences + 1) })
    ∧ (¬q.card.counter < e.counter → ¬(q.card.counter = e.counter ∧ differs) → ImpossibleTravel s q.bank e →
      s.screen q = finding .impossibleTravel .impossibleTravel fun n =>
        { n with travelFindings := min 65535 (n.travelFindings + 1) }))
  ∧ ∀ (s : State) (q : ScreenRequest) (e : Sighting) (reason : SuspectReason) (d : DetailName), Listed s q.card.serial → HasRoom s →
    (reason, d) ∈ [(SuspectReason.counterRegression, DetailName.counterRegression), (.diverged, .diverged),
      (.impossibleTravel, .impossibleTravel)] →
    s.findClone q e reason = (some (.refuse .cloneDetected), (s.withRecord { JournalRecord.blank .cloneDetected (some q.lane) with
      serial := some q.card.serial, counter := some q.card.counter, secondCounter := some e.counter
      secondStation := some e.station, source := some e.source, detail := some (.named d) }).raise .cloneSuspect)

/-- A card that is in no list and passes its sighting, if one is held (a greater counter, or an equal one with the same state), is
CARD_EXHAUSTED at the greatest counter, CARD_DATA_INVALID with an image out of range, and otherwise CLEAR; nothing but the counters changes
(R37, R45). -/
def Obligations.LastScreeningChecksThenClear : Prop :=
  ∀ (s : State) (q : ScreenRequest), q.card.w.status = .active → Unlisted s q.card.serial →
    (∀ e, s.screening.sightings.find? (fun x => x.val.serial == q.card.serial) = some e →
      e.bits = .clean ∧ TravelReadable s q.bank e.val ∧ ¬ImpossibleTravel s q.bank e.val
        ∧ (e.val.counter < q.card.counter ∨ (e.val.counter = q.card.counter
          ∧ (∀ p, e.val.purse = some p → p = q.card.w.purse) ∧ ∀ x, e.val.trip = some x → x = q.card.w.trip))) →
    let unchecked := !s.screening.denyValid
    (q.card.counter = 16777215 → s.screen q
      = (.refuse .cardExhausted, unchecked, s.screenedAs fun n => { n with exhausted := min 65535 (n.exhausted + 1) }))
    ∧ (q.card.counter ≠ 16777215 → OutOfRange q.card → s.screen q
      = (.refuse .cardDataInvalid, unchecked, s.screenedAs fun n => { n with imageInvalid := min 65535 (n.imageInvalid + 1) }))
    ∧ (q.card.counter ≠ 16777215 → ¬OutOfRange q.card → s.screen q
      = (.clear, unchecked, s.screenedAs fun n => { n with clear := min 65535 (n.clear + 1) }))

/-- Whatever the state of the lists and their memories, a screening request is counted as screened and as exactly one answer (R51). -/
def Obligations.EveryScreeningIsCountedOnce : Prop :=
  ∀ (s : State) (q : ScreenRequest), s.screening.counters.screened < 65535 →
    (∀ n ∈ s.screening.counters.answers, n < 65535) →
    (s.screen q).2.2.screening.counters.screened = s.screening.counters.screened + 1
    ∧ (s.screen q).2.2.screening.counters.answers.sum = s.screening.counters.answers.sum + 1

/-- What an uncorrectable item does.  A lookup that meets one removes it, and of the denylist the whole list, which becomes INVALID, and
returns none; an in-doubt entry goes with its RESOLVED_UNKNOWN record, whether a card's lookup or the settling of its lane meets it; a
damaged map entry or template gives a blank frame; a damaged tariff item is taken as the value its reader gives it, and its bank, the
ACTIVE one becomes UNUSABLE and the pending one INVALID.  Each is counted and raises MEMORY_UNCORRECTED (R27, R33, R94, R95, R115, R170,
R173, R175, R176).  What a lookup or a settling that meets a damaged in-doubt entry does next is log entry 19. -/
def Obligations.UncorrectableItemsTakeTheirEffect : Prop :=
  (∀ (s : State) (ser : Serial),
    (∀ e, s.screening.sightings.find? (fun x => x.val.serial == ser) = some ⟨e, .double⟩ →
      s.lookupSighting ser = (none, { s.struck .sighting with screening := { s.screening with
        sightings := s.screening.sightings.filter fun x => x.val.serial != ser } }))
    ∧ (∀ e, s.screening.denylist.find? (fun x => x.val.serial == ser) = some ⟨e, .double⟩ →
      s.lookupDeny ser = (none, { s.struck .lists with screening := { s.screening with denylist := [], denyValid := false } }))
    ∧ ∀ e, s.screening.suspects.find? (fun x => x.val.serial == ser) = some ⟨e, .double⟩ →
      s.lookupSuspect ser = (none, { s.struck .lists with screening := { s.screening with
        suspects := s.screening.suspects.filter fun x => x.val.serial != ser } }))
  ∧ (∀ (s : State) (before after : List (Stored DoubtEntry)) (e : DoubtEntry), s.doubt.entries = before ++ ⟨e, .double⟩ :: after →
    (∀ x ∈ before ++ after, x.val.serial ≠ e.serial) → HasRoom s →
    let lost : State := s.lostEntry (before ++ after)
    s.lookupDoubt e.serial s.doubt.entries = (none, lost)
    ∧ (e.opened = false → (∀ x ∈ before, ¬(x.val.lane = e.lane ∧ x.val.opened = false)) → s.readProvisional e.lane = (false, lost)))
  ∧ (∀ (s : State) (l : Lane),
    let mapped := s.display.entry (s.ind l).key
    (mapped.bits = .double → s.readFrame l = (DispCell.blankFrame, s.struck .templates))
    ∧ (mapped.bits = .clean → (s.display.template mapped.val).bits = .double →
      s.readFrame l = (DispCell.blankFrame, s.struck .templates)))
  ∧ (∀ (items : List (Stored Nat)) (n x taken : Nat), items[n]? = some ⟨x, .double⟩ → readAt taken items n = ⟨taken, ⟨0, 1⟩⟩)
  ∧ ∀ s : State,
    s.noteBank s.tariff.active ⟨0, 1⟩ = { s.struck .tariff with tariff := { s.tariff with usable := false } }
    ∧ ∀ i, i ≠ s.tariff.active → s.noteBank i ⟨0, 1⟩
      = { s.struck .tariff with tariff := { s.tariff with pending := .invalid, validation := .memoryError, effective := none } }

/-- The answer of the screening unit decides a transaction: a refusal ends it with the code of that name, a LOCK request makes a LOCK
commit due, CLEAR goes on to the fare unless anti-passback ends it, and in a transaction of kind EMERGENCY everything but CLEAR with a
card INSIDE ends EMERGENCY_RELEASE (R18 to R20, R40).  That the service state and the bank are checked here, and again at the reservation, is log
entry 15; a LOCK commit of a card at the greatest counter is log entry 47. -/
def Obligations.ScreeningAnswerDecidesTheTransaction : Prop :=
  ∀ (s u : State) (l : Lane) (kind : TxKind) (bank : AreaId) (c : CardImage) (answer : ScreenAnswer) (unchecked : Bool),
    Awaits s l .screening kind bank c → s.screen ⟨l, kind, bank, c⟩ = (answer, unchecked, u) →
    let flagged : Tap := { s.tap l with flags :=
      { (s.tap l).flags with denylistUnchecked := (s.tap l).flags.denylistUnchecked || unchecked } }
    let ends (r : ResultCode) : Prop :=
      exec (.screeningRequest l) s = .next (State.endTap (u.withTap l flagged) l r none (some c.w.purse))
    let due (w : CommitWork) : Prop := exec (.screeningRequest l) s
      = .next (u.withTap l { flagged with stage := some .reservation, work := some w })
    let here := s.settings.station
    let window := ((u.tariff.area bank).bank.header[3]?).getD (.fresh 0)
    let again := (kind = .entry ∧ c.w.trip = .inside ∧ c.w.entryStation = here ∧ s.clock.time - c.w.entryTime ≤ window.val)
      ∨ (kind = .exit ∧ c.w.trip = .outside ∧ c.w.lastExitStation = here ∧ s.clock.time - c.w.lastExitTime ≤ window.val)
    (kind ≠ .emergency → ∀ r, answer = .refuse r → ends (refusalCode r))
    ∧ (kind ≠ .emergency → ∀ reason, answer = .lock reason →
      ((s.gate l).service = .inService → BankUsable u bank →
        due ⟨.lock, c.counter, { c.w with status := .blocked }, 0, .none, (u.tariff.area bank).version, reason⟩)
      ∧ (¬((s.gate l).service = .inService ∧ BankUsable u bank) → ends .notAvailable))
    ∧ (kind ≠ .emergency → answer = .clear → window.bits = .clean → ¬again →
      exec (.screeningRequest l) s = .next (u.withTap l { flagged with stage := some .fare }))
    ∧ (kind ≠ .emergency → answer = .clear → window.bits = .clean → again → ends .alreadyPassed)
    ∧ (kind = .emergency → ¬(answer = .clear ∧ c.w.trip = .inside) → ends .emergencyRelease)
    ∧ (kind = .emergency → answer = .clear → c.w.trip = .inside → ¬((s.gate l).service = .emergencyOpen ∧ BankUsable u bank) →
      ends .notAvailable)
    ∧ (kind = .emergency → answer = .clear → c.w.trip = .inside → (s.gate l).service = .emergencyOpen → BankUsable u bank →
      due ⟨.release, c.counter,
        { c.w with trip := .outside, lastExitStation := here, lastExitTime := s.clock.time, lastExitPenalty := false },
        0, .none, (u.tariff.area bank).version, 0⟩)

/-- One feed item, its time brought back to station time when it lies too far ahead, is inserted, replaces the entry, is a conflict that
marks the serial, pushing the oldest entry out of a full suspect list, or is stale, in the order of R47; a conflict of a serial that stands in
the denylist or the suspect list already leaves both as they are (R34, R46 to R48). -/
def Obligations.FeedItemIsTakenByItsCase : Prop :=
  ∀ (s : State) (x : FeedItem), SightingsQuiet s x.serial →
    let clamped := decide (s.clock.time + s.settings.skew < x.time)
    let time := if s.clock.time + s.settings.skew < x.time then s.clock.time else x.time
    let made : Sighting := ⟨x.serial, x.counter, x.purse, x.station, time, .feed, none⟩
    let placed : State := { s with screening := { s.screening with
      sightings := (s.screening.sightings.filter fun e => e.val.serial != x.serial) ++ [⟨made, .clean⟩] } }
    (sightingOf s x.serial = none → s.applyFeedItem x = (.inserted, clamped, placed))
    ∧ ∀ e, sightingOf s x.serial = some e →
      let apart := x.station ≠ e.station ∨ s.settings.skew < time - e.time ∨ s.settings.skew < e.time - time
      let later := e.time + s.settings.skew < time
      let suspecting (reason : SuspectReason) : Screening := s.screening.suspecting ⟨x.serial, reason, s.clock.time, .feed⟩
      let conflict (reason : SuspectReason) (d : DetailName) (marked : Screening) : FeedCase × Bool × State :=
        (.conflict reason, clamped, State.raise (State.withRecord { s with screening := marked } { JournalRecord.blank .feedConflict none with
          serial := some x.serial, counter := some x.counter, station := some x.station, reportedTime := some time
          secondCounter := some e.counter, secondStation := some e.station, secondTime := some e.time
          detail := some (.named d) }) .cloneSuspect)
      (e.counter < x.counter → s.applyFeedItem x = (.replaced, clamped, placed))
      ∧ (x.counter = e.counter → apart → HasRoom s →
        (Unlisted s x.serial → Disarmed s .lists →
          s.applyFeedItem x = conflict .counterReused .counterReused (suspecting .counterReused))
        ∧ (Listed s x.serial → s.applyFeedItem x = conflict .counterReused .counterReused s.screening))
      ∧ (x.counter < e.counter → later → HasRoom s →
        (Unlisted s x.serial → Disarmed s .lists →
          s.applyFeedItem x = conflict .remoteRegression .remoteRegression (suspecting .remoteRegression))
        ∧ (Listed s x.serial → s.applyFeedItem x = conflict .remoteRegression .remoteRegression s.screening))
      ∧ (x.counter ≤ e.counter → ¬(x.counter = e.counter ∧ apart) → ¬(x.counter < e.counter ∧ later) →
        s.applyFeedItem x = (.stale, clamped, s))

/-- A feed is refused with nothing applied when its count or an item is out of range, or while the time is not set; otherwise its items are
applied one after another in list order, each by its case against what the items before it leave; every item is counted once, in the
reply and in the screening counters, and the reply is CLAMPED exactly when an item's time was replaced (R46, R47, R49, R51). -/
def Obligations.FeedCountsEveryItemOnce : Prop :=
  ∀ (s : State) (items : List FeedItem), Serving s →
    let bad := items.length < 1 ∨ 32 < items.length ∨ ∃ x ∈ items, x.serial = 0 ∨ x.station = 0 ∨ 16777215 < x.counter
      ∨ ∃ p, x.purse = some p ∧ (p < -2000 ∨ 100000 < p)
    (bad → Answers (.feedSightings items) s 0x12 ⟨.badRequest, none, []⟩ s)
    ∧ (¬bad → s.clock.timeSet = false → Answers (.feedSightings items) s 0x12 ⟨.refused, some .timeNotSet, []⟩ s)
    ∧ (¬bad → s.clock.timeSet = true →
      let u := s.fed items
      let counted (p : FeedCase → Bool) : Nat := (s.feedCases items).countP p
      let inserted := counted (· == .inserted)
      let replaced := counted (· == .replaced)
      let stale := counted (· == .stale)
      let conflicts := counted fun c => c == .conflict .counterReused || c == .conflict .remoteRegression
      let clamped := items.countP fun x => s.clock.time + s.settings.skew < x.time
      let n := u.screening.counters
      inserted + replaced + stale + conflicts = items.length
      ∧ u = { s with screening := u.screening, journal := u.journal, events := u.events, ecc := u.ecc }
      ∧ Answers (.feedSightings items) s 0x12
        ⟨if clamped = 0 then .ok else .clamped, none,
          [BitVec.ofNat 8 inserted, BitVec.ofNat 8 replaced, BitVec.ofNat 8 stale, BitVec.ofNat 8 conflicts]⟩
        { u with screening := { u.screening with counters := { n with
          feedInserted := min 65535 (n.feedInserted + inserted)
          feedReplaced := min 65535 (n.feedReplaced + replaced)
          feedStale := min 65535 (n.feedStale + stale)
          feedConflicts := min 65535 (n.feedConflicts + conflicts)
          feedClamped := min 65535 (n.feedClamped + clamped) } } })

/-- DENY ADD is refused as R31 gives; one item updates its entry in place, or is inserted at its sorted place and leaves the suspect
list, or is not taken by a full list; several items of a request on undamaged lists are taken in its order, each against what the items
before it left, and from the first that finds the list full none is taken (R31). -/
def Obligations.DenyAddTakesItsItems : Prop :=
  ∀ (s : State) (items : List DenyItem), Serving s →
    let bad := items.length < 1 ∨ 51 < items.length ∨ ∃ x ∈ items, x.serial = 0 ∨ 1 < x.action.toNat
    (bad → Answers (.denyAdd items) s 0x0D ⟨.badRequest, none, []⟩ s)
    ∧ (¬bad → s.screening.denyValid = false → Answers (.denyAdd items) s 0x0D ⟨.refused, some .denylistInvalid, []⟩ s)
    ∧ (∀ x : DenyItem, items = [x] → ¬bad → s.screening.denyValid = true → Disarmed s .lists →
      let entry : DenyEntry := ⟨x.serial, if x.action = 0 then .refuse else .lock, x.reason.toNat⟩
      (∀ e, s.screening.denylist.find? (fun y => y.val.serial == x.serial) = some ⟨e, .clean⟩ →
        Answers (.denyAdd items) s 0x0D ⟨.ok, none, [0, 1, 0, 0]⟩ { s with screening := { s.screening with
          denylist := s.screening.denylist.map fun y => if y.val.serial = x.serial then ⟨entry, .clean⟩ else y } })
      ∧ (∀ before after, s.screening.denylist = before ++ after → s.screening.denylist.length < 8192 →
        (∀ y ∈ before, y.val.serial.toNat < x.serial.toNat) → (∀ y ∈ after, x.serial.toNat < y.val.serial.toNat) →
        (∀ y ∈ s.screening.suspects, y.bits = .clean) →
        let moved := ∃ y ∈ s.screening.suspects, y.val.serial = x.serial
        Answers (.denyAdd items) s 0x0D ⟨.ok, none, [1, 0, 0, if moved then 1 else 0]⟩ { s with screening := { s.screening with
          denylist := before ++ [⟨entry, .clean⟩] ++ after
          suspects := s.screening.suspects.filter fun y => y.val.serial != x.serial } })
      ∧ (8192 ≤ s.screening.denylist.length → (∀ y ∈ s.screening.denylist, y.val.serial ≠ x.serial) →
        Answers (.denyAdd items) s 0x0D ⟨.ok, none, [0, 0, 1, 0]⟩ s))
    ∧ (¬bad → s.screening.denyValid = true → Disarmed s .lists → (∀ y ∈ s.screening.denylist, y.bits = .clean) →
      (∀ y ∈ s.screening.suspects, y.bits = .clean) → (s.screening.denylist.map fun y => y.val.serial.toNat).Pairwise (· < ·) →
      let taken := s.screening.denying items
      let n := taken.1
      n.added + n.updated + n.notTaken = items.length
      ∧ Answers (.denyAdd items) s 0x0D
        ⟨.ok, none, [BitVec.ofNat 8 n.added, BitVec.ofNat 8 n.updated, BitVec.ofNat 8 n.notTaken, BitVec.ofNat 8 n.moved]⟩
        { s with screening := taken.2 })

/-- DENY REMOVE takes every serial it names out of an undamaged list and counts each item as removed or not found (how a
serial named twice is counted is log entry 45); DENY CLEAR empties the list and sets it VALID in
either state; SUSPECT READ returns the entries of an undamaged list from its position on, oldest first, and changes nothing; SUSPECT CLEAR
takes out the serial it names and counts it (R32, R35, R36); how an entry names FEED is log entry 17. -/
def Obligations.ListRequestsRemoveReadAndClear : Prop :=
  ∀ (s : State) (serials : List Serial) (position : BitVec 16) (count : Byte) (ser : Serial), Serving s →
    let bad := serials.length < 1 ∨ 63 < serials.length
    let noPage := 511 < position.toNat ∨ count.toNat < 1 ∨ 32 < count.toNat
    let page := (s.screening.suspects.drop position.toNat).take count.toNat
    (bad → Answers (.denyRemove serials) s 0x0E ⟨.badRequest, none, []⟩ s)
    ∧ (¬bad → s.screening.denyValid = false → Answers (.denyRemove serials) s 0x0E ⟨.refused, some .denylistInvalid, []⟩ s)
    ∧ (¬bad → s.screening.denyValid = true → (∀ y ∈ s.screening.denylist, y.bits = .clean) →
      ∃ removed missing : Nat, removed + missing = serials.length
        ∧ (serials.Nodup → removed = serials.countP fun x => s.screening.denylist.any fun y => y.val.serial == x)
        ∧ Answers (.denyRemove serials) s 0x0E ⟨.ok, none, [BitVec.ofNat 8 removed, BitVec.ofNat 8 missing]⟩
          { s with screening := { s.screening with
            denylist := s.screening.denylist.filter fun y => !serials.contains y.val.serial } })
    ∧ Answers .denyClear s 0x0F ⟨.ok, none, []⟩ { s with screening := { s.screening with denylist := [], denyValid := true } }
    ∧ (noPage → Answers (.suspectRead position count) s 0x10 ⟨.badRequest, none, []⟩ s)
    ∧ ((∀ y ∈ s.screening.suspects, y.bits = .clean) →
      (¬noPage → Answers (.suspectRead position count) s 0x10
        ⟨.ok, none, beBytes 2 s.screening.suspects.length ++ beBytes 1 page.length ++ page.flatMap fun y => suspectBytes y.val⟩ s)
      ∧ Answers (.suspectClear ser) s 0x11 ⟨.ok, none, [if ∃ y ∈ s.screening.suspects, y.val.serial = ser then 1 else 0]⟩
        { s with screening := { s.screening with suspects := s.screening.suspects.filter fun y => y.val.serial != ser } })

/-! ### Chapter 3: the fare -/

/-- The base of a walk is clamped, and the band, the concession and the step follow, each clamped to the max fare (R67 to R70). -/
def Obligations.StagesFourToSixPriceAPair : Prop :=
  ∀ (maxFare step : Nat) (w : Working),
    let base := if w.base < 0 then 0 else if 20000 < w.base then 20000 else w.base.toNat
    let banded := min maxFare ((base * w.factor + 500) / 1000)
    let conc := min maxFare (banded - banded * w.discount / 1000)
    pricedFare maxFare step w = min maxFare ((conc + step / 2) / step * step)

/-- A walk of the rule program: a limit not less than the rule count never overruns, an entry met with the count at the limit does; an entry
whose condition fails is counted and the rest of its chain is passed over; the action of a chain's last entry is applied (R63 to R66). -/
def Obligations.RuleWalkSkipsFailedChainsAndStopsAtItsLimit : Prop :=
  ∀ (f : PairFields) (limit count : Nat) (w : Working) (rules : List (Stored Rule)) (e : Rule),
    (count + rules.length ≤ limit → (walkRules f limit rules count false w).val.isSome = true)
    ∧ (walkRules f limit (⟨e, .clean⟩ :: rules) limit false w).val = none
    ∧ (count < limit → ¬(e.low ≤ f.value e.field ∧ f.value e.field ≤ e.high) →
      (∀ (chain : List Rule) (last : Rule), e.chain = true → (∀ x ∈ chain, x.chain = true) → last.chain = false →
        walkRules f limit (⟨e, .clean⟩ :: (chain.map Stored.fresh ++ ⟨last, .clean⟩ :: rules)) count false w
          = walkRules f limit rules (count + 1) false w)
      ∧ (e.chain = false → walkRules f limit (⟨e, .clean⟩ :: rules) count false w = walkRules f limit rules (count + 1) false w))
    ∧ (count < limit → e.low ≤ f.value e.field → f.value e.field ≤ e.high →
      (e.chain = true → walkRules f limit (⟨e, .clean⟩ :: rules) count false w = walkRules f limit rules (count + 1) false w)
      ∧ (e.chain = false → e.action = .stop → (walkRules f limit (⟨e, .clean⟩ :: rules) count false w).val = some w)
      ∧ (e.chain = false → e.action ≠ .stop → walkRules f limit (⟨e, .clean⟩ :: rules) count false w
        = walkRules f limit rules (count + 1) false (if e.action = .setBase then { w with base := e.value }
          else if e.action = .addBase then { w with base := w.base + e.value }
          else if e.action = .setFactor then { w with factor := e.value.toNat }
          else { w with discount := e.value.toNat })))

/-- A pair evaluation of an undamaged bank: a station with no zone costs the max fare; otherwise the day type and minute of the origin's
service day, the base fare of the two zones, the band with the greatest start not above the minute, and the discount of the class are the
starting values of the rule walk, an overrun walk falls back on them, and stages 4 to 6 price what it leaves (R56 to R62, R66). -/
def Obligations.PairEvaluationRunsItsStages : Prop :=
  ∀ (b : Bank) (here now cls station time : Nat), BankClean b →
    let start := b.headerVal 0 * 60
    let day := (time - start) / 86400
    let minute := (time - start) % 86400 / 60
    let dayType := if (day + 5) % 7 = 6 ∨ ∃ x ∈ b.holidays.take (b.headerVal 13), x.val = day then 2 else if (day + 5) % 7 = 5 then 1 else 0
    let origin := (zoneAt b station).val
    let destination := (zoneAt b here).val
    let result := b.evalPair here now cls station time
    result.tally = ⟨0, 0⟩
    ∧ ((origin = none ∨ destination = none) → result.val = ⟨b.headerVal 7, true, false⟩)
    ∧ ∀ (o d : Nat) (band : Band) (k : TariffClass), origin = some o → destination = some d →
      TakesBand b dayType minute band → b.classes[cls]? = some ⟨k, .clean⟩ →
      let fields : PairFields :=
        ⟨station, here, o, d, cls, dayType, minute, min 65535 ((now - time) / 60), if station = here then 1 else 0⟩
      let initial : Working := ⟨((b.baseFares[o * 16 + d]?).getD (Stored.fresh 0)).val, band.factor, k.discount⟩
      let walked := (walkRules fields (b.headerVal 9) (b.rules.take (b.headerVal 8)) 0 false initial).val
      result.val = ⟨pricedFare (b.headerVal 7) (b.headerVal 1) (walked.getD initial), false, walked.isNone⟩

/-- Every charge, of any bank and any card, lies within 0 and the max fare in the bank's header.  An exit fare prices the LEG pair, and the
JOURNEY pair when the journey began elsewhere, at the effective class; it is the smallest of its four candidates, an absent one 65,535, and
is named for the first that equals it, with the flags its pairs and the class set.  A normal entry costs nothing, and each penalty is its
zone's fare, at most the max fare, or the max fare for a station with no zone (R54, R61, R62, R71 to R77, R84).  That CLASS_EXPIRED is
set also when the pair ended at stage 1, its class unused, is log entry 21. -/
def Obligations.ChargesAreChosenAsTheManualGives : Prop :=
  ∀ (b : Bank) (here now today : Nat) (c : CardImage),
    let w := c.w
    let charge (exit : Bool) : Rd Charge := b.charge exit here now today c
    (∀ exit, (charge exit).val.amount ≤ b.headerVal 7)
    ∧ (w.trip = .inside →
      let expired := c.classExpiry ≠ 0 ∧ c.classExpiry < today
      let cls := if expired then 0 else c.cls
      let leg := (b.evalPair here now cls w.entryStation w.entryTime).val
      let elsewhere := w.journeyStation ≠ w.entryStation
      let journey := (b.evalPair here now cls w.journeyStation w.journeyTime).val
      let k := (b.readClass cls).val
      let daily := if w.accDay < today then 0 else w.daily
      let weekly := if w.accWeek < (today + 5) / 7 then 0 else w.weekly
      let candidates := [(leg.fare, FareReason.leg),
        (if elsewhere then journey.fare - w.journeyCharged else 65535, .journey),
        (if k.dailyCap = 0 then 65535 else k.dailyCap - daily, .dayCap),
        (if k.weeklyCap = 0 then 65535 else k.weeklyCap - weekly, .weekCap)]
      let x := (charge true).val
      (∀ y ∈ candidates, x.amount ≤ y.1) ∧ candidates.find? (fun y => y.1 == x.amount) = some (x.amount, x.reason)
      ∧ (x.unknownStation = true ↔ leg.unknownStation = true ∨ (elsewhere ∧ journey.unknownStation = true))
      ∧ (x.classExpired = true ↔ expired)
      ∧ (x.overrun = true ↔ leg.overrun = true ∨ (elsewhere ∧ journey.overrun = true)))
    ∧ (w.trip = .outside → (charge false).val = ⟨0, .none, false, false, false⟩)
    ∧ ∀ (exit : Bool) (station : Nat) (fares : List (Stored Nat)) (most : Nat),
      (exit = false ∧ w.trip = .inside ∧ station = w.entryStation ∧ fares = b.incompleteFares)
        ∨ (exit = true ∧ w.trip = .outside ∧ station = here ∧ fares = b.unrecordedFares) →
      b.header[7]? = some ⟨most, .clean⟩ → (zoneAt b station).bits = .clean →
      ((zoneAt b station).val = none → (charge exit).val = ⟨most, .penalty, true, false, false⟩)
      ∧ ∀ z f, (zoneAt b station).val = some z → fares[z]? = some ⟨f, .clean⟩ →
        (charge exit).val = ⟨min most f, .penalty, false, false, false⟩

/-- What a fare request is answered with for a bank with an undamaged header: a purse outside the bank's limits is refused,
INSUFFICIENT_FUNDS before LOW_BALANCE, and no limit is read past the check that refuses; otherwise the charge is answered with its flags and
the values of the written fields, the accumulators exactly as R80 gives, the exit and entry fields as R81 and R82 give (R55, R72, R78 to
R82, R84). Which limits are read, and when, is log entry 18. -/
def Obligations.FareAnswersWithinTheBanksLimits : Prop :=
  (∀ (b : Bank) (exit : Bool) (purse : Int),
    (purse < -((b.readHeader 4).val : Int) → (b.purseCheck exit purse).tally = (b.readHeader 4).tally)
    ∧ (¬purse < -((b.readHeader 4).val : Int) → ((b.readHeader 6).val : Int) < purse ∨ exit = true →
      (b.purseCheck exit purse).tally = ((b.readHeader 4).bind fun _ => b.readHeader 6).tally))
  ∧ ∀ (b : Bank) (exit : Bool) (here now : Nat) (c : CardImage), HeaderClean b →
    let today := (now - b.headerVal 0 * 60) / 86400
    let week := (today + 5) / 7
    let k := (b.charge exit here now today c).val
    let purse := c.w.purse - k.amount
    let inside := -(b.headerVal 4 : Int) ≤ purse ∧ purse ≤ b.headerVal 6
    let low := exit = false ∧ purse < (b.headerVal 5 : Int)
    let answer := (b.fare exit here now c).val
    answer.2 = k.overrun
    ∧ (¬inside → answer.1 = .refuse .insufficientFunds)
    ∧ (inside → low → answer.1 = .refuse .lowBalance)
    ∧ (inside → ¬low → ∃ flags v, answer.1 = .charge k.amount k.reason flags v
      ∧ flags.unknownStation = k.unknownStation ∧ flags.classExpired = k.classExpired ∧ flags.ruleOverrun = k.overrun
      ∧ (flags.clockBehind = true ↔ today < c.w.accDay ∨ week < c.w.accWeek)
      ∧ flags.denylistUnchecked = false ∧ flags.receiptBad = false
      ∧ v.status = c.w.status ∧ v.purse = purse
      ∧ v.daily = min 65535 ((if c.w.accDay < today then 0 else c.w.daily) + k.amount) ∧ v.accDay = max c.w.accDay today
      ∧ v.weekly = min 65535 ((if c.w.accWeek < week then 0 else c.w.weekly) + k.amount) ∧ v.accWeek = max c.w.accWeek week
      ∧ (exit = true → v.trip = .outside ∧ v.lastExitStation = here ∧ v.lastExitTime = now
        ∧ (v.lastExitPenalty = true ↔ k.reason = .penalty) ∧ v.journeyCharged = min 65535 (c.w.journeyCharged + k.amount)
        ∧ v.entryStation = c.w.entryStation ∧ v.entryTime = c.w.entryTime
        ∧ v.journeyStation = c.w.journeyStation ∧ v.journeyTime = c.w.journeyTime)
      ∧ (exit = false → v.trip = .inside ∧ v.entryStation = here ∧ v.entryTime = now
        ∧ v.lastExitStation = c.w.lastExitStation ∧ v.lastExitTime = c.w.lastExitTime ∧ v.lastExitPenalty = c.w.lastExitPenalty
        ∧ if c.w.trip = .outside ∧ c.w.lastExitStation ≠ 0 ∧ c.w.lastExitPenalty = false ∧ now - c.w.lastExitTime ≤ b.headerVal 2 * 60
            ∧ b.headerVal 2 ≠ 0 then
            v.journeyStation = c.w.journeyStation ∧ v.journeyTime = c.w.journeyTime ∧ v.journeyCharged = c.w.journeyCharged
          else v.journeyStation = here ∧ v.journeyTime = now ∧ v.journeyCharged = 0))

/-- The fare unit's answer ends the transaction with its refusal, or makes a DEBIT commit due with the charge, the reason, the values and
the flags; a walk that overran raises TARIFF_RULE_OVERRUN in either case.  What its reads found is counted and marks the bank first, so
that a charge worked out with an uncorrectable item ends NOT_AVAILABLE (R18, R53, R55, R66, R94, R95).  That the service state and the bank
are checked here, and again at the reservation, is log entry 15. -/
def Obligations.FareAnswerDecidesTheTransaction : Prop :=
  ∀ (s : State) (l : Lane) (kind : TxKind) (bank : AreaId) (c : CardImage), Awaits s l .fare kind bank c →
    let r := (s.tariff.area bank).bank.fare (decide (kind = .exit)) s.settings.station s.clock.time c
    let read := s.noteBank bank r.tally
    let after : State := if r.val.2 = true then read.raise .tariffRuleOverrun else read
    (r.tally = ⟨0, 0⟩ → read = s)
    ∧ (0 < r.tally.uncorrected → ¬BankUsable after bank)
    ∧ (∀ code, r.val.1 = .refuse code →
      exec (.fareRequest l) s = .next (after.endTap l code none (some c.w.purse)) ∧ (code = .insufficientFunds ∨ code = .lowBalance))
    ∧ ∀ amount reason flags v, r.val.1 = .charge amount reason flags v →
      let flagged : Tap := { s.tap l with flags := joinFlags (s.tap l).flags flags }
      (ServiceFits s l kind → BankUsable after bank →
        exec (.fareRequest l) s = .next (after.withTap l { flagged with
          stage := some .reservation
          work := some ⟨.debit, c.counter, v, amount, reason, (s.tariff.area bank).version, 0⟩ }))
      ∧ (¬(ServiceFits s l kind ∧ BankUsable after bank) →
        exec (.fareRequest l) s = .next ((after.withTap l flagged).endTap l .notAvailable none (some c.w.purse)))

/-! ### Chapter 4: tariff banks -/

/-- TARIFF BEGIN is refused as R87 gives, and otherwise clears the pending bank, gives it its version and puts it in LOADING; TARIFF WRITE
in LOADING writes every item at its index when all are in range, and nothing otherwise, and in another state is refused (R86 to R88). How a
rule's chain flag byte is read is log entry 17. -/
def Obligations.LoadingClearsThenWritesThePendingBank : Prop :=
  ∀ (s : State) (version : BitVec 16) (part : Byte) (start : BitVec 16) (items : List TariffItem), Serving s →
    let v := version.toNat
    let inUse := s.tariff.activeVersion = some v
    let taken := s.tariff.pending = .switching ∨ s.holders s.tariff.pendingId ≠ 0
    let request : Instr := .tariffWrite part start items
    (v = 0 → Answers (.tariffBegin version) s 0x07 ⟨.badRequest, none, []⟩ s)
    ∧ (v ≠ 0 → inUse → Answers (.tariffBegin version) s 0x07 ⟨.refused, some .versionInUse, []⟩ s)
    ∧ (v ≠ 0 → ¬inUse → taken → Answers (.tariffBegin version) s 0x07 ⟨.busy, none, []⟩ s)
    ∧ (v ≠ 0 → ¬inUse → ¬taken → Disarmed s .tariff → Answers (.tariffBegin version) s 0x07 ⟨.ok, none, []⟩
      { s with tariff := { s.tariff.setArea s.tariff.pendingId ⟨Bank.cleared, some v⟩ with
        pending := .loading, effective := none, validation := .none } })
    ∧ (items ≠ [] → s.tariff.pending ≠ .loading → Answers request s 0x08 ⟨.refused, some .wrongState, []⟩ s)
    ∧ (items ≠ [] → s.tariff.pending = .loading → 9 < part.toNat → Answers request s 0x08 ⟨.badRequest, none, []⟩ s)
    ∧ ∀ p : BankPart, bankPartOf part = some p → items ≠ [] → s.tariff.pending = .loading →
      let fits := start.toNat + items.length ≤ partSize p ∧ ∀ x ∈ items, itemOk p x = true
      (¬fits → Answers request s 0x08 ⟨.badRequest, none, []⟩ s)
      ∧ (fits → Disarmed s .tariff → ∃ b : Bank, Answers request s 0x08 ⟨.ok, none, []⟩ (s.withPendingBank b)
        ∧ ∀ q : BankPart, b.part q = if q = p then
            ((pendingBank s).part p).take start.toNat ++ items.map (fun x => ⟨written p x, .clean⟩)
              ++ ((pendingBank s).part p).drop (start.toNat + items.length)
          else (pendingBank s).part q)

/-- TARIFF CLOSE of an undamaged bank in LOADING applies the six checks in order: the first that fails makes it INVALID and names the
result, and a bank that passes all is READY; an uncorrectable item in use makes it INVALID with MEMORY_ERROR (R86, R89). Which items are in
use, and that a memory error decides over a failed check, are readings of log entry 25; that a reply names the validation results 0 to 7 is
one of log entry 17. -/
def Obligations.TariffCloseValidatesTheBank : Prop :=
  ∀ s : State, Serving s →
    (s.tariff.pending ≠ .loading → Answers .tariffClose s 0x09 ⟨.refused, some .wrongState, []⟩ s)
    ∧ (s.tariff.pending = .loading → (∀ x ∈ (pendingBank s).readThrough, x = .clean) →
      let b := pendingBank s
      ∃ v : Validation,
        (v = .headerRange ↔ ¬HeaderInRange b)
        ∧ (v = .step ↔ HeaderInRange b ∧ b.headerVal 1 ∉ [1, 2, 5, 10, 20, 50, 100])
        ∧ (v = .maxFare ↔ HeaderInRange b ∧ b.headerVal 1 ∈ [1, 2, 5, 10, 20, 50, 100] ∧ ¬FieldIn b 7 1 20000)
        ∧ (v = .ruleCount ↔ HeaderInRange b ∧ b.headerVal 1 ∈ [1, 2, 5, 10, 20, 50, 100] ∧ FieldIn b 7 1 20000
          ∧ ¬b.headerVal 8 ≤ 128)
        ∧ (v = .bands ↔ HeaderInRange b ∧ b.headerVal 1 ∈ [1, 2, 5, 10, 20, 50, 100] ∧ FieldIn b 7 1 20000
          ∧ b.headerVal 8 ≤ 128 ∧ ¬(BandsInOrder b 0 ∧ BandsInOrder b 1 ∧ BandsInOrder b 2))
        ∧ (v = .ruleChain ↔ HeaderInRange b ∧ b.headerVal 1 ∈ [1, 2, 5, 10, 20, 50, 100] ∧ FieldIn b 7 1 20000
          ∧ b.headerVal 8 ≤ 128 ∧ (BandsInOrder b 0 ∧ BandsInOrder b 1 ∧ BandsInOrder b 2) ∧ ¬LastRuleEndsChain b)
        ∧ v ≠ .memoryError
        ∧ Answers .tariffClose s 0x09 ⟨.ok, none, [if v = .none then 2 else 3, validationCode v]⟩
          { s with tariff := { s.tariff with pending := if v = .none then .ready else .invalid, validation := v } })
    ∧ (s.tariff.pending = .loading → .double ∈ (pendingBank s).readThrough →
      ∃ u, Answers .tariffClose s 0x09 ⟨.ok, none, [3, 7]⟩ u
        ∧ u = { s with
          ecc := u.ecc
          events := u.events
          tariff := { s.tariff with pending := .invalid, validation := .memoryError } }
        ∧ u.events.pending.getLsbD 1 = true)

/-- TARIFF ACTIVATE schedules a READY or SCHEDULED bank, which is SWITCHING at once when its time has come, and has completed its switchover
when no transaction holds the ACTIVE bank; otherwise it is refused (R90, R91, R93). The bank a switchover discards keeps its items out of
reach (log entry 33). -/
def Obligations.TariffActivateSchedulesOrSwitches : Prop :=
  ∀ (s : State) (time : BitVec 32), Serving s →
    (s.clock.timeSet = false → Answers (.tariffActivate time) s 0x0A ⟨.refused, some .timeNotSet, []⟩ s)
    ∧ (s.clock.timeSet = true → s.tariff.pending ≠ .ready → s.tariff.pending ≠ .scheduled →
      Answers (.tariffActivate time) s 0x0A ⟨.refused, some .wrongState, []⟩ s)
    ∧ (s.clock.timeSet = true → (s.tariff.pending = .ready ∨ s.tariff.pending = .scheduled) → HasRoom s →
      Answers (.tariffActivate time) s 0x0A
        ⟨.ok, none, [if s.clock.time < time.toNat then 4 else if s.holders s.tariff.active = 0 then 0 else 5]⟩
        (State.scheduledAt { s with tariff := { s.tariff with pending := .scheduled, effective := some time.toNat } } time.toNat))

/-- Every end of a transaction, whatever its result: the tap controller is done, the result counted and shown; the last transaction of the
ACTIVE bank completes a switchover that waits for it, and a DRAINING lane left with nothing becomes CLOSED (R23 to R25, R93, R138, R159,
R165). The statements of the commands that end one give the state it ends in. The bank a switchover discards keeps its items out of reach
(log entry 33). -/
def Obligations.EndOfTransactionReleasesBankAndLane : Prop :=
  ∀ (s : State) (l : Lane) (code : ResultCode) (charge : Option Nat) (purse : Option Int), DisplayClean s →
    let ended := s.done l code charge purse
    let releases := s.tariff.pending = .switching ∧ (s.tap l).bound = some s.tariff.active
      ∧ ∀ k, k ≠ l → (s.tap k).bound ≠ some s.tariff.active
    let empties := (s.gate l).service = .draining ∧ (s.gate l).credits = [] ∧ (s.gate l).passages = []
    let closed (u : State) : State :=
      (u.withGate l { u.gate l with service := .closed }).withInd l { u.ind l with service := .closed }
    (¬releases → ¬empties → s.endTap l code charge purse = ended)
    ∧ (¬releases → empties → s.endTap l code charge purse = closed ended)
    ∧ (releases → HasRoom s → ¬empties → s.endTap l code charge purse = ended.switched)
    ∧ (releases → HasRoom s → empties → s.endTap l code charge purse = closed ended.switched)

/-! ### Chapter 6: the trip journal -/

/-- A record that is not reserved is appended while held and outstanding reservations are below the limit of its class, raising
JOURNAL_HIGH when held becomes 1,536 and JOURNAL_FULL when it closes ordinary admission; otherwise it is dropped and counted lost, a
mandatory one with JOURNAL_FULL (R118, R123, R125, R126).  That a RECORD_APPEND may be given alone, and takes station time, is log entry 9. -/
def Obligations.RecordsAreAdmittedByTheirClass : Prop :=
  ∀ (s : State) (c : AdmissionClass) (r : JournalRecord), s.phase = .running →
    let taken := s.journal.held + s.journal.outstanding
    let limit := if c = .ordinary then 1984 else 2048
    let appended := s.withRecord r
    let high := if s.journal.held + 1 = 1536 then appended.raise .journalHigh else appended
    (taken < limit → Disarmed s .journal →
      exec (.recordAppend c r) s = .next (if taken = 1983 then high.raise .journalFull else high))
    ∧ (limit ≤ taken → c = .ordinary → exec (.recordAppend c r) s = .next
      { s with journal := { s.journal with lostOrdinary := min 65535 (s.journal.lostOrdinary + 1) } })
    ∧ (limit ≤ taken → c = .mandatory → exec (.recordAppend c r) s = .next
      (State.raise { s with journal := { s.journal with lostMandatory := min 65535 (s.journal.lostMandatory + 1) } } .journalFull))

/-- JOURNAL READ returns the records from a held sequence on, or from the oldest with started-at-oldest set when the sequence lies behind,
each under the sequence that its place gives it and a damaged one as a marker; it counts what its reads found and changes nothing else. The
body and each record are laid out as R200 gives: 57 bytes, each field at its offset with its presence bit, zeros where it is absent (R118,
R128, R131, R200). -/
def Obligations.JournalReadReturnsRecordsByTheirPlace : Prop :=
  (∀ (s : State) (start : BitVec 32) (count : Byte), Serving s →
    let bad := start = 0 ∨ count.toNat < 1 ∨ 8 < count.toNat
    let j := s.journal
    let oldest := seqBack j.nextSequence j.held
    let ends := if j.held = 0 then none else some (oldest, seqBack j.nextSequence 1)
    let body (atOldest : Bool) (first : Nat) (records : List (Stored JournalRecord)) : List Byte :=
      optionalNat 4 (ends.map fun x => x.1) ++ optionalNat 4 (ends.map fun x => x.2) ++ beBytes 2 j.held ++ beBytes 4 j.nextSequence
        ++ [boolByte atOldest] ++ beBytes 1 records.length
        ++ records.zipIdx.flatMap fun x =>
            if x.1.bits = .double then beBytes 4 (seqForward first x.2) ++ [0xFF, 0xFF] ++ List.replicate 51 0
            else recordBytes (seqForward first x.2) x.1.val
    let returns (atOldest : Bool) (first : Nat) (records : List (Stored JournalRecord)) : Prop :=
      Answers (.journalRead start count) s 0x13 ⟨.ok, none, body atOldest first records⟩
        (s.noteFindings .journal (countBits .single records) (countBits .double records))
    (bad → Answers (.journalRead start count) s 0x13 ⟨.badRequest, none, []⟩ s)
    ∧ (¬bad → j.held = 0 → returns false start.toNat [])
    ∧ (¬bad → j.held ≠ 0 → seqDistance oldest start.toNat < j.held →
      returns false start.toNat ((j.records.drop (seqDistance oldest start.toNat)).take count.toNat))
    ∧ (¬bad → j.held ≠ 0 → j.held ≤ seqDistance oldest start.toNat → seqDistance start.toNat oldest ≤ 2147483647 →
      returns true oldest (j.records.take count.toNat))
    ∧ (¬bad → j.held ≠ 0 → j.held ≤ seqDistance oldest start.toNat → 2147483647 < seqDistance start.toNat oldest →
      returns false start.toNat []))
  ∧ ∀ (sequence : Nat) (r : JournalRecord), sequence < 2 ^ 32 → RecordFits r →
    let bytes := recordBytes sequence r
    let field (offset size : Nat) : List Byte := (bytes.drop offset).take size
    let mask := ofBytes (field 6 3)
    bytes.length = 57 ∧ field 0 4 = beBytes 4 sequence ∧ field 4 1 = beBytes 1 (List.idxOf r.kind recordKinds + 1)
    ∧ field 5 1 = [match r.lane with | some l => BitVec.ofNat 8 l.val | none => 0xFF] ∧ field 9 4 = beBytes 4 r.time
    ∧ mask < 2 ^ 17
    ∧ ∀ bit offset size value, (recordFields r)[bit]? = some (offset, size, value) →
      mask.testBit bit = value.isSome ∧ field offset size = value.getD (List.replicate size 0)

/-- JOURNAL RELEASE frees the records up to a held sequence, or every one for a sequence ahead, which is CLAMPED, and none for one behind
or with none held; the next sequence and the reservations stay (R129). -/
def Obligations.JournalReleaseFreesTheOldestRecords : Prop :=
  ∀ (s : State) (upto : BitVec 32), Serving s →
    let j := s.journal
    let oldest := seqBack j.nextSequence j.held
    let freed (n : Nat) : State := { s with journal := { j with records := j.records.drop n, oldestPlace := (j.oldestPlace + n) % 2048 } }
    let replies (status : Status) (u : State) : Prop :=
      Answers (.journalRelease upto) s 0x14 ⟨status, none, beBytes 2 u.journal.held
        ++ optionalNat 4 (if u.journal.held = 0 then none else some (seqBack u.journal.nextSequence u.journal.held))⟩ u
    (upto = 0 → Answers (.journalRelease upto) s 0x14 ⟨.badRequest, none, []⟩ s)
    ∧ (upto ≠ 0 → j.held = 0 → replies .ok s)
    ∧ (upto ≠ 0 → j.held ≠ 0 → seqDistance oldest upto.toNat < j.held → replies .ok (freed (seqDistance oldest upto.toNat + 1)))
    ∧ (upto ≠ 0 → j.held ≠ 0 → j.held ≤ seqDistance oldest upto.toNat → seqDistance upto.toNat oldest ≤ 2147483647 → replies .ok s)
    ∧ (upto ≠ 0 → j.held ≠ 0 → j.held ≤ seqDistance oldest upto.toNat → 2147483647 < seqDistance upto.toNat oldest →
      replies .clamped (freed j.held))

/-! ### Chapter 7: lanes, passage and leaves -/

/-- LANE CONFIG makes its checks in order and then replaces the configuration with each timing clamped; a change of polarity takes each
beam's accepted state afresh; a lane at rest whose segments keep their occupancy changes in nothing else (R134, R135).  That a beam taken
afresh has its debounce timer stopped is log entry 22, and the layout of the reply is log entry 17. -/
def Obligations.LaneConfigReplacesTheConfigurationOfAClosedLane : Prop :=
  ∀ (s : State) (lane : Byte) (x : LaneSettings), Serving s →
    let bad := 1 < x.kind.toNat ∨ 1 < x.polarity.toNat ∨ 1000 < x.startDuty.toNat ∨ 1000 < x.runDuty.toNat ∨ 1000 < x.holdDuty.toNat
      ∨ 63 < x.mask.toNat
    let blind := x.mask &&& 3 = 3 ∨ x.mask &&& 12 = 12 ∨ x.mask &&& 48 = 48
    let c : LaneConfig :=
      { kind := some (if x.kind = 0 then .entry else .exit)
        creditLapse := max 2 (min 20 x.creditLapse.toNat)
        closeDelay := min 2000 x.closeDelay.toNat
        leafTravel := max 300 (min 3000 x.leafTravel.toNat)
        obstruction := max 10 (min 120 x.obstruction.toNat)
        debounce := max 5 (min 100 x.debounce.toNat)
        mask := x.mask.truncate 6
        polarity := if x.polarity = 0 then .activeHigh else .activeLow
        startDuty := x.startDuty.toNat
        runDuty := x.runDuty.toNat
        holdDuty := x.holdDuty.toNat
        startPhase := min 500 x.startPhase.toNat
        indicatorHold := max 500 (min 10000 x.indicatorHold.toNat) }
    let inRange := (2 ≤ x.creditLapse.toNat ∧ x.creditLapse.toNat ≤ 20) ∧ x.closeDelay.toNat ≤ 2000
      ∧ (300 ≤ x.leafTravel.toNat ∧ x.leafTravel.toNat ≤ 3000) ∧ (10 ≤ x.obstruction.toNat ∧ x.obstruction.toNat ≤ 120)
      ∧ (5 ≤ x.debounce.toNat ∧ x.debounce.toNat ≤ 100) ∧ x.startPhase.toNat ≤ 500
      ∧ (500 ≤ x.indicatorHold.toNat ∧ x.indicatorHold.toNat ≤ 10000)
    (3 < lane.toNat ∨ bad → Answers (.laneConfig lane x) s 0x05 ⟨.badRequest, none, []⟩ s)
    ∧ ∀ l : Lane, lane.toNat = l.val → ¬bad →
      let p := s.gate l
      let fresh (i : Input) : Input := ⟨i.high, i.high == decide (c.polarity = .activeHigh), none⟩
      let q : Passages := { p with
        config := c, configured := true, beams := if c.polarity = p.config.polarity then p.beams else p.beams.map fresh }
      let reply : Answer := ⟨if inRange then .ok else .clamped, none, configBytes c⟩
      (p.service ≠ .closed → Answers (.laneConfig lane x) s 0x05 ⟨.busy, none, []⟩ s)
      ∧ (p.service = .closed → blind → Answers (.laneConfig lane x) s 0x05 ⟨.refused, some .segmentBlind, []⟩ s)
      ∧ (p.service = .closed → ¬blind → p.credits = [] → p.passages = [] →
        (∃ u, Answers (.laneConfig lane x) s 0x05 reply u ∧ (u.gate l).config = c ∧ (u.gate l).configured = true
          ∧ (u.gate l).beams = q.beams
          ∧ u = { s with lanes := u.lanes, events := u.events, ecc := u.ecc } ∧ (∀ k, k ≠ l → u.lane k = s.lane k) ∧ u.tap l = s.tap l)
        ∧ (p.leaf.state = .closed → q.occ .leaves = p.occ .leaves → q.occ .exit = p.occ .exit →
          Answers (.laneConfig lane x) s 0x05 reply (s.withGate l q)))

/-- LANE SERVICE is refused as its table gives, changes nothing in a lane that has what is asked for, and otherwise puts the lane into the
state asked for with its credits and passages kept and its fault cause cleared: a lane asked out closes at once when nothing keeps it,
JAMMED leaves are commanded to close, or to open by HOLD_OPEN, and the leaf drive takes the change of demand; with both limits
asserted, leaves that are to move jam instead (R136 to R139, R152, R154, R156).  That JAMMED leaves of a lane with a free passage in progress
end in OPENING is log entry 24, and the hold duty of leaves that become OPEN at once is log entry 46. -/
def Obligations.LaneServiceFollowsItsTable : Prop :=
  ∀ (q : ServiceRequest) (s : State) (lane : Byte), Serving s →
    (3 < lane.toNat → Answers (q.command lane) s 0x06 ⟨.badRequest, none, []⟩ s)
    ∧ ∀ l : Lane, lane.toNat = l.val →
      let p := s.gate l
      let refusal := q.refusal p.service p.configured s.emergency.accepted
      let jams := p.bothLimits = true ∧ (p.leaf.state = .jammed ∨ (p.leafReact { p with service := q.asks, faultCause := none }).2 = true)
      (∀ r, refusal = some r → Answers (q.command lane) s 0x06 ⟨.refused, some r, []⟩ s)
      ∧ (refusal = none → q.idle p.service → Answers (q.command lane) s 0x06 ⟨.ok, none, []⟩ s)
      ∧ (refusal = none → ¬q.idle p.service → DisplayClean s → jams → HasRooms s p.credits.length →
        ∃ u, Answers (q.command lane) s 0x06 ⟨.ok, none, []⟩ u
          ∧ OnlyLane (State.raise (s.withRecords (cancelRecords l p.credits .fault)) (.laneFault l)) u l
          ∧ u.gate l = jammedGate p .bothLimits ∧ (u.ind l).service = .fault)
      ∧ (refusal = none → ¬q.idle p.service → DisplayClean s → ¬jams →
        let freed : Leaf := if p.leaf.state ≠ .jammed then p.leaf else if q = .holdOpen then openingLeaf p else closingLeaf p
        ∃ u, Answers (q.command lane) s 0x06 ⟨.ok, none, []⟩ u ∧ OnlyLane s u l
          ∧ ((Drained s l ∧ q = .out → (u.gate l).service = .closed) ∧ (¬(Drained s l ∧ q = .out) → (u.gate l).service = q.asks))
          ∧ (u.ind l).service = (u.gate l).service
          ∧ u.gate l = { reacted p { p with service := q.asks, faultCause := none, leaf := freed } with service := (u.gate l).service }
          ∧ (q = .holdOpen → (u.gate l).leaf.state = .opening ∨ (u.gate l).leaf.state = .opened)
          ∧ (q ≠ .holdOpen → p.leaf.state = .jammed → p.letIn = false → (u.gate l).leaf = closingLeaf p))

/-- A grant adds its credit at the end of the list, starting its passage at once when someone already stands in L alone, and opens closed
leaves; in FAULT the credit is cancelled at once with its record. A credit that has stayed UNSTARTED is removed with its record and counted,
the credits after it keeping their order, and the last one of a DRAINING lane closes it; one IN_USE does not lapse (R138, R142 to R144,
R146). The third clause is the model's choice (log entry 20): a grant that the manual says does not arise has no effect. That a lapse at a
position with no UNSTARTED credit does nothing is log entry 10, a CREDIT_GRANT given alone log entry 9, and the hold duty of leaves that
become OPEN at once log entry 46. -/
def Obligations.CreditsAreGrantedAndLapse : Prop :=
  ∀ (s : State) (l : Lane) (ser : Serial), s.phase = .running →
    let p := s.gate l
    let atOnce := p.occ .leaves = true ∧ p.passages = []
    let granted : Stats := { p.stats with grants := min 65535 (p.stats.grants + 1) }
    ((p.service = .inService ∨ p.service = .draining ∨ p.service = .heldOpen) → p.credits.length < 2 → LimitsAgree p →
      ∃ u, exec (.creditGrant l ser) s = .next u ∧ OnlyLane s u l ∧ u.ind l = s.ind l
        ∧ u.gate l = reacted p { p with
            credits := p.credits ++ [if atOnce then ⟨ser, true, none⟩ else ⟨ser, false, some p.config.creditLapse⟩]
            passages := if atOnce then [⟨some ser, false, false⟩] else p.passages
            stats := granted }
        ∧ (p.latch = false → p.leaf.state = .closed → (u.gate l).leaf = openingLeaf p))
    ∧ (p.service = .fault → p.credits = [] → HasRoom s →
      exec (.creditGrant l ser) s = .next (State.withGate
        (s.withRecord { JournalRecord.blank .creditCancelled (some l) with serial := some ser, detail := some (.named .fault) }) l
        { p with
          passages := [], latch := false, intrusionOpen := false
          stats := { granted with cancellations := min 65535 (p.stats.cancellations + 1) } }))
    ∧ ((2 ≤ p.credits.length ∨ p.service = .closed ∨ p.service = .emergencyOpen) → exec (.creditGrant l ser) s = .next s)
    ∧ (∀ (position : Fin 2) c, p.credits[position.val]? = some c → c.inUse = false → c.lapse.isSome = true → LimitsAgree p →
      DisplayClean s → HasRoom s → ∃ u, exec (.creditLapse l position) s = .next u
        ∧ OnlyLane (s.withRecord { JournalRecord.blank .creditLapsed (some l) with serial := some c.serial }) u l
        ∧ u.gate l = { reacted p { p with
            credits := p.credits.eraseIdx position.val
            stats := { p.stats with lapses := min 65535 (p.stats.lapses + 1) } } with
            service := if p.service = .draining ∧ p.credits.length = 1 ∧ p.passages = [] ∧ (s.tap l).phase ≠ .committing then .closed
              else p.service })
    ∧ (∀ position : Fin 2, (∀ c, p.credits[position.val]? = some c → c.inUse = true) → exec (.creditLapse l position) s = .next s)

/-- A change of an input's level starts its debounce timer, or stops it when the level changes back; a timer that does not run makes no
change of accepted state (R140, R157).  That a stopped timer's expiry does nothing is log entry 10; that an input keeps its level alone
while the part holds, has no supply or starts up, for start-up to sample (R196), is log entries 11 and 40. -/
def Obligations.LevelChangesRunTheDebounceTimer : Prop :=
  ∀ (s : State) (l : Lane) (b : Beam) (k : Limit) (high : Bool),
    let p := s.gate l
    let taken (i : Input) (time : Nat) : Input :=
      if s.phase ≠ .running then ⟨high, i.accepted, i.timer⟩
      else if i.high = high then i
      else ⟨high, i.accepted, if i.timer.isSome = true then none else some time⟩
    exec (.beamLevelChange l b high) s
        = .next (s.withGate l { p with beams := p.beams.set b (taken (p.beams.get b) p.config.debounce) })
    ∧ exec (.limitLevelChange l k high) s = .next (s.withGate l (if k = .openLimit
        then { p with openLimit := taken p.openLimit p.config.debounce }
        else { p with closedLimit := taken p.closedLimit p.config.debounce }))
    ∧ exec (.emergencyLevelChange high) s = .next { s with emergency := taken s.emergency 50 }
    ∧ ((p.beams.get b).timer = none → exec (.beamDebounceExpiry l b) s = .next s)
    ∧ ((p.limit k).timer = none → exec (.limitDebounceExpiry l k) s = .next s)

/-- The passage tracker at segments L and X: an L that becomes occupied starts the passage of the oldest UNSTARTED credit, or a free one in a
lane held open, or finds a tailgate behind the newest passage; an empty closed lane in service finds an intrusion; a beam change that
leaves segments L and X as they were is taken by the leaf drive and the draining test alone, and where these have nothing left to do it
changes the beam alone (R138, R140, R141, R146, R149, R150, R151). -/
def Obligations.OccupiedSegmentsStartPassagesAndFindIntruders : Prop :=
  ∀ (s : State) (l : Lane) (b : Beam), LimitsAgree (s.gate l) →
    let p := s.gate l
    let q := p.acceptBeam b
    let timed : Passages := { q with obstruction := some p.config.obstruction }
    (BeamTurns s l b .leaves true → p.passages.length < 2 →
      ((p.service = .inService ∨ p.service = .draining ∨ p.service = .heldOpen) →
        ∀ pre c post, p.credits = pre ++ c :: post → (∀ x ∈ pre, x.inUse = true) → c.inUse = false →
          ∃ u, exec (.beamDebounceExpiry l b) s = .next u ∧ OnlyLane s u l ∧ u.ind l = s.ind l
            ∧ u.gate l = reacted p { timed with
                credits := pre ++ { c with inUse := true, lapse := none } :: post
                passages := p.passages ++ [⟨some c.serial, false, false⟩] })
      ∧ ((p.service = .heldOpen ∨ p.service = .emergencyOpen) → (∀ x ∈ p.credits, x.inUse = true) →
        ∃ u, exec (.beamDebounceExpiry l b) s = .next u ∧ OnlyLane s u l ∧ u.ind l = s.ind l
          ∧ u.gate l = reacted p { timed with passages := p.passages ++ [⟨none, false, false⟩] }))
    ∧ (BeamTurns s l b .leaves true → (p.service = .inService ∨ p.service = .draining) → (∀ x ∈ p.credits, x.inUse = true) →
      ∀ ahead x, p.passages = ahead ++ [x] →
        (x.tailgate = false → HasRoom s →
          ∃ u, exec (.beamDebounceExpiry l b) s = .next u
            ∧ OnlyLane (State.raise (s.withRecord { JournalRecord.blank .tailgate (some l) with serial := x.credit }) (.tailgate l)) u l
            ∧ u.ind l = s.ind l
            ∧ u.gate l = reacted p { timed with passages := ahead ++ [{ x with tailgate := true }], latch := true })
        ∧ (x.tailgate = true → ∃ u, exec (.beamDebounceExpiry l b) s = .next u ∧ OnlyLane s u l ∧ u.ind l = s.ind l
          ∧ u.gate l = reacted p timed))
    ∧ ((p.service = .inService ∨ (p.service = .draining ∧ (s.tap l).phase = .committing)) → p.leaf.state = .closed → p.credits = [] →
      p.passages = [] → p.intrusionOpen = false → HasRoom s →
      let record (seg : DetailName) : State :=
        s.withRecord { JournalRecord.blank .intrusion (some l) with detail := some (.named seg) }
      (BeamTurns s l b .leaves true → exec (.beamDebounceExpiry l b) s
        = .next (State.raise ((record .segmentL).withGate l { timed with intrusionOpen := true }) (.intrusion l)))
      ∧ (BeamTurns s l b .exit true → exec (.beamDebounceExpiry l b) s
        = .next (State.raise ((record .segmentX).withGate l { q with intrusionOpen := true }) (.intrusion l))))
    ∧ (s.phase = .running → (p.beams.get b).timer.isSome = true →
      (segmentOf b = .approach ∨ q.occ (segmentOf b) = p.occ (segmentOf b)) →
      (DisplayClean s → ∃ u, exec (.beamDebounceExpiry l b) s = .next u ∧ OnlyLane s u l
        ∧ u.gate l = { reacted p q with
            service := if p.service = .draining ∧ p.credits = [] ∧ p.passages = [] ∧ (s.tap l).phase ≠ .committing then .closed
              else p.service })
      ∧ (LeavesAtRest p → ¬(p.service = .draining ∧ Drained s l) → exec (.beamDebounceExpiry l b) s = .next (s.withGate l q)))

/-- The passage tracker at segments L and X: a person seen to reach X marks the oldest unmarked passage, and with L and X both clear every
passage settles: a marked one completes, an unmarked one backs out, the tailgate latch and the intrusion episode end, and a DRAINING lane
left with nothing closes (R138, R147, R148, R150, R151).  Passages settle oldest first, each on the credits that the one before it left.
That the latch which the settling clears still closes the leaves at once is log entry 23. -/
def Obligations.ClearSegmentsMarkAndSettlePassages : Prop :=
  ∀ (s : State) (l : Lane) (b : Beam), LimitsAgree (s.gate l) → DisplayClean s →
    let p := s.gate l
    let q := p.acceptBeam b
    let lClears := BeamTurns s l b .leaves false
    let ended (x : Passages) : Passages :=
      if segmentOf b = .leaves then { x with obstruction := none, obstructionReported := false } else x
    (BeamTurns s l b .exit true ∨ (lClears ∧ p.occ .exit = true) →
      ∀ pre x post, p.passages = pre ++ x :: post → (∀ y ∈ pre, y.marked = true) → x.marked = false →
        ∃ u, exec (.beamDebounceExpiry l b) s = .next u ∧ OnlyLane s u l
          ∧ u.gate l = reacted p { ended q with passages := pre ++ { x with marked := true } :: post })
    ∧ (BeamTurns s l b .exit false ∧ p.occ .leaves = false ∨ (lClears ∧ p.occ .exit = false) →
      (∃ u, exec (.beamDebounceExpiry l b) s = .next u ∧ OnlyLane s u l
        ∧ (u.gate l).passages = [] ∧ (u.gate l).latch = false ∧ (u.gate l).intrusionOpen = false)
      ∧ ∀ cs st, SettlesAll p p.passages cs st →
        ∃ u, exec (.beamDebounceExpiry l b) s = .next u ∧ OnlyLane s u l
          ∧ u.gate l = { reacted p { ended q with
              credits := cs, passages := [], latch := false, intrusionOpen := false, stats := st } with
              service := if p.service = .draining ∧ cs = [] ∧ (s.tap l).phase ≠ .committing then .closed else p.service })

/-- What the leaf drive does with a change of the open demand, of segment L or of the service state, `b` before it and `p` after, the limits not
both asserted.  CLOSED leaves open on demand; OPENING leaves stop where they stand when the demand ends; OPEN leaves found short of the
limit on demand open again; the close delay starts with the close condition and stops with it, and a tailgate latch or a delay of 0 closes
at once; CLOSING leaves open on demand, reverse for someone let in, pause for anyone else in L, and resume when L clears; JAMMED leaves
stand.  The drive output is that of the leaf state, at the duties the latest movement started with (R135, R149, R152 to R155).  That the
latch before the change counts too is log entry 23, the hold duty of leaves that become OPEN at once is log entry 46, and that a
paused close resumes at the timeout and the duties then in force is log entry 48. -/
def Obligations.LeavesReactToDemandAndSegment : Prop :=
  ∀ b p : Passages, LimitsAgree p →
    let r := b.leafReact p
    let latched := p.latch || b.latch
    let duty := if p.leaf.startPhase = none then p.leaf.moveRun else p.leaf.moveStart
    r = (reacted b p, false)
    ∧ (p.leaf.state = .closed → r.1.leaf = (if p.demand = true then openingLeaf p else p.leaf) ∧ p.drive = .off)
    ∧ (p.leaf.state = .opening →
      r.1.leaf = closeChecked latched p (if b.demand = true ∧ p.demand = false then stoppedLeaf p else p.leaf) ∧ p.drive = .openAt duty)
    ∧ (p.leaf.state = .opened →
      r.1.leaf = (if p.demand = true ∧ p.openLimit.accepted = false then movingLeaf p .opening else closeChecked latched p p.leaf)
      ∧ p.drive = if p.demand = true ∧ p.openLimit.accepted = true then .openAt p.leaf.moveHold else .off)
    ∧ (p.leaf.state = .closing →
      r.1.leaf = (if p.demand = true then openingLeaf p
        else if p.occ .leaves = true ∧ b.occ .leaves = false then (if p.letIn = true then openingLeaf p else pausedLeaf p)
        else if p.occ .leaves = false ∧ p.leaf.paused = true then movingLeaf p .closing
        else p.leaf)
      ∧ p.drive = if p.leaf.paused = true then .off else .closeAt duty)
    ∧ (p.leaf.state = .jammed → r.1.leaf = p.leaf ∧ p.drive = .off)

/-- The leaf timers and limits: the close delay ends in a close, which a closed limit or an occupied L shortens; the start phase ends; a
movement ends at its limit; leaves that reach open with no demand close as soon as the close condition allows; a travel timeout or both
limits jam the leaves, which puts a lane in FAULT with its credits cancelled and leaves an EMERGENCY_OPEN lane in its state; an obstruction
is reported (R144, R151, R153 to R156). That a stopped timer's expiry does nothing is log entry 10. -/
def Obligations.LeafTimersAndLimitsMoveTheLeaves : Prop :=
  ∀ (s : State) (l : Lane), s.phase = .running → DisplayClean s →
    let p := s.gate l
    (p.leaf.closeDelay.isSome = true → LimitsAgree p →
      exec (.closeDelayExpiry l) s = .next (s.withGate l { p with leaf := closingLeaf p }))
    ∧ (p.leaf.closeDelay = none → exec (.closeDelayExpiry l) s = .next s)
    ∧ exec (.startPhaseExpiry l) s = .next (s.withGate l { p with leaf := { p.leaf with startPhase := none } })
    ∧ (p.leaf.travel = none → exec (.leafTravelTimeout l) s = .next s)
    ∧ (∀ cause, (p.leaf.state = .opening ∧ cause = .jamOpening) ∨ (p.leaf.state = .closing ∧ cause = .jamClosing) →
      p.leaf.travel.isSome = true →
      (p.service ≠ .emergencyOpen → HasRooms s p.credits.length → exec (.leafTravelTimeout l) s = .next (s.jammed l p cause))
      ∧ (p.service = .emergencyOpen → exec (.leafTravelTimeout l) s
        = .next (State.raise (s.withGate l { p with faultCause := some cause, leaf := restingLeaf p .jammed }) (.laneFault l))))
    ∧ (∀ k : Limit, (p.limit k).timer.isSome = true →
      let q : Passages := p.modLimit k fun i => ⟨i.high, !i.high, none⟩
      (q.bothLimits = true → p.service ≠ .emergencyOpen → HasRooms s p.credits.length →
        exec (.limitDebounceExpiry l k) s = .next (s.jammed l q .bothLimits))
      ∧ (q.bothLimits = true → p.service = .emergencyOpen → exec (.limitDebounceExpiry l k) s
        = .next (State.raise (s.withGate l { q with faultCause := some .bothLimits, leaf := restingLeaf p .jammed }) (.laneFault l)))
      ∧ (q.bothLimits = false → p.leaf.state = .opening → k = .openLimit → q.openLimit.accepted = true → p.demand = false →
        exec (.limitDebounceExpiry l k) s = .next (s.withGate l { q with leaf := closeChecked p.latch q (stoppedLeaf p) }))
      ∧ (q.bothLimits = false → (p.leaf.state = .jammed ∨ (p.leaf.state = .opened ∧ p.demand = false)
          ∨ (p.leaf.state = .closed ∧ p.demand = true) ∨ (q.limit k).accepted = decide (p.leaf.state = .closed ∨ p.leaf.state = .opened)
          ∨ (k = .openLimit ∧ (p.leaf.state = .closed ∨ p.leaf.state = .closing))
          ∨ (k = .closedLimit ∧ (p.leaf.state = .opened ∨ p.leaf.state = .opening))) →
        exec (.limitDebounceExpiry l k) s = .next (s.withGate l q))
      ∧ (q.bothLimits = false → p.leaf.state = .opening → k = .openLimit → q.openLimit.accepted = true → p.demand = true →
        exec (.limitDebounceExpiry l k) s = .next (s.withGate l { q with leaf := restingLeaf p .opened }))
      ∧ (q.bothLimits = false → p.leaf.state = .closing → k = .closedLimit → q.closedLimit.accepted = true →
        exec (.limitDebounceExpiry l k) s = .next (s.withGate l { q with leaf := restingLeaf p .closed }))
      ∧ (q.bothLimits = false → p.leaf.state = .opened → k = .openLimit → q.openLimit.accepted = false → p.demand = true →
        exec (.limitDebounceExpiry l k) s = .next (s.withGate l { q with leaf := movingLeaf p .opening }))
      ∧ (q.bothLimits = false → p.leaf.state = .closed → k = .closedLimit → q.closedLimit.accepted = false → p.demand = false →
        exec (.limitDebounceExpiry l k) s = .next (s.withGate l { q with leaf := closingLeaf q })))
    ∧ (p.obstruction.isSome = true → exec (.obstructionTimerExpiry l) s = .next (State.raise
      ((s.withGate l { p with obstruction := none, obstructionReported := true }).withInd l
        (endedHold s.display { s.ind l with obstructed := true })) (.obstruction l)))
    ∧ (p.obstruction = none → exec (.obstructionTimerExpiry l) s = .next s)

/-- An assertion of the EMERGENCY line opens every lane, cancelling its credits with their records and ending with TAP_AGAIN each
transaction that is not an EMERGENCY one and has not sent its COMMIT; a release changes nothing but the line and the event; the line's
present state again changes nothing (R17, R144, R157, R158). That the event acts on the accepted state whatever the level and the timer, and
sets both, is log entry 13; the lane order of the CREDIT_CANCELLED records, and TAP_AGAIN shown over the EMERGENCY frame, are log entry 14,
and the hold duty of leaves that become OPEN at once is log entry 46. A lane whose leaves are to open while both limits are asserted jams
and stays EMERGENCY_OPEN (R156), and a switchover that waits for transactions which all end here completes when the last of them does (R93;
the bank it discards keeps its items out of reach, log entry 33). -/
def Obligations.EmergencyOpensEveryLane : Prop :=
  ∀ s : State, s.phase = .running →
    let ends (l : Lane) : Prop := ((s.tap l).phase = .identifying ∨ (s.tap l).phase = .authenticating ∨ (s.tap l).phase = .reading
      ∨ (s.tap l).phase = .evaluating) ∧ (s.tap l).kind ≠ some .emergency
    let holds (l : Lane) : Prop := (s.tap l).bound = some s.tariff.active
    let switches := s.tariff.pending = .switching ∧ (∃ l, holds l) ∧ ∀ l, holds l → ends l
    let last (l : Lane) : Prop := holds l ∧ ∀ k, l < k → ¬holds k
    let stays (p : Passages) : Prop := p.leaf.state = .opening ∨ (p.leaf.state = .opened ∧ p.openLimit.accepted = true)
    let jams (p : Passages) : Prop := ¬stays p ∧ p.bothLimits = true
    let records := allLanes.flatMap fun l =>
      cancelRecords l (s.gate l).credits .emergency ++ if switches ∧ last l then [s.tariff.switchRecord] else []
    (s.emergency.accepted = false → DisplayClean s → HasRooms s records.length →
      (∀ l, ends l → s.journal.reservations.get l = none) →
      let asserted : State := State.raise { s with emergency := ⟨true, true, none⟩ } .emergency
      let faulted : State := (allLanes.filter fun l => jams (s.gate l)).foldl (fun u l => u.raise (.laneFault l)) asserted
      let opened : State := faulted.withRecords records
      ∃ u, exec .emergencyAssert s = .next u
        ∧ { u with lanes := s.lanes }
          = (if switches then State.raise { opened with tariff := s.switched.tariff } .tariffSwitched else opened)
        ∧ ∀ l,
          let p := s.gate l
          let stats := p.stats.cancelled p.credits.length
          let opened : Passages :=
            { p with
              service := .emergencyOpen, faultCause := if jams p then some .bothLimits else none
              credits := [], passages := [], latch := false, intrusionOpen := false
              stats := stats
              leaf := if stays p then { p.leaf with closeDelay := none }
                else if p.bothLimits = true then restingLeaf p .jammed else openingLeaf p }
          let shown := endedHold s.display { s.ind l with service := .emergencyOpen }
          (¬ends l → u.lane l = ⟨s.tap l, opened, shown⟩)
          ∧ (ends l → u.lane l = laneDone s.display ⟨s.tap l, opened, shown⟩ .tapAgain none (purseRead s l)))
    ∧ (s.emergency.accepted = true → exec .emergencyAssert s = .next s)
    ∧ (s.emergency.accepted = true → exec .emergencyReleaseLine s
      = .next (State.raise { s with emergency := ⟨false, false, none⟩ } .emergency))
    ∧ (s.emergency.accepted = false → exec .emergencyReleaseLine s = .next s)

/-! ### Chapter 8: lane indicators -/

/-- A result takes the display at once with a fresh hold; EMERGENCY_OPEN, FAULT and an obstruction end a held result, any other change of
service state and the end of an obstruction wait for it; the hold's end shows what stands; a send that completes starts the pending one; a
result whose map entry is uncorrectable shows a blank frame (R164 to R167, R169, R170).  A composed frame is its template with the glyphs of
its fields filled, and no colour changed: with spaces where the held result carries no such value, else with the value as digits, a point
and two digits, a minus sign in front of a negative one, set to the right over spaces, or with the overflow mark in every cell when it is
longer than the field (R167, R168).  That a hold timer which does not run and a link with no send under way take no expiry and no completion
is log entry 10; that an INDICATOR_STATE_CHANGE may be given alone is log entry 9. -/
def Obligations.IndicatorShowsResultsThenStates : Prop :=
  (∀ (i : Indicator) (t : Template), TemplateSound t →
    let f := composeFrame i t
    f.length = 32 ∧ f.map (·.colour) = t.cells.map (·.colour)
    ∧ (∀ n, (∀ x ∈ t.slots, n ∉ fieldCells x) → f[n]? = t.cells[n]?)
    ∧ ∀ x ∈ t.slots,
      let holds (text : List Nat) : Prop := (fieldCells x).map (fun n => f[n]?.map (·.glyph)) = text.map some
      (shownValue i x.kind = none → holds (List.replicate x.width 0x20))
      ∧ ∀ v, shownValue i x.kind = some v → ∃ digits, Decimal digits (v.natAbs / 100) ∧
        let text := (if v < 0 then [0x2D] else []) ++ digits.map (0x30 + ·)
          ++ [0x2E, 0x30 + v.natAbs / 10 % 10, 0x30 + v.natAbs % 10]
        holds (if text.length ≤ x.width then List.replicate (x.width - text.length) 0x20 ++ text else List.replicate x.width 0x23))
  ∧ ∀ (s : State) (l : Lane), s.phase = .running →
    let i := s.ind l
    let waits := i.held.isSome = true
    (DisplayClean s →
      (∀ code charge purse, exec (.indicatorResult l code charge purse) s = .next (s.withInd l (refreshed s.display
        { i with held := some ⟨code, charge, purse⟩, holdTimer := some (s.gate l).config.indicatorHold })))
      ∧ (∀ v : Service,
        ((v = .emergencyOpen ∨ v = .fault) →
          exec (.indicatorStateChange l v) s = .next (s.withInd l (endedHold s.display { i with service := v })))
        ∧ (v ≠ .emergencyOpen → v ≠ .fault → (waits ∨ i.obstructed = true) →
          exec (.indicatorStateChange l v) s = .next (s.withInd l { i with service := v }))
        ∧ (v ≠ .emergencyOpen → v ≠ .fault → ¬(waits ∨ i.obstructed = true) →
          exec (.indicatorStateChange l v) s = .next (s.withInd l (refreshed s.display { i with service := v }))))
      ∧ exec (.indicatorObstruction l true) s = .next (s.withInd l (endedHold s.display { i with obstructed := true }))
      ∧ (waits → exec (.indicatorObstruction l false) s = .next (s.withInd l { i with obstructed := false }))
      ∧ (¬waits → exec (.indicatorObstruction l false) s = .next (s.withInd l (refreshed s.display { i with obstructed := false })))
      ∧ (i.holdTimer.isSome = true → exec (.indicatorHoldExpiry l) s = .next (s.withInd l (endedHold s.display i))))
    ∧ (∀ code charge purse, (s.display.entry (.result code)).bits = .double →
      let taken : Indicator := { i with held := some ⟨code, charge, purse⟩, holdTimer := some (s.gate l).config.indicatorHold }
      exec (.indicatorResult l code charge purse) s
        = .next ((s.struck .templates).withInd l { taken.handFrame DispCell.blankFrame with shown := .result code }))
    ∧ (i.holdTimer = none → exec (.indicatorHoldExpiry l) s = .next s)
    ∧ (i.sending = none → exec (.displaySendComplete l) s = .next s)
    ∧ (i.sending.isSome = true → i.resend = false → exec (.displaySendComplete l) s = .next (s.withInd l { i with sending := none }))
    ∧ (i.sending.isSome = true → i.resend = true →
      exec (.displaySendComplete l) s = .next (s.withInd l { i with sending := some i.frame, resend := false }))

/-- TEMPLATE WRITE and RESULT MAP are checked whole before anything is written; each lane that shows what was written composes its frame anew
(R162, R163, R169); that a key mapped again to its own template is one that was written is log entry 27. -/
def Obligations.TemplatesAndMapAreReplacedWhole : Prop :=
  ∀ (s : State) (number : Byte) (cells : List RawCell) (slots : List RawSlot) (items : List (Byte × Byte)), Serving s →
    let share (x y : RawSlot) : Prop := x.line = y.line ∧ ∃ n : Nat, x.rightEnd.toNat + 1 - x.width.toNat ≤ n ∧ n ≤ x.rightEnd.toNat
      ∧ y.rightEnd.toNat + 1 - y.width.toNat ≤ n ∧ n ≤ y.rightEnd.toNat
    let slotGood (x : RawSlot) : Prop := x.kind.toNat ≤ 1 ∧ x.line.toNat ≤ 1 ∧ x.rightEnd.toNat ≤ 15 ∧ 1 ≤ x.width.toNat
      ∧ x.width.toNat ≤ 10 ∧ x.width.toNat ≤ x.rightEnd.toNat + 1
    let good := number.toNat ≤ 47 ∧ cells.length = 32 ∧ (∀ c ∈ cells, c.glyph.toNat ≤ 127 ∧ c.colour.toNat ≤ 7)
      ∧ slots.length ≤ 2 ∧ (∀ x ∈ slots, slotGood x) ∧ slots.Pairwise fun x y => ¬share x y
    let itemsGood := 1 ≤ items.length ∧ items.length ≤ 27 ∧ ∀ x ∈ items, x.1.toNat ≤ 26 ∧ x.2.toNat ≤ 47
    let redrawn (d : Display) (which : Indicator → Prop) (u : State) : Prop := u = { s with display := d, lanes := u.lanes }
      ∧ ∀ l, (which (s.ind l) → u.lane l = { s.lane l with ind := refreshed d (s.ind l) }) ∧ (¬which (s.ind l) → u.lane l = s.lane l)
    (¬good → Answers (.templateWrite number cells slots) s 0x18 ⟨.badRequest, none, []⟩ s)
    ∧ (good → DisplayClean s → Disarmed s .templates →
      let written : Template := ⟨cells.map fun c => ⟨c.glyph.toNat, c.colour.toNat⟩,
        slots.map fun x => ⟨if x.kind = 0 then .fare else .balance, x.line.toNat, x.rightEnd.toNat, x.width.toNat⟩⟩
      let d : Display := { s.display with templates := s.display.templates.set number.toNat ⟨written, .clean⟩ }
      ∃ u, Answers (.templateWrite number cells slots) s 0x18 ⟨.ok, none, []⟩ u
        ∧ redrawn d (fun i => (d.entry i.key).val = number.toNat) u)
    ∧ (¬itemsGood → Answers (.resultMap items) s 0x19 ⟨.badRequest, none, []⟩ s)
    ∧ (itemsGood → DisplayClean s → Disarmed s .templates →
      let d : Display :=
        { s.display with map := items.foldl (fun m x => m.set x.1.toNat ⟨x.2.toNat, .clean⟩) s.display.map }
      ∃ u, Answers (.resultMap items) s 0x19 ⟨.ok, none, []⟩ u
        ∧ redrawn d (fun i => ∃ x ∈ items, x.1.toNat = keyIndex i.key) u)

/-! ### Chapters 9 and 10: memory checking, events, settings, status -/

/-- EVENTS PEEK and TAKE list the pending flags in priority order, TAKE clears them, ENABLE replaces all 29 enables; ATN stands exactly
while a flag is pending and enabled; ECC COUNTS replies with the counters before CLEAR sets them to 0 and keeps the injections; ECC INJECT
arms one injection of a memory, and an armed one is applied to the next item written to its memory and spent: to a record, a sighting, a
denylist entry, the first item that TARIFF BEGIN clears, a map entry (R174, R177, R178, R189, R190). That bits 29 to 31 of the enables are
ignored, and how an event is named in a reply, are readings of log entry 17; a CARD_UPDATE and a RECORD_APPEND given alone are log entry 9.
-/
def Obligations.EventsCountersAndInjectionsAreServed : Prop :=
  ∀ (s : State) (flags : BitVec 32) (clear memory kind : Byte), Serving s →
    let listed := (List.range 29).filter fun n => s.events.pending.getLsbD n
    let list : List Byte := beBytes 1 listed.length ++ listed.flatMap eventName
    let zeroed (u : MemoryUnit) : MemoryUnit := ⟨0, 0, u.armed⟩
    let arms (e : Ecc) : List Byte := [e.journal, e.sighting, e.lists, e.tariff, e.templates].map fun u =>
      if u.armed = none then 0 else if u.armed = some .single then 1 else 2
    let counts : List Byte := [s.ecc.journal, s.ecc.sighting, s.ecc.lists, s.ecc.tariff, s.ecc.templates].flatMap fun u =>
      beBytes 2 u.corrected ++ beBytes 1 u.uncorrected
    Answers .eventsPeek s 0x15 ⟨.ok, none, list⟩ s
    ∧ Answers .eventsTake s 0x16 ⟨.ok, none, list⟩ { s with events := { s.events with pending := 0 } }
    ∧ Answers (.eventsEnable flags) s 0x17 ⟨.ok, none, beBytes 4 (flags.toNat % 2 ^ 29)⟩
      { s with events := { s.events with enabled := BitVec.ofNat 29 flags.toNat } }
    ∧ (s.atn = true ↔ ∃ n < 29, s.events.pending.getLsbD n = true ∧ s.events.enabled.getLsbD n = true)
    ∧ (clear = 0 → Answers (.eccCounts clear) s 0x1A ⟨.ok, none, counts ++ arms s.ecc⟩ s)
    ∧ (clear = 1 → Answers (.eccCounts clear) s 0x1A ⟨.ok, none, counts ++ arms s.ecc⟩ { s with ecc :=
        ⟨zeroed s.ecc.journal, zeroed s.ecc.sighting, zeroed s.ecc.lists, zeroed s.ecc.tariff, zeroed s.ecc.templates⟩ })
    ∧ (1 < clear.toNat → Answers (.eccCounts clear) s 0x1A ⟨.badRequest, none, []⟩ s)
    ∧ (4 < memory.toNat ∨ 1 < kind.toNat → Answers (.eccInject memory kind) s 0x1B ⟨.badRequest, none, []⟩ s)
    ∧ (∀ (m : Memory) (j : Injection), memoryOf memory = some m → kind.toNat = (if j = .single then 0 else 1) →
      ∃ e : Ecc, Answers (.eccInject memory kind) s 0x1B ⟨.ok, none, arms e⟩ { s with ecc := e }
        ∧ ∀ n : Memory, e.get n = if n = m then { s.ecc.get n with armed := some j } else s.ecc.get n)
    ∧ ∀ (m : Memory) (j : Injection), (s.ecc.get m).armed = some j →
      let struck : Integrity := if j = .single then .single else .double
      (∀ (α : Type) (x : α), s.store m x = (⟨x, struck⟩, s.spent m))
      ∧ (m = .journal → ∀ (c : AdmissionClass) (r : JournalRecord), s.journal.held + s.journal.outstanding + 1 < 1984 →
        s.journal.held + 1 ≠ 1536 → exec (.recordAppend c r) s = .next { s.spent .journal with journal := { s.journal with
          records := s.journal.records ++ [⟨{ r with time := s.clock.time }, struck⟩]
          nextSequence := seqForward s.journal.nextSequence 1 } })
      ∧ (m = .sighting → ∀ l ser (counter : BitVec 24) purse trip, s.screening.sightings.length < 16384 →
        (∀ x ∈ s.screening.sightings, x.val.serial ≠ ser) →
        exec (.cardUpdate l ser counter purse trip) s = .next { s.spent .sighting with screening := { s.screening with
          sightings := s.screening.sightings ++ [⟨updateOf s l ser counter.toNat purse trip, struck⟩] } })
      ∧ (m = .lists → ∀ (x : DenyItem) (e : DenyEntry), x.serial ≠ 0 → x.action.toNat ≤ 1 → s.screening.denyValid = true →
        s.screening.denylist.find? (fun y => y.val.serial == x.serial) = some ⟨e, .clean⟩ →
        Answers (.denyAdd [x]) s 0x0D ⟨.ok, none, [0, 1, 0, 0]⟩ { s.spent .lists with screening := { s.screening with
          denylist := s.screening.denylist.map fun y => if y.val.serial = x.serial
            then ⟨⟨x.serial, if x.action = 0 then .refuse else .lock, x.reason.toNat⟩, struck⟩ else y } })
      ∧ (m = .tariff → ∀ version : BitVec 16, version ≠ 0 → s.tariff.activeVersion ≠ some version.toNat → s.tariff.pending ≠ .switching →
        s.holders s.tariff.pendingId = 0 → Answers (.tariffBegin version) s 0x07 ⟨.ok, none, []⟩
          { s.spent .tariff with tariff := { s.tariff.setArea s.tariff.pendingId
              ⟨{ Bank.cleared with header := ⟨0, struck⟩ :: List.replicate 13 ⟨0, .clean⟩ }, some version.toNat⟩ with
            pending := .loading, effective := none, validation := .none } })
      ∧ (m = .templates → ∀ key number : Byte, key.toNat ≤ 26 → number.toNat ≤ 47 → (∀ l, keyIndex (s.ind l).key ≠ key.toNat) →
        Answers (.resultMap [(key, number)]) s 0x19 ⟨.ok, none, []⟩
          { s.spent .templates with display := { s.display with map := s.display.map.set key.toNat ⟨number.toNat, struck⟩ } })

/-- STATUS GET, TIME GET and TARIFF STATUS reply with what their blocks hold and change nothing; a LANE status carries the readiness reason of
the first condition of R9 that fails; STATUS GET of another selector or lane is refused (R9, R97, R116, R132, R160, R164, R183, R187).
The time left on a running timer is a free value that is at most its start (log entry 7), a damaged station entry reads as NO_TARIFF (log
entry 44), and the encodings that R198 does not spell out are those of log entry 17. -/
def Obligations.ReportingRequestsChangeNothing : Prop :=
  ∀ (s : State) (selector lane : Byte), Serving s →
    let status (body : List Byte) (u : State) : Prop := Answers (.statusGet selector lane) s 0x01 ⟨.ok, none, body⟩ u
    (3 < selector.toNat ∨ (selector = 3 ∧ 3 < lane.toNat) →
      Answers (.statusGet selector lane) s 0x01 ⟨.badRequest, none, []⟩ s)
    ∧ (∀ cause result, selector = 0 → s.report = some (cause, result) → status (partReport s cause result) s)
    ∧ (selector = 1 → status (screeningReport s) s)
    ∧ (selector = 2 → status (journalReport s.journal) s)
    ∧ (∀ l : Lane, selector = 3 → lane.toNat = l.val →
      status (tapReport s l ++ passageReport s l ++ indicatorReport s l)
        { s with draws := s.draws + (s.gate l).credits.length + 1 })
    ∧ Answers .timeGet s 0x03 ⟨.ok, none, beBytes 4 s.clock.time ++ [if s.clock.timeSet = true then 1 else 0]⟩ s
    ∧ Answers .tariffStatus s 0x0B ⟨.ok, none, optionalNat 2 s.tariff.activeVersion
        ++ [if s.tariff.usable = true then 0 else 1, pendingCode s.tariff.pending] ++ optionalNat 2 s.tariff.pendingVersion
        ++ optionalNat 4 s.tariff.effective ++ [validationCode s.tariff.validation] ++ beBytes 1 (s.holders s.tariff.active)
        ++ beBytes 1 (s.holders s.tariff.pendingId)⟩ s

/-- TIME SET replaces station time, a change by more than the skew allowance being a step with its record and event; the clock adds one each
second and stops at its end; either may bring a scheduled bank due; STATION SET clamps and replaces the four settings; KEY LOAD fills a slot
when the wrapped key unwraps for its version (R91, R183 to R186). That a TIME_STEP record comes before the TARIFF_SWITCH record of the same
TIME SET is log entry 51; the bank a switchover discards keeps its items out of reach, log entry 33; the byte that says step is log entry
17. -/
def Obligations.ClockSettingsAndKeysAreSet : Prop :=
  ∀ (s : State),
    (Serving s → ∀ time : BitVec 32,
      let old := s.clock.time
      let step := s.clock.timeSet = true ∧ (s.settings.skew < time.toNat - old ∨ s.settings.skew < old - time.toNat)
      let set : State := { s with clock := ⟨time.toNat, true⟩ }
      let stepped : State := if step then
          State.raise (set.withRecord { JournalRecord.blank .timeStep none with secondTime := some old }) .timeStep
        else set
      (s.tariff.pending = .scheduled → s.tariff.effective.isSome = true) → HasRoom s → HasRoom stepped →
      Answers (.timeSet time) s 0x02 ⟨.ok, none, beBytes 4 old ++ beBytes 4 time.toNat ++ [if step then 1 else 0]⟩
        (if s.tariff.pending = .scheduled then stepped.scheduledAt (s.tariff.effective.getD 0) else stepped))
    ∧ (let ticked : State := { s with clock := { s.clock with time := min 4294967295 (s.clock.time + 1) } }
      (s.phase ≠ .running ∨ s.tariff.pending ≠ .scheduled → exec .clockTick s = .next ticked)
      ∧ (∀ time, s.phase = .running → s.tariff.pending = .scheduled → s.tariff.effective = some time → HasRoom s →
        exec .clockTick s = .next (ticked.scheduledAt time)))
    ∧ (Serving s → ∀ (station : Byte) (network skew : BitVec 16) (timeout : Byte),
      let inRange := 1 ≤ station.toNat ∧ skew.toNat ≤ 600 ∧ 10 ≤ timeout.toNat ∧ timeout.toNat ≤ 100
      let x : Settings := ⟨max 1 station.toNat, network.toNat, min 600 skew.toNat, max 10 (min 100 timeout.toNat), true⟩
      Answers (.stationSet station network skew timeout) s 0x04 ⟨if inRange then .ok else .clamped, none,
        beBytes 1 x.station ++ beBytes 2 x.network ++ beBytes 2 x.skew ++ beBytes 1 x.timeout⟩ { s with settings := x })
    ∧ (Serving s → ∀ (slot version : Byte) (wrapped : BitVec 256),
      let bad := 7 < slot.toNat ∨ version.toNat < 1 ∨ 8 < version.toNat
      (bad → Answers (.keyLoad slot version wrapped) s 0x0C ⟨.badRequest, none, []⟩ s)
      ∧ (¬bad → Config.unwrapKey wrapped version.toNat = none →
        Answers (.keyLoad slot version wrapped) s 0x0C ⟨.refused, some .keyCheckFailed, []⟩ s)
      ∧ (∀ key, ¬bad → Config.unwrapKey wrapped version.toNat = some key →
        Answers (.keyLoad slot version wrapped) s 0x0C ⟨.ok, none, []⟩
          { s with keys := s.keys.set slot.toNat (some ⟨version.toNat, key⟩) }))

/-! ### Chapters 10 and 11: the host link, resets, start-up -/

/-- Requests are answered STARTING without effect during start-up, and not handed on once a RESET is accepted or while the part holds or has
no supply; a request of the receive queue is answered under its own tag; RESET is answered OK and stops the handing on; an unknown kind is
answered BAD_REQUEST (R180, R181, R191 to R193). A reply to a request that did not come from the receive queue has no tag and no place in
it, log entry 3; that a part which holds or has no supply keeps its requests unserved is log entry 40; the discarding after a RESET is log
entry 16. -/
def Obligations.RequestsAreAnsweredOrNotHandedOn : Prop :=
  ∀ (c : Instr) (kind : Byte) (s : State), requestKind c = some kind →
    let answered (tag : Option Byte) (a : Answer) (place begins : Bool) : List Reply :=
      s.link.replies ++ [⟨kind ||| 0x80, tag, a, place, begins⟩]
    (s.phase = .startUp → exec c s = .next { s with link := { s.link with
      replies := answered none ⟨.starting, none, []⟩ false false } })
    ∧ (s.phase = .held ∨ s.phase = .unpowered ∨ (s.phase = .running ∧ s.link.reset ≠ .none) → exec c s = .next s)
    ∧ (∀ before q after, Serving s → s.link.queue = before ++ q :: after → (∀ x ∈ before, x.answered = true) → q.answered = false →
      decodeRequest q.kind q.body = c →
      ∃ t a begins, exec c s = .next t ∧ t.link.replies = answered (some q.tag) a true begins
        ∧ t.link.queue = before ++ { q with answered := true } :: after)
    ∧ (c = .reset → Serving s → ∃ t tag place, exec c s = .next t
      ∧ t = { s with link := { s.link with replies := answered tag ⟨.ok, none, []⟩ place true, queue := t.link.queue, reset := .replying } }
      ∧ t.link.requests = s.link.requests)
    ∧ (∀ body, c = .unknownKind kind body → Serving s → Answers c s kind ⟨.badRequest, none, []⟩ s)

/-- The receiver: a byte other than SYNC is passed over while HUNTING; a whole good frame is counted and joins a queue of fewer than four,
or is counted as an overflow; a frame with a wrong CRC, a LEN above 512 or a gap is discarded with its counter and LINK_ERROR. During
start-up a good frame joins the queue, and one that comes to its head is answered STARTING under its own tag (R179, R180, R182, R193). That
a good frame during the RESET_COMMAND wait is counted as accepted and then discarded is log entry 16, and that a gap timeout while HUNTING
does nothing is log entry 10. -/
def Obligations.ReceiverTakesGoodFrames : Prop :=
  (∀ (s : State) (kind tag : Byte) (body : List Byte), s.phase = .startUp → s.link.receiver = .hunting → s.link.reset ≠ .waiting →
    body.length ≤ 512 → s.link.queue.length < 4 →
    let k := s.link
    let counted : LinkCounters := { k.counters with accepted := min 65535 (k.counters.accepted + 1) }
    (k.queue = [] → exec (.frameReceived (frameBytes kind tag body)) s = .next { s with link := { k with
      queue := [⟨kind, tag, body, true⟩]
      counters := counted
      replies := k.replies ++ [⟨kind ||| 0x80, some tag, ⟨.starting, none, []⟩, true, false⟩] } })
    ∧ ∀ q qs, k.queue = q :: qs → q.answered = true → exec (.frameReceived (frameBytes kind tag body)) s
      = .next { s with link := { k with queue := k.queue ++ [⟨kind, tag, body, false⟩], counters := counted } })
  ∧ ∀ (s : State), s.phase = .running →
    let k := s.link
    let n := s.link.counters
    (k.receiver = .hunting →
      (∀ (kind tag : Byte) (body : List Byte), body.length ≤ 512 →
        let counted : LinkCounters := { n with accepted := min 65535 (n.accepted + 1) }
        (k.reset ≠ .waiting → k.queue.length < 4 → exec (.frameReceived (frameBytes kind tag body)) s
          = .next { s with link := { k with queue := k.queue ++ [⟨kind, tag, body, false⟩], counters := counted } })
        ∧ (k.reset ≠ .waiting → 4 ≤ k.queue.length → exec (.frameReceived (frameBytes kind tag body)) s
          = .next (s.frameLost { counted with overflows := min 65535 (n.overflows + 1) }))
        ∧ (k.reset = .waiting → exec (.frameReceived (frameBytes kind tag body)) s
          = .next { s with link := { k with counters := counted } })
        ∧ ∀ high low : Byte, ofBytes [high, low] ≠ (crc16 (coveredBytes kind tag body)).toNat →
          exec (.frameReceived (0xA5 :: coveredBytes kind tag body ++ [high, low])) s
            = .next (s.frameLost { n with crcErrors := min 65535 (n.crcErrors + 1) }))
      ∧ exec (.syncReceived 0xA5) s = .next { s with link := { k with receiver := .inFrame [] } }
      ∧ (∀ byte, byte ≠ 0xA5 → exec (.syncReceived byte) s = .next s)
      ∧ exec .interByteGapTimeout s = .next s)
    ∧ (k.receiver = .inFrame [] → ∀ high low : Byte,
      (512 < high.toNat * 256 + low.toNat → exec (.lenReceived high low) s
        = .next (s.frameLost { n with lengthErrors := min 65535 (n.lengthErrors + 1) }))
      ∧ (high.toNat * 256 + low.toNat ≤ 512 → exec (.lenReceived high low) s
        = .next { s with link := { k with receiver := .inFrame [high, low] } }))
    ∧ (∀ got, k.receiver = .inFrame got → exec .interByteGapTimeout s
      = .next (s.frameLost { n with gapErrors := min 65535 (n.gapErrors + 1) }))

/-- A reply sent leaves its place in the queue; the one to RESET begins the wait, which ends each transaction not in COMMITTING with
TAP_AGAIN and lets the reset fall when none is in COMMITTING. During start-up the request that comes to the head of the queue is answered
STARTING under its own tag (R17, R180, R192, R193). The course of the wait is log entry 16; where the reset lands while the RESET input is
asserted is log entries 16 and 35; what the fallen state holds of service states, leaves and accepted states is log entry 11; that a
REPLY_SENT with no reply waiting does nothing is log entry 10. -/
def Obligations.ReplySentFreesItsPlaceOrBeginsTheWait : Prop :=
  (∀ (s : State) (r : Reply) (rs : List Reply) (q : QueuedRequest), s.phase = .startUp → s.link.replies = r :: rs → r.holdsPlace = true →
    (s.link.queue = [q] → exec .replySent s = .next { s with link := { s.link with replies := rs, queue := [] } })
    ∧ ∀ q2 qs, s.link.queue = q :: q2 :: qs → q2.answered = false → exec .replySent s = .next { s with link := { s.link with
      replies := rs ++ [⟨q2.kind ||| 0x80, some q2.tag, ⟨.starting, none, []⟩, true, false⟩]
      queue := { q2 with answered := true } :: qs } })
  ∧ ∀ s : State, s.phase = .running →
    let commits (l : Lane) : Prop := (s.tap l).phase = .committing
    let ends (l : Lane) : Prop := (s.tap l).phase = .identifying ∨ (s.tap l).phase = .authenticating ∨ (s.tap l).phase = .reading
      ∨ (s.tap l).phase = .evaluating
    (s.link.replies = [] → exec .replySent s = .next s)
    ∧ (∀ r rs, s.link.replies = r :: rs →
      let sent : Link := { s.link with replies := rs, queue := if r.holdsPlace = true then s.link.queue.drop 1 else s.link.queue }
      (r.beginsWait = false → exec .replySent s = .next { s with link := sent })
      ∧ (r.beginsWait = true → (∀ l, ends l → Calm s l ∧ s.journal.reservations.get l = none) →
        ((∃ l, commits l) → ∃ u, exec .replySent s = .next u
          ∧ u = { s with link := { sent with reset := .waiting }, lanes := u.lanes }
          ∧ ∀ l, (ends l → u.lane l = laneDone s.display (s.lane l) .tapAgain none (purseRead s l)) ∧ (¬ends l → u.lane l = s.lane l))
        ∧ ((∀ l, ¬commits l) → exec .replySent s = .next (s.fallen .resetCommand (landing s)))))
    ∧ (s.link.reset = .waiting → (∀ l, ¬commits l) → exec .resetCommandWaitEnd s = .next (s.fallen .resetCommand (landing s)))
    ∧ (s.link.reset ≠ .waiting ∨ (∃ l, commits l) → exec .resetCommandWaitEnd s = .next s)

/-- A reset keeps what is retained and sets everything volatile to its value after reset; the RESET input holds the part until its release; a
loss of the main supply stops all but the retained content, and the backup's failure then loses that too (R135, R183, R191, R194).  That
the retained content is cleared at the loss, and that a failure of the backup under main supply does nothing, is log entry 32; the phases
and causes of POWER_ON, of the RESET line and of a supply loss are log entry 35; service CLOSED, the leaf state and the accepted states
between a reset and start-up are log entry 11; the station and network codes held as 0 while they are not set are log entry 28,
and area a in the ACTIVE role after the loss is log entry 50. -/
def Obligations.ResetsKeepWhatIsRetained : Prop :=
  ∀ s : State,
    exec .powerOn s = .next (s.fallen .powerOn (landing s))
    ∧ (s.resetLine = true → exec .resetLineAssert s = .next s)
    ∧ (s.resetLine = false → s.phase = .unpowered → exec .resetLineAssert s = .next { s with resetLine := true })
    ∧ (s.resetLine = false → s.phase ≠ .unpowered →
      exec .resetLineAssert s = .next (State.fallen { s with resetLine := true } .resetLine .held))
    ∧ exec .resetLineRelease s = .next { s with resetLine := false, phase := if s.phase = .held then .startUp else s.phase }
    ∧ exec .mainSupplyLoss s = .next (s.fallen s.cause .unpowered)
    ∧ (s.phase = .unpowered → ∃ u, exec .retentionDomainLoss s = .next u ∧ u.retention = Retention.lost
      ∧ u.clock = ⟨0, false⟩ ∧ u.settings = ⟨0, 0, 120, 35, false⟩ ∧ u.keys = List.replicate 8 none ∧ u.tariff = TariffStore.cleared
      ∧ u.screening = ⟨[], [], true, [], s.screening.counters⟩ ∧ u.doubt = ⟨[], .all none⟩
      ∧ u.journal = ⟨[], 0, 1, s.journal.reservations, 0, 0⟩
      ∧ ∀ l, u.lane l = { s.lane l with gate := { s.gate l with config := LaneConfig.cleared, configured := false } })
    ∧ (s.phase ≠ .unpowered → exec .retentionDomainLoss s = .next s)

/-- Start-up keeps the retained content when the retention check passes and clears it when it fails; it turns every PROVISIONAL entry OPEN in
its place with its IN_DOUBT record, removes every uncorrectable entry with its RESOLVED_UNKNOWN record, and consumes each rebuilt
reservation left over with an IN_DOUBT record; it completes a switchover that is due; it brings up every lane from its inputs, and leaves
RESET_DONE alone pending with the default enables and the report (R91, R93, R115, R116, R188, R194 to R197).  That left over reservations
are consumed from lane 0 to lane 3, and lanes brought up in that order, is log entry 14; the levels that step 5 samples are log entries 11
and 13; the station and network codes held as 0 after TABLES_LOST, where the spec says not set, are log entry 28, and area a in
the ACTIVE role is log entry 50; that the LISTS header keeps its stored bits when its marks are cleared is log entry 49; that the expiry does
nothing outside start-up is log entry 10; the bank a switchover discards keeps its items out of reach, log entry 33. -/
def Obligations.StartUpBringsThePartIntoService : Prop :=
  ∀ s : State, s.phase = .startUp → LanesFallen s →
    let ended (u : State) (r : RetentionResult) : Prop :=
      u.phase = .running ∧ u.report = some (s.cause, r) ∧ u.events = ⟨1#29 <<< 28, ~~~((1#29 <<< 25) ||| (1#29 <<< 27))⟩
        ∧ u.emergency = ⟨s.emergency.high, s.emergency.high, none⟩ ∧ u.link = s.link ∧ u.pending = s.pending
        ∧ ∀ l, BroughtUp s u l
    (¬Retained s → ∃ u, exec .settleIntervalExpiry s = .next u ∧ ended u .tablesLost
      ∧ u.clock = ⟨0, false⟩ ∧ u.settings = ⟨0, 0, 120, 35, false⟩ ∧ u.keys = List.replicate 8 none ∧ u.tariff = TariffStore.cleared
      ∧ u.screening = ⟨[], [], true, [], s.screening.counters⟩ ∧ u.doubt = ⟨[], .all none⟩ ∧ u.journal = ⟨[], 0, 1, .all none, 0, 0⟩
      ∧ Retained u ∧ ∀ l, (u.gate l).config = LaneConfig.cleared ∧ (u.gate l).configured = false)
    ∧ (Retained s → Disarmed s .journal → Disarmed s .lists → DoubtMarked s →
      s.journal.held + s.doubt.entries.length + 5 < 2048 →
      let due := s.tariff.pending = .switching ∨ (s.tariff.pending = .scheduled ∧ ∃ t, s.tariff.effective = some t ∧ t ≤ s.clock.time)
      let done := converted s.journal.nextSequence s.doubt.entries
      let records := done.2 ++ (s.leftover.map leftoverRecord) ++ if due then [s.tariff.switchRecord] else []
      ∃ u, exec .settleIntervalExpiry s = .next u ∧ ended u .retained ∧ u.clock = s.clock ∧ u.settings = s.settings ∧ u.keys = s.keys
        ∧ u.tariff = (if due then s.switched.tariff else s.tariff) ∧ u.screening = s.screening ∧ u.retention = s.retention
        ∧ u.doubt = ⟨done.1, .all none⟩ ∧ u.journal = { (s.withRecords records).journal with reservations := .all none }
        ∧ ∀ l, (u.gate l).config = (s.gate l).config ∧ (u.gate l).configured = (s.gate l).configured)
    ∧ (∀ t : State, t.phase ≠ .startUp → exec .settleIntervalExpiry t = .next t)

/-! ### What every step keeps -/

/-- Whatever command a part in a sound state takes, the places of the journal that are taken, promised or owed to a PROVISIONAL entry stay within
2,048, and in service every lane marked PROVISIONAL is in COMMITTING with its reservation (R99, R117, R123, R195). -/
def Obligations.EveryStepKeepsTheJournalsPromises : Prop :=
  ∀ s t : State, PlacesSound s → step s = .next t → PlacesSound t

/-- Whatever command the part takes, no serial is in flight at two lanes, the denylist and the suspect list stay ordered, bounded and apart, and
the receive queue holds at most four requests (R12, R30, R33, R34, R180). -/
def Obligations.EveryStepKeepsTheListsSound : Prop :=
  ∀ s t : State, OneLanePerCard s → ListsSound s → s.link.queue.length ≤ 4 → step s = .next t →
    OneLanePerCard t ∧ ListsSound t ∧ t.link.queue.length ≤ 4

/-- Whatever command the part takes, a lane in service holds at most two credits, all accounted for, and its leaves are driven towards open only
for someone let in or in a lane held open, and never closed against someone in L (R142, R149, R152, R155, R156, R159). -/
def Obligations.EveryStepKeepsTheLanesSafe : Prop :=
  ∀ s t : State, (s.phase = .running → ∀ l, LeavesSound (s.gate l)) → (∀ l, CreditsSound (s.gate l)) → step s = .next t →
    (t.phase = .running → ∀ l, LeavesSound (t.gate l)) ∧ (∀ l, CreditsSound (t.gate l))
      ∧ ∀ l duty, t.driveOutput l = .openAt duty →
        (t.gate l).letIn = true ∨ (t.gate l).service = .heldOpen ∨ (t.gate l).service = .emergencyOpen

/-- The state after reset, which is the model's choice of log entry 1 (a POWER_ON with the retention domain lost), meets every property that the
steps keep, and holds the values the manual gives such a part (R7, R12, R117, R142, R164, R180, R188, R191); service CLOSED and leaves CLOSED
before step 5 of start-up are the model's choice of log entry 11. -/
def Obligations.ResetMeetsWhatEveryStepKeeps : Prop :=
  PlacesSound State.reset ∧ OneLanePerCard State.reset ∧ ListsSound State.reset ∧ State.reset.link.queue = []
    ∧ (∀ l, CreditsSound (State.reset.gate l) ∧ LeavesSound (State.reset.gate l))
    ∧ (∀ l, (State.reset.tap l).phase = .idle ∧ (State.reset.gate l).service = .closed ∧ (State.reset.ind l).frame = DispCell.blankFrame)
    ∧ State.reset.events.pending = 0 ∧ State.reset.journal.held = 0 ∧ State.reset.journal.nextSequence = 1
end

