-- ==== Sys2Proof/Laws/Bits.lean ====
section
/-! SUPPORT. Big-endian byte fields: a number laid out in a field that holds it is the number the field spells (R198). -/

namespace Sys2Proof.Machine

@[simp] theorem beBytes_length (w n : Nat) : (beBytes w n).length = w := by
  induction w with
  | zero => rfl
  | succ w ih => simp [beBytes, ih]

/-- The bytes of a number, read on from what the bytes before them spell. -/
theorem foldl_beBytes (w n acc : Nat) :
    (beBytes w n).foldl (fun acc b => acc * 256 + b.toNat) acc = acc * 256 ^ w + n % 256 ^ w := by
  induction w generalizing acc with
  | zero => simp [beBytes, Nat.mod_one]
  | succ w ih =>
    have h : n % 256 ^ (w + 1) = 256 ^ w * (n / 256 ^ w % 256) + n % 256 ^ w := by
      rw [Nat.pow_succ, Nat.mod_mul, Nat.add_comm]
    rw [beBytes, List.foldl_cons, ih, h, BitVec.toNat_ofNat]
    ring

/-- A number that fits its field reads back (R198). -/
theorem ofBytes_beBytes {w n : Nat} (h : n < 256 ^ w) : ofBytes (beBytes w n) = n := by
  rw [ofBytes, foldl_beBytes, Nat.mod_eq_of_lt h]
  simp

end Sys2Proof.Machine
end

