-- ==== Sys2Proof/Laws/State.lean ====
section
/-! SUPPORT. One lemma for each field under each update of the state, and the laws of a value kept for each lane. -/

namespace Sys2Proof

/-! ### A value for each lane -/

@[simp] theorem PerLane.get_set_self {α : Type} (p : PerLane α) (l : Lane) (x : α) : (p.set l x).get l = x := by
  match l with
  | 0 => rfl
  | 1 => rfl
  | 2 => rfl
  | 3 => rfl

theorem PerLane.get_set_other {α : Type} (p : PerLane α) {l k : Lane} (h : k ≠ l) (x : α) : (p.set l x).get k = p.get k := by
  match l, k with
  | 0, 0 => exact absurd rfl h
  | 1, 1 => exact absurd rfl h
  | 2, 2 => exact absurd rfl h
  | 3, 3 => exact absurd rfl h
  | 0, 1 => rfl
  | 0, 2 => rfl
  | 0, 3 => rfl
  | 1, 0 => rfl
  | 1, 2 => rfl
  | 1, 3 => rfl
  | 2, 0 => rfl
  | 2, 1 => rfl
  | 2, 3 => rfl
  | 3, 0 => rfl
  | 3, 1 => rfl
  | 3, 2 => rfl

@[simp] theorem PerLane.set_set_self {α : Type} (p : PerLane α) (l : Lane) (x y : α) : (p.set l x).set l y = p.set l y := by
  match l with
  | 0 => rfl
  | 1 => rfl
  | 2 => rfl
  | 3 => rfl

@[simp] theorem PerLane.set_get_self {α : Type} (p : PerLane α) (l : Lane) : p.set l (p.get l) = p := by
  match l with
  | 0 => rfl
  | 1 => rfl
  | 2 => rfl
  | 3 => rfl

@[simp] theorem PerLane.get_map {α β : Type} (p : PerLane α) (f : α → β) (l : Lane) : (p.map f).get l = f (p.get l) := by
  match l with
  | 0 => rfl
  | 1 => rfl
  | 2 => rfl
  | 3 => rfl

@[simp] theorem PerLane.get_all {α : Type} (x : α) (l : Lane) : (PerLane.all x).get l = x := by
  match l with
  | 0 => rfl
  | 1 => rfl
  | 2 => rfl
  | 3 => rfl

@[ext] theorem PerLane.ext_get {α : Type} {p q : PerLane α} (h : ∀ l, p.get l = q.get l) : p = q := by
  cases p
  cases q
  have h0 := h 0
  have h1 := h 1
  have h2 := h 2
  have h3 := h 3
  simp only [PerLane.get] at h0 h1 h2 h3
  subst h0 h1 h2 h3
  rfl

namespace Machine

/-! ### A lane's units -/

@[simp] theorem State.modLane_lane (s : State) (l : Lane) (f : LaneUnit → LaneUnit) : (s.modLane l f).lane l = f (s.lane l) :=
  PerLane.get_set_self _ _ _

theorem State.modLane_lane_other (s : State) {l k : Lane} (h : k ≠ l) (f : LaneUnit → LaneUnit) :
    (s.modLane l f).lane k = s.lane k := PerLane.get_set_other _ h _

@[simp] theorem State.modLane_modLane (s : State) (l : Lane) (f g : LaneUnit → LaneUnit) :
    (s.modLane l f).modLane l g = s.modLane l fun u => g (f u) := by
  simp [State.modLane]

@[simp] theorem State.modTap_tap (s : State) (l : Lane) (f : Tap → Tap) : (s.modTap l f).tap l = f (s.tap l) := by
  simp [State.modTap, State.tap]

@[simp] theorem State.modTap_gate (s : State) (l k : Lane) (f : Tap → Tap) : (s.modTap l f).gate k = s.gate k := by
  by_cases h : k = l
  · subst h; simp [State.modTap, State.gate]
  · simp [State.modTap, State.gate, State.modLane_lane_other s h]

@[simp] theorem State.modTap_ind (s : State) (l k : Lane) (f : Tap → Tap) : (s.modTap l f).ind k = s.ind k := by
  by_cases h : k = l
  · subst h; simp [State.modTap, State.ind]
  · simp [State.modTap, State.ind, State.modLane_lane_other s h]

theorem State.modTap_tap_other (s : State) {l k : Lane} (h : k ≠ l) (f : Tap → Tap) : (s.modTap l f).tap k = s.tap k := by
  simp [State.modTap, State.tap, State.modLane_lane_other s h]

@[simp] theorem State.modGate_gate (s : State) (l : Lane) (f : Passages → Passages) : (s.modGate l f).gate l = f (s.gate l) := by
  simp [State.modGate, State.gate]

@[simp] theorem State.modGate_tap (s : State) (l k : Lane) (f : Passages → Passages) : (s.modGate l f).tap k = s.tap k := by
  by_cases h : k = l
  · subst h; simp [State.modGate, State.tap]
  · simp [State.modGate, State.tap, State.modLane_lane_other s h]

@[simp] theorem State.modGate_ind (s : State) (l k : Lane) (f : Passages → Passages) : (s.modGate l f).ind k = s.ind k := by
  by_cases h : k = l
  · subst h; simp [State.modGate, State.ind]
  · simp [State.modGate, State.ind, State.modLane_lane_other s h]

theorem State.modGate_gate_other (s : State) {l k : Lane} (h : k ≠ l) (f : Passages → Passages) :
    (s.modGate l f).gate k = s.gate k := by
  simp [State.modGate, State.gate, State.modLane_lane_other s h]

@[simp] theorem State.modInd_ind (s : State) (l : Lane) (f : Indicator → Indicator) : (s.modInd l f).ind l = f (s.ind l) := by
  simp [State.modInd, State.ind]

@[simp] theorem State.modInd_tap (s : State) (l k : Lane) (f : Indicator → Indicator) : (s.modInd l f).tap k = s.tap k := by
  by_cases h : k = l
  · subst h; simp [State.modInd, State.tap]
  · simp [State.modInd, State.tap, State.modLane_lane_other s h]

@[simp] theorem State.modInd_gate (s : State) (l k : Lane) (f : Indicator → Indicator) : (s.modInd l f).gate k = s.gate k := by
  by_cases h : k = l
  · subst h; simp [State.modInd, State.gate]
  · simp [State.modInd, State.gate, State.modLane_lane_other s h]

theorem State.modInd_ind_other (s : State) {l k : Lane} (h : k ≠ l) (f : Indicator → Indicator) :
    (s.modInd l f).ind k = s.ind k := by
  simp [State.modInd, State.ind, State.modLane_lane_other s h]

/-- Two states with the same lanes have the same units at every lane. -/
theorem State.lane_congr {s t : State} (h : s.lanes = t.lanes) (l : Lane) : s.lane l = t.lane l := by
  simp [State.lane, h]

/-! ### `modLane` -/

@[simp] theorem State.modLane_pending (s : State) (l : Lane) (f : LaneUnit → LaneUnit) : (s.modLane l f).pending = s.pending := rfl
@[simp] theorem State.modLane_phase (s : State) (l : Lane) (f : LaneUnit → LaneUnit) : (s.modLane l f).phase = s.phase := rfl
@[simp] theorem State.modLane_cause (s : State) (l : Lane) (f : LaneUnit → LaneUnit) : (s.modLane l f).cause = s.cause := rfl
@[simp] theorem State.modLane_report (s : State) (l : Lane) (f : LaneUnit → LaneUnit) : (s.modLane l f).report = s.report := rfl
@[simp] theorem State.modLane_resetLine (s : State) (l : Lane) (f : LaneUnit → LaneUnit) : (s.modLane l f).resetLine = s.resetLine := rfl
@[simp] theorem State.modLane_emergency (s : State) (l : Lane) (f : LaneUnit → LaneUnit) : (s.modLane l f).emergency = s.emergency := rfl
@[simp] theorem State.modLane_link (s : State) (l : Lane) (f : LaneUnit → LaneUnit) : (s.modLane l f).link = s.link := rfl
@[simp] theorem State.modLane_events (s : State) (l : Lane) (f : LaneUnit → LaneUnit) : (s.modLane l f).events = s.events := rfl
@[simp] theorem State.modLane_clock (s : State) (l : Lane) (f : LaneUnit → LaneUnit) : (s.modLane l f).clock = s.clock := rfl
@[simp] theorem State.modLane_settings (s : State) (l : Lane) (f : LaneUnit → LaneUnit) : (s.modLane l f).settings = s.settings := rfl
@[simp] theorem State.modLane_keys (s : State) (l : Lane) (f : LaneUnit → LaneUnit) : (s.modLane l f).keys = s.keys := rfl
@[simp] theorem State.modLane_tariff (s : State) (l : Lane) (f : LaneUnit → LaneUnit) : (s.modLane l f).tariff = s.tariff := rfl
@[simp] theorem State.modLane_screening (s : State) (l : Lane) (f : LaneUnit → LaneUnit) : (s.modLane l f).screening = s.screening := rfl
@[simp] theorem State.modLane_doubt (s : State) (l : Lane) (f : LaneUnit → LaneUnit) : (s.modLane l f).doubt = s.doubt := rfl
@[simp] theorem State.modLane_journal (s : State) (l : Lane) (f : LaneUnit → LaneUnit) : (s.modLane l f).journal = s.journal := rfl
@[simp] theorem State.modLane_display (s : State) (l : Lane) (f : LaneUnit → LaneUnit) : (s.modLane l f).display = s.display := rfl
@[simp] theorem State.modLane_ecc (s : State) (l : Lane) (f : LaneUnit → LaneUnit) : (s.modLane l f).ecc = s.ecc := rfl
@[simp] theorem State.modLane_retention (s : State) (l : Lane) (f : LaneUnit → LaneUnit) : (s.modLane l f).retention = s.retention := rfl
@[simp] theorem State.modLane_draws (s : State) (l : Lane) (f : LaneUnit → LaneUnit) : (s.modLane l f).draws = s.draws := rfl

/-! ### `modTap` -/

@[simp] theorem State.modTap_pending (s : State) (l : Lane) (f : Tap → Tap) : (s.modTap l f).pending = s.pending := rfl
@[simp] theorem State.modTap_phase (s : State) (l : Lane) (f : Tap → Tap) : (s.modTap l f).phase = s.phase := rfl
@[simp] theorem State.modTap_cause (s : State) (l : Lane) (f : Tap → Tap) : (s.modTap l f).cause = s.cause := rfl
@[simp] theorem State.modTap_report (s : State) (l : Lane) (f : Tap → Tap) : (s.modTap l f).report = s.report := rfl
@[simp] theorem State.modTap_resetLine (s : State) (l : Lane) (f : Tap → Tap) : (s.modTap l f).resetLine = s.resetLine := rfl
@[simp] theorem State.modTap_emergency (s : State) (l : Lane) (f : Tap → Tap) : (s.modTap l f).emergency = s.emergency := rfl
@[simp] theorem State.modTap_link (s : State) (l : Lane) (f : Tap → Tap) : (s.modTap l f).link = s.link := rfl
@[simp] theorem State.modTap_events (s : State) (l : Lane) (f : Tap → Tap) : (s.modTap l f).events = s.events := rfl
@[simp] theorem State.modTap_clock (s : State) (l : Lane) (f : Tap → Tap) : (s.modTap l f).clock = s.clock := rfl
@[simp] theorem State.modTap_settings (s : State) (l : Lane) (f : Tap → Tap) : (s.modTap l f).settings = s.settings := rfl
@[simp] theorem State.modTap_keys (s : State) (l : Lane) (f : Tap → Tap) : (s.modTap l f).keys = s.keys := rfl
@[simp] theorem State.modTap_tariff (s : State) (l : Lane) (f : Tap → Tap) : (s.modTap l f).tariff = s.tariff := rfl
@[simp] theorem State.modTap_screening (s : State) (l : Lane) (f : Tap → Tap) : (s.modTap l f).screening = s.screening := rfl
@[simp] theorem State.modTap_doubt (s : State) (l : Lane) (f : Tap → Tap) : (s.modTap l f).doubt = s.doubt := rfl
@[simp] theorem State.modTap_journal (s : State) (l : Lane) (f : Tap → Tap) : (s.modTap l f).journal = s.journal := rfl
@[simp] theorem State.modTap_display (s : State) (l : Lane) (f : Tap → Tap) : (s.modTap l f).display = s.display := rfl
@[simp] theorem State.modTap_ecc (s : State) (l : Lane) (f : Tap → Tap) : (s.modTap l f).ecc = s.ecc := rfl
@[simp] theorem State.modTap_retention (s : State) (l : Lane) (f : Tap → Tap) : (s.modTap l f).retention = s.retention := rfl
@[simp] theorem State.modTap_draws (s : State) (l : Lane) (f : Tap → Tap) : (s.modTap l f).draws = s.draws := rfl

/-! ### `modGate` -/

@[simp] theorem State.modGate_pending (s : State) (l : Lane) (f : Passages → Passages) : (s.modGate l f).pending = s.pending := rfl
@[simp] theorem State.modGate_phase (s : State) (l : Lane) (f : Passages → Passages) : (s.modGate l f).phase = s.phase := rfl
@[simp] theorem State.modGate_cause (s : State) (l : Lane) (f : Passages → Passages) : (s.modGate l f).cause = s.cause := rfl
@[simp] theorem State.modGate_report (s : State) (l : Lane) (f : Passages → Passages) : (s.modGate l f).report = s.report := rfl
@[simp] theorem State.modGate_resetLine (s : State) (l : Lane) (f : Passages → Passages) : (s.modGate l f).resetLine = s.resetLine := rfl
@[simp] theorem State.modGate_emergency (s : State) (l : Lane) (f : Passages → Passages) : (s.modGate l f).emergency = s.emergency := rfl
@[simp] theorem State.modGate_link (s : State) (l : Lane) (f : Passages → Passages) : (s.modGate l f).link = s.link := rfl
@[simp] theorem State.modGate_events (s : State) (l : Lane) (f : Passages → Passages) : (s.modGate l f).events = s.events := rfl
@[simp] theorem State.modGate_clock (s : State) (l : Lane) (f : Passages → Passages) : (s.modGate l f).clock = s.clock := rfl
@[simp] theorem State.modGate_settings (s : State) (l : Lane) (f : Passages → Passages) : (s.modGate l f).settings = s.settings := rfl
@[simp] theorem State.modGate_keys (s : State) (l : Lane) (f : Passages → Passages) : (s.modGate l f).keys = s.keys := rfl
@[simp] theorem State.modGate_tariff (s : State) (l : Lane) (f : Passages → Passages) : (s.modGate l f).tariff = s.tariff := rfl
@[simp] theorem State.modGate_screening (s : State) (l : Lane) (f : Passages → Passages) : (s.modGate l f).screening = s.screening := rfl
@[simp] theorem State.modGate_doubt (s : State) (l : Lane) (f : Passages → Passages) : (s.modGate l f).doubt = s.doubt := rfl
@[simp] theorem State.modGate_journal (s : State) (l : Lane) (f : Passages → Passages) : (s.modGate l f).journal = s.journal := rfl
@[simp] theorem State.modGate_display (s : State) (l : Lane) (f : Passages → Passages) : (s.modGate l f).display = s.display := rfl
@[simp] theorem State.modGate_ecc (s : State) (l : Lane) (f : Passages → Passages) : (s.modGate l f).ecc = s.ecc := rfl
@[simp] theorem State.modGate_retention (s : State) (l : Lane) (f : Passages → Passages) : (s.modGate l f).retention = s.retention := rfl
@[simp] theorem State.modGate_draws (s : State) (l : Lane) (f : Passages → Passages) : (s.modGate l f).draws = s.draws := rfl

/-! ### `modInd` -/

@[simp] theorem State.modInd_pending (s : State) (l : Lane) (f : Indicator → Indicator) : (s.modInd l f).pending = s.pending := rfl
@[simp] theorem State.modInd_phase (s : State) (l : Lane) (f : Indicator → Indicator) : (s.modInd l f).phase = s.phase := rfl
@[simp] theorem State.modInd_cause (s : State) (l : Lane) (f : Indicator → Indicator) : (s.modInd l f).cause = s.cause := rfl
@[simp] theorem State.modInd_report (s : State) (l : Lane) (f : Indicator → Indicator) : (s.modInd l f).report = s.report := rfl
@[simp] theorem State.modInd_resetLine (s : State) (l : Lane) (f : Indicator → Indicator) : (s.modInd l f).resetLine = s.resetLine := rfl
@[simp] theorem State.modInd_emergency (s : State) (l : Lane) (f : Indicator → Indicator) : (s.modInd l f).emergency = s.emergency := rfl
@[simp] theorem State.modInd_link (s : State) (l : Lane) (f : Indicator → Indicator) : (s.modInd l f).link = s.link := rfl
@[simp] theorem State.modInd_events (s : State) (l : Lane) (f : Indicator → Indicator) : (s.modInd l f).events = s.events := rfl
@[simp] theorem State.modInd_clock (s : State) (l : Lane) (f : Indicator → Indicator) : (s.modInd l f).clock = s.clock := rfl
@[simp] theorem State.modInd_settings (s : State) (l : Lane) (f : Indicator → Indicator) : (s.modInd l f).settings = s.settings := rfl
@[simp] theorem State.modInd_keys (s : State) (l : Lane) (f : Indicator → Indicator) : (s.modInd l f).keys = s.keys := rfl
@[simp] theorem State.modInd_tariff (s : State) (l : Lane) (f : Indicator → Indicator) : (s.modInd l f).tariff = s.tariff := rfl
@[simp] theorem State.modInd_screening (s : State) (l : Lane) (f : Indicator → Indicator) : (s.modInd l f).screening = s.screening := rfl
@[simp] theorem State.modInd_doubt (s : State) (l : Lane) (f : Indicator → Indicator) : (s.modInd l f).doubt = s.doubt := rfl
@[simp] theorem State.modInd_journal (s : State) (l : Lane) (f : Indicator → Indicator) : (s.modInd l f).journal = s.journal := rfl
@[simp] theorem State.modInd_display (s : State) (l : Lane) (f : Indicator → Indicator) : (s.modInd l f).display = s.display := rfl
@[simp] theorem State.modInd_ecc (s : State) (l : Lane) (f : Indicator → Indicator) : (s.modInd l f).ecc = s.ecc := rfl
@[simp] theorem State.modInd_retention (s : State) (l : Lane) (f : Indicator → Indicator) : (s.modInd l f).retention = s.retention := rfl
@[simp] theorem State.modInd_draws (s : State) (l : Lane) (f : Indicator → Indicator) : (s.modInd l f).draws = s.draws := rfl

/-! ### `raise` -/

@[simp] theorem State.raise_pending (s : State) (e : Event) : (s.raise e).pending = s.pending := rfl
@[simp] theorem State.raise_phase (s : State) (e : Event) : (s.raise e).phase = s.phase := rfl
@[simp] theorem State.raise_cause (s : State) (e : Event) : (s.raise e).cause = s.cause := rfl
@[simp] theorem State.raise_report (s : State) (e : Event) : (s.raise e).report = s.report := rfl
@[simp] theorem State.raise_resetLine (s : State) (e : Event) : (s.raise e).resetLine = s.resetLine := rfl
@[simp] theorem State.raise_emergency (s : State) (e : Event) : (s.raise e).emergency = s.emergency := rfl
@[simp] theorem State.raise_link (s : State) (e : Event) : (s.raise e).link = s.link := rfl
@[simp] theorem State.raise_clock (s : State) (e : Event) : (s.raise e).clock = s.clock := rfl
@[simp] theorem State.raise_settings (s : State) (e : Event) : (s.raise e).settings = s.settings := rfl
@[simp] theorem State.raise_keys (s : State) (e : Event) : (s.raise e).keys = s.keys := rfl
@[simp] theorem State.raise_tariff (s : State) (e : Event) : (s.raise e).tariff = s.tariff := rfl
@[simp] theorem State.raise_screening (s : State) (e : Event) : (s.raise e).screening = s.screening := rfl
@[simp] theorem State.raise_doubt (s : State) (e : Event) : (s.raise e).doubt = s.doubt := rfl
@[simp] theorem State.raise_journal (s : State) (e : Event) : (s.raise e).journal = s.journal := rfl
@[simp] theorem State.raise_lanes (s : State) (e : Event) : (s.raise e).lanes = s.lanes := rfl
@[simp] theorem State.raise_display (s : State) (e : Event) : (s.raise e).display = s.display := rfl
@[simp] theorem State.raise_ecc (s : State) (e : Event) : (s.raise e).ecc = s.ecc := rfl
@[simp] theorem State.raise_retention (s : State) (e : Event) : (s.raise e).retention = s.retention := rfl
@[simp] theorem State.raise_draws (s : State) (e : Event) : (s.raise e).draws = s.draws := rfl

/-! ### `modLink` -/

@[simp] theorem State.modLink_pending (s : State) (f : Link → Link) : (s.modLink f).pending = s.pending := rfl
@[simp] theorem State.modLink_phase (s : State) (f : Link → Link) : (s.modLink f).phase = s.phase := rfl
@[simp] theorem State.modLink_cause (s : State) (f : Link → Link) : (s.modLink f).cause = s.cause := rfl
@[simp] theorem State.modLink_report (s : State) (f : Link → Link) : (s.modLink f).report = s.report := rfl
@[simp] theorem State.modLink_resetLine (s : State) (f : Link → Link) : (s.modLink f).resetLine = s.resetLine := rfl
@[simp] theorem State.modLink_emergency (s : State) (f : Link → Link) : (s.modLink f).emergency = s.emergency := rfl
@[simp] theorem State.modLink_events (s : State) (f : Link → Link) : (s.modLink f).events = s.events := rfl
@[simp] theorem State.modLink_clock (s : State) (f : Link → Link) : (s.modLink f).clock = s.clock := rfl
@[simp] theorem State.modLink_settings (s : State) (f : Link → Link) : (s.modLink f).settings = s.settings := rfl
@[simp] theorem State.modLink_keys (s : State) (f : Link → Link) : (s.modLink f).keys = s.keys := rfl
@[simp] theorem State.modLink_tariff (s : State) (f : Link → Link) : (s.modLink f).tariff = s.tariff := rfl
@[simp] theorem State.modLink_screening (s : State) (f : Link → Link) : (s.modLink f).screening = s.screening := rfl
@[simp] theorem State.modLink_doubt (s : State) (f : Link → Link) : (s.modLink f).doubt = s.doubt := rfl
@[simp] theorem State.modLink_journal (s : State) (f : Link → Link) : (s.modLink f).journal = s.journal := rfl
@[simp] theorem State.modLink_lanes (s : State) (f : Link → Link) : (s.modLink f).lanes = s.lanes := rfl
@[simp] theorem State.modLink_display (s : State) (f : Link → Link) : (s.modLink f).display = s.display := rfl
@[simp] theorem State.modLink_ecc (s : State) (f : Link → Link) : (s.modLink f).ecc = s.ecc := rfl
@[simp] theorem State.modLink_retention (s : State) (f : Link → Link) : (s.modLink f).retention = s.retention := rfl
@[simp] theorem State.modLink_draws (s : State) (f : Link → Link) : (s.modLink f).draws = s.draws := rfl

/-! ### `setSightings` -/

@[simp] theorem State.setSightings_pending (s : State) (xs : List (Stored Sighting)) : (s.setSightings xs).pending = s.pending := rfl
@[simp] theorem State.setSightings_phase (s : State) (xs : List (Stored Sighting)) : (s.setSightings xs).phase = s.phase := rfl
@[simp] theorem State.setSightings_cause (s : State) (xs : List (Stored Sighting)) : (s.setSightings xs).cause = s.cause := rfl
@[simp] theorem State.setSightings_report (s : State) (xs : List (Stored Sighting)) : (s.setSightings xs).report = s.report := rfl
@[simp] theorem State.setSightings_resetLine (s : State) (xs : List (Stored Sighting)) : (s.setSightings xs).resetLine = s.resetLine := rfl
@[simp] theorem State.setSightings_emergency (s : State) (xs : List (Stored Sighting)) : (s.setSightings xs).emergency = s.emergency := rfl
@[simp] theorem State.setSightings_link (s : State) (xs : List (Stored Sighting)) : (s.setSightings xs).link = s.link := rfl
@[simp] theorem State.setSightings_events (s : State) (xs : List (Stored Sighting)) : (s.setSightings xs).events = s.events := rfl
@[simp] theorem State.setSightings_clock (s : State) (xs : List (Stored Sighting)) : (s.setSightings xs).clock = s.clock := rfl
@[simp] theorem State.setSightings_settings (s : State) (xs : List (Stored Sighting)) : (s.setSightings xs).settings = s.settings := rfl
@[simp] theorem State.setSightings_keys (s : State) (xs : List (Stored Sighting)) : (s.setSightings xs).keys = s.keys := rfl
@[simp] theorem State.setSightings_tariff (s : State) (xs : List (Stored Sighting)) : (s.setSightings xs).tariff = s.tariff := rfl
@[simp] theorem State.setSightings_doubt (s : State) (xs : List (Stored Sighting)) : (s.setSightings xs).doubt = s.doubt := rfl
@[simp] theorem State.setSightings_journal (s : State) (xs : List (Stored Sighting)) : (s.setSightings xs).journal = s.journal := rfl
@[simp] theorem State.setSightings_lanes (s : State) (xs : List (Stored Sighting)) : (s.setSightings xs).lanes = s.lanes := rfl
@[simp] theorem State.setSightings_display (s : State) (xs : List (Stored Sighting)) : (s.setSightings xs).display = s.display := rfl
@[simp] theorem State.setSightings_ecc (s : State) (xs : List (Stored Sighting)) : (s.setSightings xs).ecc = s.ecc := rfl
@[simp] theorem State.setSightings_retention (s : State) (xs : List (Stored Sighting)) : (s.setSightings xs).retention = s.retention := rfl
@[simp] theorem State.setSightings_draws (s : State) (xs : List (Stored Sighting)) : (s.setSightings xs).draws = s.draws := rfl

/-! ### `setDenylist` -/

@[simp] theorem State.setDenylist_pending (s : State) (xs : List (Stored DenyEntry)) : (s.setDenylist xs).pending = s.pending := rfl
@[simp] theorem State.setDenylist_phase (s : State) (xs : List (Stored DenyEntry)) : (s.setDenylist xs).phase = s.phase := rfl
@[simp] theorem State.setDenylist_cause (s : State) (xs : List (Stored DenyEntry)) : (s.setDenylist xs).cause = s.cause := rfl
@[simp] theorem State.setDenylist_report (s : State) (xs : List (Stored DenyEntry)) : (s.setDenylist xs).report = s.report := rfl
@[simp] theorem State.setDenylist_resetLine (s : State) (xs : List (Stored DenyEntry)) : (s.setDenylist xs).resetLine = s.resetLine := rfl
@[simp] theorem State.setDenylist_emergency (s : State) (xs : List (Stored DenyEntry)) : (s.setDenylist xs).emergency = s.emergency := rfl
@[simp] theorem State.setDenylist_link (s : State) (xs : List (Stored DenyEntry)) : (s.setDenylist xs).link = s.link := rfl
@[simp] theorem State.setDenylist_events (s : State) (xs : List (Stored DenyEntry)) : (s.setDenylist xs).events = s.events := rfl
@[simp] theorem State.setDenylist_clock (s : State) (xs : List (Stored DenyEntry)) : (s.setDenylist xs).clock = s.clock := rfl
@[simp] theorem State.setDenylist_settings (s : State) (xs : List (Stored DenyEntry)) : (s.setDenylist xs).settings = s.settings := rfl
@[simp] theorem State.setDenylist_keys (s : State) (xs : List (Stored DenyEntry)) : (s.setDenylist xs).keys = s.keys := rfl
@[simp] theorem State.setDenylist_tariff (s : State) (xs : List (Stored DenyEntry)) : (s.setDenylist xs).tariff = s.tariff := rfl
@[simp] theorem State.setDenylist_doubt (s : State) (xs : List (Stored DenyEntry)) : (s.setDenylist xs).doubt = s.doubt := rfl
@[simp] theorem State.setDenylist_journal (s : State) (xs : List (Stored DenyEntry)) : (s.setDenylist xs).journal = s.journal := rfl
@[simp] theorem State.setDenylist_lanes (s : State) (xs : List (Stored DenyEntry)) : (s.setDenylist xs).lanes = s.lanes := rfl
@[simp] theorem State.setDenylist_display (s : State) (xs : List (Stored DenyEntry)) : (s.setDenylist xs).display = s.display := rfl
@[simp] theorem State.setDenylist_ecc (s : State) (xs : List (Stored DenyEntry)) : (s.setDenylist xs).ecc = s.ecc := rfl
@[simp] theorem State.setDenylist_retention (s : State) (xs : List (Stored DenyEntry)) : (s.setDenylist xs).retention = s.retention := rfl
@[simp] theorem State.setDenylist_draws (s : State) (xs : List (Stored DenyEntry)) : (s.setDenylist xs).draws = s.draws := rfl

/-! ### `setSuspects` -/

@[simp] theorem State.setSuspects_pending (s : State) (xs : List (Stored SuspectEntry)) : (s.setSuspects xs).pending = s.pending := rfl
@[simp] theorem State.setSuspects_phase (s : State) (xs : List (Stored SuspectEntry)) : (s.setSuspects xs).phase = s.phase := rfl
@[simp] theorem State.setSuspects_cause (s : State) (xs : List (Stored SuspectEntry)) : (s.setSuspects xs).cause = s.cause := rfl
@[simp] theorem State.setSuspects_report (s : State) (xs : List (Stored SuspectEntry)) : (s.setSuspects xs).report = s.report := rfl
@[simp] theorem State.setSuspects_resetLine (s : State) (xs : List (Stored SuspectEntry)) : (s.setSuspects xs).resetLine = s.resetLine := rfl
@[simp] theorem State.setSuspects_emergency (s : State) (xs : List (Stored SuspectEntry)) : (s.setSuspects xs).emergency = s.emergency := rfl
@[simp] theorem State.setSuspects_link (s : State) (xs : List (Stored SuspectEntry)) : (s.setSuspects xs).link = s.link := rfl
@[simp] theorem State.setSuspects_events (s : State) (xs : List (Stored SuspectEntry)) : (s.setSuspects xs).events = s.events := rfl
@[simp] theorem State.setSuspects_clock (s : State) (xs : List (Stored SuspectEntry)) : (s.setSuspects xs).clock = s.clock := rfl
@[simp] theorem State.setSuspects_settings (s : State) (xs : List (Stored SuspectEntry)) : (s.setSuspects xs).settings = s.settings := rfl
@[simp] theorem State.setSuspects_keys (s : State) (xs : List (Stored SuspectEntry)) : (s.setSuspects xs).keys = s.keys := rfl
@[simp] theorem State.setSuspects_tariff (s : State) (xs : List (Stored SuspectEntry)) : (s.setSuspects xs).tariff = s.tariff := rfl
@[simp] theorem State.setSuspects_doubt (s : State) (xs : List (Stored SuspectEntry)) : (s.setSuspects xs).doubt = s.doubt := rfl
@[simp] theorem State.setSuspects_journal (s : State) (xs : List (Stored SuspectEntry)) : (s.setSuspects xs).journal = s.journal := rfl
@[simp] theorem State.setSuspects_lanes (s : State) (xs : List (Stored SuspectEntry)) : (s.setSuspects xs).lanes = s.lanes := rfl
@[simp] theorem State.setSuspects_display (s : State) (xs : List (Stored SuspectEntry)) : (s.setSuspects xs).display = s.display := rfl
@[simp] theorem State.setSuspects_ecc (s : State) (xs : List (Stored SuspectEntry)) : (s.setSuspects xs).ecc = s.ecc := rfl
@[simp] theorem State.setSuspects_retention (s : State) (xs : List (Stored SuspectEntry)) : (s.setSuspects xs).retention = s.retention := rfl
@[simp] theorem State.setSuspects_draws (s : State) (xs : List (Stored SuspectEntry)) : (s.setSuspects xs).draws = s.draws := rfl

/-! ### `countScreen` -/

@[simp] theorem State.countScreen_pending (s : State) (f : ScreenCounters → ScreenCounters) : (s.countScreen f).pending = s.pending := rfl
@[simp] theorem State.countScreen_phase (s : State) (f : ScreenCounters → ScreenCounters) : (s.countScreen f).phase = s.phase := rfl
@[simp] theorem State.countScreen_cause (s : State) (f : ScreenCounters → ScreenCounters) : (s.countScreen f).cause = s.cause := rfl
@[simp] theorem State.countScreen_report (s : State) (f : ScreenCounters → ScreenCounters) : (s.countScreen f).report = s.report := rfl
@[simp] theorem State.countScreen_resetLine (s : State) (f : ScreenCounters → ScreenCounters) : (s.countScreen f).resetLine = s.resetLine := rfl
@[simp] theorem State.countScreen_emergency (s : State) (f : ScreenCounters → ScreenCounters) : (s.countScreen f).emergency = s.emergency := rfl
@[simp] theorem State.countScreen_link (s : State) (f : ScreenCounters → ScreenCounters) : (s.countScreen f).link = s.link := rfl
@[simp] theorem State.countScreen_events (s : State) (f : ScreenCounters → ScreenCounters) : (s.countScreen f).events = s.events := rfl
@[simp] theorem State.countScreen_clock (s : State) (f : ScreenCounters → ScreenCounters) : (s.countScreen f).clock = s.clock := rfl
@[simp] theorem State.countScreen_settings (s : State) (f : ScreenCounters → ScreenCounters) : (s.countScreen f).settings = s.settings := rfl
@[simp] theorem State.countScreen_keys (s : State) (f : ScreenCounters → ScreenCounters) : (s.countScreen f).keys = s.keys := rfl
@[simp] theorem State.countScreen_tariff (s : State) (f : ScreenCounters → ScreenCounters) : (s.countScreen f).tariff = s.tariff := rfl
@[simp] theorem State.countScreen_doubt (s : State) (f : ScreenCounters → ScreenCounters) : (s.countScreen f).doubt = s.doubt := rfl
@[simp] theorem State.countScreen_journal (s : State) (f : ScreenCounters → ScreenCounters) : (s.countScreen f).journal = s.journal := rfl
@[simp] theorem State.countScreen_lanes (s : State) (f : ScreenCounters → ScreenCounters) : (s.countScreen f).lanes = s.lanes := rfl
@[simp] theorem State.countScreen_display (s : State) (f : ScreenCounters → ScreenCounters) : (s.countScreen f).display = s.display := rfl
@[simp] theorem State.countScreen_ecc (s : State) (f : ScreenCounters → ScreenCounters) : (s.countScreen f).ecc = s.ecc := rfl
@[simp] theorem State.countScreen_retention (s : State) (f : ScreenCounters → ScreenCounters) : (s.countScreen f).retention = s.retention := rfl
@[simp] theorem State.countScreen_draws (s : State) (f : ScreenCounters → ScreenCounters) : (s.countScreen f).draws = s.draws := rfl

/-! ### `discardDenylist` -/

@[simp] theorem State.discardDenylist_pending (s : State)  : (s.discardDenylist).pending = s.pending := rfl
@[simp] theorem State.discardDenylist_phase (s : State)  : (s.discardDenylist).phase = s.phase := rfl
@[simp] theorem State.discardDenylist_cause (s : State)  : (s.discardDenylist).cause = s.cause := rfl
@[simp] theorem State.discardDenylist_report (s : State)  : (s.discardDenylist).report = s.report := rfl
@[simp] theorem State.discardDenylist_resetLine (s : State)  : (s.discardDenylist).resetLine = s.resetLine := rfl
@[simp] theorem State.discardDenylist_emergency (s : State)  : (s.discardDenylist).emergency = s.emergency := rfl
@[simp] theorem State.discardDenylist_link (s : State)  : (s.discardDenylist).link = s.link := rfl
@[simp] theorem State.discardDenylist_events (s : State)  : (s.discardDenylist).events = s.events := rfl
@[simp] theorem State.discardDenylist_clock (s : State)  : (s.discardDenylist).clock = s.clock := rfl
@[simp] theorem State.discardDenylist_settings (s : State)  : (s.discardDenylist).settings = s.settings := rfl
@[simp] theorem State.discardDenylist_keys (s : State)  : (s.discardDenylist).keys = s.keys := rfl
@[simp] theorem State.discardDenylist_tariff (s : State)  : (s.discardDenylist).tariff = s.tariff := rfl
@[simp] theorem State.discardDenylist_doubt (s : State)  : (s.discardDenylist).doubt = s.doubt := rfl
@[simp] theorem State.discardDenylist_journal (s : State)  : (s.discardDenylist).journal = s.journal := rfl
@[simp] theorem State.discardDenylist_lanes (s : State)  : (s.discardDenylist).lanes = s.lanes := rfl
@[simp] theorem State.discardDenylist_display (s : State)  : (s.discardDenylist).display = s.display := rfl
@[simp] theorem State.discardDenylist_ecc (s : State)  : (s.discardDenylist).ecc = s.ecc := rfl
@[simp] theorem State.discardDenylist_retention (s : State)  : (s.discardDenylist).retention = s.retention := rfl
@[simp] theorem State.discardDenylist_draws (s : State)  : (s.discardDenylist).draws = s.draws := rfl

/-! ### `setDoubt` -/

@[simp] theorem State.setDoubt_pending (s : State) (xs : List (Stored DoubtEntry)) : (s.setDoubt xs).pending = s.pending := rfl
@[simp] theorem State.setDoubt_phase (s : State) (xs : List (Stored DoubtEntry)) : (s.setDoubt xs).phase = s.phase := rfl
@[simp] theorem State.setDoubt_cause (s : State) (xs : List (Stored DoubtEntry)) : (s.setDoubt xs).cause = s.cause := rfl
@[simp] theorem State.setDoubt_report (s : State) (xs : List (Stored DoubtEntry)) : (s.setDoubt xs).report = s.report := rfl
@[simp] theorem State.setDoubt_resetLine (s : State) (xs : List (Stored DoubtEntry)) : (s.setDoubt xs).resetLine = s.resetLine := rfl
@[simp] theorem State.setDoubt_emergency (s : State) (xs : List (Stored DoubtEntry)) : (s.setDoubt xs).emergency = s.emergency := rfl
@[simp] theorem State.setDoubt_link (s : State) (xs : List (Stored DoubtEntry)) : (s.setDoubt xs).link = s.link := rfl
@[simp] theorem State.setDoubt_events (s : State) (xs : List (Stored DoubtEntry)) : (s.setDoubt xs).events = s.events := rfl
@[simp] theorem State.setDoubt_clock (s : State) (xs : List (Stored DoubtEntry)) : (s.setDoubt xs).clock = s.clock := rfl
@[simp] theorem State.setDoubt_settings (s : State) (xs : List (Stored DoubtEntry)) : (s.setDoubt xs).settings = s.settings := rfl
@[simp] theorem State.setDoubt_keys (s : State) (xs : List (Stored DoubtEntry)) : (s.setDoubt xs).keys = s.keys := rfl
@[simp] theorem State.setDoubt_tariff (s : State) (xs : List (Stored DoubtEntry)) : (s.setDoubt xs).tariff = s.tariff := rfl
@[simp] theorem State.setDoubt_screening (s : State) (xs : List (Stored DoubtEntry)) : (s.setDoubt xs).screening = s.screening := rfl
@[simp] theorem State.setDoubt_journal (s : State) (xs : List (Stored DoubtEntry)) : (s.setDoubt xs).journal = s.journal := rfl
@[simp] theorem State.setDoubt_lanes (s : State) (xs : List (Stored DoubtEntry)) : (s.setDoubt xs).lanes = s.lanes := rfl
@[simp] theorem State.setDoubt_display (s : State) (xs : List (Stored DoubtEntry)) : (s.setDoubt xs).display = s.display := rfl
@[simp] theorem State.setDoubt_ecc (s : State) (xs : List (Stored DoubtEntry)) : (s.setDoubt xs).ecc = s.ecc := rfl
@[simp] theorem State.setDoubt_retention (s : State) (xs : List (Stored DoubtEntry)) : (s.setDoubt xs).retention = s.retention := rfl
@[simp] theorem State.setDoubt_draws (s : State) (xs : List (Stored DoubtEntry)) : (s.setDoubt xs).draws = s.draws := rfl

/-! ### `setHeader` -/

@[simp] theorem State.setHeader_pending (s : State) (l : Lane) (k : Option ChangeKind) : (s.setHeader l k).pending = s.pending := rfl
@[simp] theorem State.setHeader_phase (s : State) (l : Lane) (k : Option ChangeKind) : (s.setHeader l k).phase = s.phase := rfl
@[simp] theorem State.setHeader_cause (s : State) (l : Lane) (k : Option ChangeKind) : (s.setHeader l k).cause = s.cause := rfl
@[simp] theorem State.setHeader_report (s : State) (l : Lane) (k : Option ChangeKind) : (s.setHeader l k).report = s.report := rfl
@[simp] theorem State.setHeader_resetLine (s : State) (l : Lane) (k : Option ChangeKind) : (s.setHeader l k).resetLine = s.resetLine := rfl
@[simp] theorem State.setHeader_emergency (s : State) (l : Lane) (k : Option ChangeKind) : (s.setHeader l k).emergency = s.emergency := rfl
@[simp] theorem State.setHeader_link (s : State) (l : Lane) (k : Option ChangeKind) : (s.setHeader l k).link = s.link := rfl
@[simp] theorem State.setHeader_events (s : State) (l : Lane) (k : Option ChangeKind) : (s.setHeader l k).events = s.events := rfl
@[simp] theorem State.setHeader_clock (s : State) (l : Lane) (k : Option ChangeKind) : (s.setHeader l k).clock = s.clock := rfl
@[simp] theorem State.setHeader_settings (s : State) (l : Lane) (k : Option ChangeKind) : (s.setHeader l k).settings = s.settings := rfl
@[simp] theorem State.setHeader_keys (s : State) (l : Lane) (k : Option ChangeKind) : (s.setHeader l k).keys = s.keys := rfl
@[simp] theorem State.setHeader_tariff (s : State) (l : Lane) (k : Option ChangeKind) : (s.setHeader l k).tariff = s.tariff := rfl
@[simp] theorem State.setHeader_screening (s : State) (l : Lane) (k : Option ChangeKind) : (s.setHeader l k).screening = s.screening := rfl
@[simp] theorem State.setHeader_journal (s : State) (l : Lane) (k : Option ChangeKind) : (s.setHeader l k).journal = s.journal := rfl
@[simp] theorem State.setHeader_lanes (s : State) (l : Lane) (k : Option ChangeKind) : (s.setHeader l k).lanes = s.lanes := rfl
@[simp] theorem State.setHeader_display (s : State) (l : Lane) (k : Option ChangeKind) : (s.setHeader l k).display = s.display := rfl
@[simp] theorem State.setHeader_ecc (s : State) (l : Lane) (k : Option ChangeKind) : (s.setHeader l k).ecc = s.ecc := rfl
@[simp] theorem State.setHeader_retention (s : State) (l : Lane) (k : Option ChangeKind) : (s.setHeader l k).retention = s.retention := rfl
@[simp] theorem State.setHeader_draws (s : State) (l : Lane) (k : Option ChangeKind) : (s.setHeader l k).draws = s.draws := rfl

/-! ### `releaseReservation` -/

@[simp] theorem State.releaseReservation_pending (s : State) (l : Lane) : (s.releaseReservation l).pending = s.pending := rfl
@[simp] theorem State.releaseReservation_phase (s : State) (l : Lane) : (s.releaseReservation l).phase = s.phase := rfl
@[simp] theorem State.releaseReservation_cause (s : State) (l : Lane) : (s.releaseReservation l).cause = s.cause := rfl
@[simp] theorem State.releaseReservation_report (s : State) (l : Lane) : (s.releaseReservation l).report = s.report := rfl
@[simp] theorem State.releaseReservation_resetLine (s : State) (l : Lane) : (s.releaseReservation l).resetLine = s.resetLine := rfl
@[simp] theorem State.releaseReservation_emergency (s : State) (l : Lane) : (s.releaseReservation l).emergency = s.emergency := rfl
@[simp] theorem State.releaseReservation_link (s : State) (l : Lane) : (s.releaseReservation l).link = s.link := rfl
@[simp] theorem State.releaseReservation_events (s : State) (l : Lane) : (s.releaseReservation l).events = s.events := rfl
@[simp] theorem State.releaseReservation_clock (s : State) (l : Lane) : (s.releaseReservation l).clock = s.clock := rfl
@[simp] theorem State.releaseReservation_settings (s : State) (l : Lane) : (s.releaseReservation l).settings = s.settings := rfl
@[simp] theorem State.releaseReservation_keys (s : State) (l : Lane) : (s.releaseReservation l).keys = s.keys := rfl
@[simp] theorem State.releaseReservation_tariff (s : State) (l : Lane) : (s.releaseReservation l).tariff = s.tariff := rfl
@[simp] theorem State.releaseReservation_screening (s : State) (l : Lane) : (s.releaseReservation l).screening = s.screening := rfl
@[simp] theorem State.releaseReservation_doubt (s : State) (l : Lane) : (s.releaseReservation l).doubt = s.doubt := rfl
@[simp] theorem State.releaseReservation_lanes (s : State) (l : Lane) : (s.releaseReservation l).lanes = s.lanes := rfl
@[simp] theorem State.releaseReservation_display (s : State) (l : Lane) : (s.releaseReservation l).display = s.display := rfl
@[simp] theorem State.releaseReservation_ecc (s : State) (l : Lane) : (s.releaseReservation l).ecc = s.ecc := rfl
@[simp] theorem State.releaseReservation_retention (s : State) (l : Lane) : (s.releaseReservation l).retention = s.retention := rfl
@[simp] theorem State.releaseReservation_draws (s : State) (l : Lane) : (s.releaseReservation l).draws = s.draws := rfl

/-! ### `handExchange` -/

@[simp] theorem State.handExchange_pending (s : State) (l : Lane) (e : Exchange) : (s.handExchange l e).pending = s.pending := rfl
@[simp] theorem State.handExchange_phase (s : State) (l : Lane) (e : Exchange) : (s.handExchange l e).phase = s.phase := rfl
@[simp] theorem State.handExchange_cause (s : State) (l : Lane) (e : Exchange) : (s.handExchange l e).cause = s.cause := rfl
@[simp] theorem State.handExchange_report (s : State) (l : Lane) (e : Exchange) : (s.handExchange l e).report = s.report := rfl
@[simp] theorem State.handExchange_resetLine (s : State) (l : Lane) (e : Exchange) : (s.handExchange l e).resetLine = s.resetLine := rfl
@[simp] theorem State.handExchange_emergency (s : State) (l : Lane) (e : Exchange) : (s.handExchange l e).emergency = s.emergency := rfl
@[simp] theorem State.handExchange_link (s : State) (l : Lane) (e : Exchange) : (s.handExchange l e).link = s.link := rfl
@[simp] theorem State.handExchange_events (s : State) (l : Lane) (e : Exchange) : (s.handExchange l e).events = s.events := rfl
@[simp] theorem State.handExchange_clock (s : State) (l : Lane) (e : Exchange) : (s.handExchange l e).clock = s.clock := rfl
@[simp] theorem State.handExchange_settings (s : State) (l : Lane) (e : Exchange) : (s.handExchange l e).settings = s.settings := rfl
@[simp] theorem State.handExchange_keys (s : State) (l : Lane) (e : Exchange) : (s.handExchange l e).keys = s.keys := rfl
@[simp] theorem State.handExchange_tariff (s : State) (l : Lane) (e : Exchange) : (s.handExchange l e).tariff = s.tariff := rfl
@[simp] theorem State.handExchange_screening (s : State) (l : Lane) (e : Exchange) : (s.handExchange l e).screening = s.screening := rfl
@[simp] theorem State.handExchange_doubt (s : State) (l : Lane) (e : Exchange) : (s.handExchange l e).doubt = s.doubt := rfl
@[simp] theorem State.handExchange_journal (s : State) (l : Lane) (e : Exchange) : (s.handExchange l e).journal = s.journal := rfl
@[simp] theorem State.handExchange_display (s : State) (l : Lane) (e : Exchange) : (s.handExchange l e).display = s.display := rfl
@[simp] theorem State.handExchange_ecc (s : State) (l : Lane) (e : Exchange) : (s.handExchange l e).ecc = s.ecc := rfl
@[simp] theorem State.handExchange_retention (s : State) (l : Lane) (e : Exchange) : (s.handExchange l e).retention = s.retention := rfl
@[simp] theorem State.handExchange_draws (s : State) (l : Lane) (e : Exchange) : (s.handExchange l e).draws = s.draws := rfl

/-! ### `endExchange` -/

@[simp] theorem State.endExchange_pending (s : State) (l : Lane) : (s.endExchange l).pending = s.pending := rfl
@[simp] theorem State.endExchange_phase (s : State) (l : Lane) : (s.endExchange l).phase = s.phase := rfl
@[simp] theorem State.endExchange_cause (s : State) (l : Lane) : (s.endExchange l).cause = s.cause := rfl
@[simp] theorem State.endExchange_report (s : State) (l : Lane) : (s.endExchange l).report = s.report := rfl
@[simp] theorem State.endExchange_resetLine (s : State) (l : Lane) : (s.endExchange l).resetLine = s.resetLine := rfl
@[simp] theorem State.endExchange_emergency (s : State) (l : Lane) : (s.endExchange l).emergency = s.emergency := rfl
@[simp] theorem State.endExchange_link (s : State) (l : Lane) : (s.endExchange l).link = s.link := rfl
@[simp] theorem State.endExchange_events (s : State) (l : Lane) : (s.endExchange l).events = s.events := rfl
@[simp] theorem State.endExchange_clock (s : State) (l : Lane) : (s.endExchange l).clock = s.clock := rfl
@[simp] theorem State.endExchange_settings (s : State) (l : Lane) : (s.endExchange l).settings = s.settings := rfl
@[simp] theorem State.endExchange_keys (s : State) (l : Lane) : (s.endExchange l).keys = s.keys := rfl
@[simp] theorem State.endExchange_tariff (s : State) (l : Lane) : (s.endExchange l).tariff = s.tariff := rfl
@[simp] theorem State.endExchange_screening (s : State) (l : Lane) : (s.endExchange l).screening = s.screening := rfl
@[simp] theorem State.endExchange_doubt (s : State) (l : Lane) : (s.endExchange l).doubt = s.doubt := rfl
@[simp] theorem State.endExchange_journal (s : State) (l : Lane) : (s.endExchange l).journal = s.journal := rfl
@[simp] theorem State.endExchange_display (s : State) (l : Lane) : (s.endExchange l).display = s.display := rfl
@[simp] theorem State.endExchange_ecc (s : State) (l : Lane) : (s.endExchange l).ecc = s.ecc := rfl
@[simp] theorem State.endExchange_retention (s : State) (l : Lane) : (s.endExchange l).retention = s.retention := rfl
@[simp] theorem State.endExchange_draws (s : State) (l : Lane) : (s.endExchange l).draws = s.draws := rfl

/-! ### `setField` -/

@[simp] theorem State.setField_pending (s : State) (l : Lane) (b : Bool) : (s.setField l b).pending = s.pending := rfl
@[simp] theorem State.setField_phase (s : State) (l : Lane) (b : Bool) : (s.setField l b).phase = s.phase := rfl
@[simp] theorem State.setField_cause (s : State) (l : Lane) (b : Bool) : (s.setField l b).cause = s.cause := rfl
@[simp] theorem State.setField_report (s : State) (l : Lane) (b : Bool) : (s.setField l b).report = s.report := rfl
@[simp] theorem State.setField_resetLine (s : State) (l : Lane) (b : Bool) : (s.setField l b).resetLine = s.resetLine := rfl
@[simp] theorem State.setField_emergency (s : State) (l : Lane) (b : Bool) : (s.setField l b).emergency = s.emergency := rfl
@[simp] theorem State.setField_link (s : State) (l : Lane) (b : Bool) : (s.setField l b).link = s.link := rfl
@[simp] theorem State.setField_events (s : State) (l : Lane) (b : Bool) : (s.setField l b).events = s.events := rfl
@[simp] theorem State.setField_clock (s : State) (l : Lane) (b : Bool) : (s.setField l b).clock = s.clock := rfl
@[simp] theorem State.setField_settings (s : State) (l : Lane) (b : Bool) : (s.setField l b).settings = s.settings := rfl
@[simp] theorem State.setField_keys (s : State) (l : Lane) (b : Bool) : (s.setField l b).keys = s.keys := rfl
@[simp] theorem State.setField_tariff (s : State) (l : Lane) (b : Bool) : (s.setField l b).tariff = s.tariff := rfl
@[simp] theorem State.setField_screening (s : State) (l : Lane) (b : Bool) : (s.setField l b).screening = s.screening := rfl
@[simp] theorem State.setField_doubt (s : State) (l : Lane) (b : Bool) : (s.setField l b).doubt = s.doubt := rfl
@[simp] theorem State.setField_journal (s : State) (l : Lane) (b : Bool) : (s.setField l b).journal = s.journal := rfl
@[simp] theorem State.setField_display (s : State) (l : Lane) (b : Bool) : (s.setField l b).display = s.display := rfl
@[simp] theorem State.setField_ecc (s : State) (l : Lane) (b : Bool) : (s.setField l b).ecc = s.ecc := rfl
@[simp] theorem State.setField_retention (s : State) (l : Lane) (b : Bool) : (s.setField l b).retention = s.retention := rfl
@[simp] theorem State.setField_draws (s : State) (l : Lane) (b : Bool) : (s.setField l b).draws = s.draws := rfl

/-! ### `noteFindings` -/

@[simp] theorem State.noteFindings_pending (s : State) (m : Memory) (c u : Nat) : (s.noteFindings m c u).pending = s.pending := by
  unfold State.noteFindings; dsimp only; split <;> first | rfl | (split <;> split <;> rfl)
@[simp] theorem State.noteFindings_phase (s : State) (m : Memory) (c u : Nat) : (s.noteFindings m c u).phase = s.phase := by
  unfold State.noteFindings; dsimp only; split <;> first | rfl | (split <;> split <;> rfl)
@[simp] theorem State.noteFindings_cause (s : State) (m : Memory) (c u : Nat) : (s.noteFindings m c u).cause = s.cause := by
  unfold State.noteFindings; dsimp only; split <;> first | rfl | (split <;> split <;> rfl)
@[simp] theorem State.noteFindings_report (s : State) (m : Memory) (c u : Nat) : (s.noteFindings m c u).report = s.report := by
  unfold State.noteFindings; dsimp only; split <;> first | rfl | (split <;> split <;> rfl)
@[simp] theorem State.noteFindings_resetLine (s : State) (m : Memory) (c u : Nat) : (s.noteFindings m c u).resetLine = s.resetLine := by
  unfold State.noteFindings; dsimp only; split <;> first | rfl | (split <;> split <;> rfl)
@[simp] theorem State.noteFindings_emergency (s : State) (m : Memory) (c u : Nat) : (s.noteFindings m c u).emergency = s.emergency := by
  unfold State.noteFindings; dsimp only; split <;> first | rfl | (split <;> split <;> rfl)
@[simp] theorem State.noteFindings_link (s : State) (m : Memory) (c u : Nat) : (s.noteFindings m c u).link = s.link := by
  unfold State.noteFindings; dsimp only; split <;> first | rfl | (split <;> split <;> rfl)
@[simp] theorem State.noteFindings_clock (s : State) (m : Memory) (c u : Nat) : (s.noteFindings m c u).clock = s.clock := by
  unfold State.noteFindings; dsimp only; split <;> first | rfl | (split <;> split <;> rfl)
@[simp] theorem State.noteFindings_settings (s : State) (m : Memory) (c u : Nat) : (s.noteFindings m c u).settings = s.settings := by
  unfold State.noteFindings; dsimp only; split <;> first | rfl | (split <;> split <;> rfl)
@[simp] theorem State.noteFindings_keys (s : State) (m : Memory) (c u : Nat) : (s.noteFindings m c u).keys = s.keys := by
  unfold State.noteFindings; dsimp only; split <;> first | rfl | (split <;> split <;> rfl)
@[simp] theorem State.noteFindings_tariff (s : State) (m : Memory) (c u : Nat) : (s.noteFindings m c u).tariff = s.tariff := by
  unfold State.noteFindings; dsimp only; split <;> first | rfl | (split <;> split <;> rfl)
@[simp] theorem State.noteFindings_screening (s : State) (m : Memory) (c u : Nat) : (s.noteFindings m c u).screening = s.screening := by
  unfold State.noteFindings; dsimp only; split <;> first | rfl | (split <;> split <;> rfl)
@[simp] theorem State.noteFindings_doubt (s : State) (m : Memory) (c u : Nat) : (s.noteFindings m c u).doubt = s.doubt := by
  unfold State.noteFindings; dsimp only; split <;> first | rfl | (split <;> split <;> rfl)
@[simp] theorem State.noteFindings_journal (s : State) (m : Memory) (c u : Nat) : (s.noteFindings m c u).journal = s.journal := by
  unfold State.noteFindings; dsimp only; split <;> first | rfl | (split <;> split <;> rfl)
@[simp] theorem State.noteFindings_lanes (s : State) (m : Memory) (c u : Nat) : (s.noteFindings m c u).lanes = s.lanes := by
  unfold State.noteFindings; dsimp only; split <;> first | rfl | (split <;> split <;> rfl)
@[simp] theorem State.noteFindings_display (s : State) (m : Memory) (c u : Nat) : (s.noteFindings m c u).display = s.display := by
  unfold State.noteFindings; dsimp only; split <;> first | rfl | (split <;> split <;> rfl)
@[simp] theorem State.noteFindings_retention (s : State) (m : Memory) (c u : Nat) : (s.noteFindings m c u).retention = s.retention := by
  unfold State.noteFindings; dsimp only; split <;> first | rfl | (split <;> split <;> rfl)
@[simp] theorem State.noteFindings_draws (s : State) (m : Memory) (c u : Nat) : (s.noteFindings m c u).draws = s.draws := by
  unfold State.noteFindings; dsimp only; split <;> first | rfl | (split <;> split <;> rfl)

/-! ### `noteRead` -/

@[simp] theorem State.noteRead_pending (s : State) (m : Memory) (i : Integrity) : (s.noteRead m i).pending = s.pending := by
  cases i <;> simp [State.noteRead]
@[simp] theorem State.noteRead_phase (s : State) (m : Memory) (i : Integrity) : (s.noteRead m i).phase = s.phase := by
  cases i <;> simp [State.noteRead]
@[simp] theorem State.noteRead_cause (s : State) (m : Memory) (i : Integrity) : (s.noteRead m i).cause = s.cause := by
  cases i <;> simp [State.noteRead]
@[simp] theorem State.noteRead_report (s : State) (m : Memory) (i : Integrity) : (s.noteRead m i).report = s.report := by
  cases i <;> simp [State.noteRead]
@[simp] theorem State.noteRead_resetLine (s : State) (m : Memory) (i : Integrity) : (s.noteRead m i).resetLine = s.resetLine := by
  cases i <;> simp [State.noteRead]
@[simp] theorem State.noteRead_emergency (s : State) (m : Memory) (i : Integrity) : (s.noteRead m i).emergency = s.emergency := by
  cases i <;> simp [State.noteRead]
@[simp] theorem State.noteRead_link (s : State) (m : Memory) (i : Integrity) : (s.noteRead m i).link = s.link := by
  cases i <;> simp [State.noteRead]
@[simp] theorem State.noteRead_clock (s : State) (m : Memory) (i : Integrity) : (s.noteRead m i).clock = s.clock := by
  cases i <;> simp [State.noteRead]
@[simp] theorem State.noteRead_settings (s : State) (m : Memory) (i : Integrity) : (s.noteRead m i).settings = s.settings := by
  cases i <;> simp [State.noteRead]
@[simp] theorem State.noteRead_keys (s : State) (m : Memory) (i : Integrity) : (s.noteRead m i).keys = s.keys := by
  cases i <;> simp [State.noteRead]
@[simp] theorem State.noteRead_tariff (s : State) (m : Memory) (i : Integrity) : (s.noteRead m i).tariff = s.tariff := by
  cases i <;> simp [State.noteRead]
@[simp] theorem State.noteRead_screening (s : State) (m : Memory) (i : Integrity) : (s.noteRead m i).screening = s.screening := by
  cases i <;> simp [State.noteRead]
@[simp] theorem State.noteRead_doubt (s : State) (m : Memory) (i : Integrity) : (s.noteRead m i).doubt = s.doubt := by
  cases i <;> simp [State.noteRead]
@[simp] theorem State.noteRead_journal (s : State) (m : Memory) (i : Integrity) : (s.noteRead m i).journal = s.journal := by
  cases i <;> simp [State.noteRead]
@[simp] theorem State.noteRead_lanes (s : State) (m : Memory) (i : Integrity) : (s.noteRead m i).lanes = s.lanes := by
  cases i <;> simp [State.noteRead]
@[simp] theorem State.noteRead_display (s : State) (m : Memory) (i : Integrity) : (s.noteRead m i).display = s.display := by
  cases i <;> simp [State.noteRead]
@[simp] theorem State.noteRead_retention (s : State) (m : Memory) (i : Integrity) : (s.noteRead m i).retention = s.retention := by
  cases i <;> simp [State.noteRead]
@[simp] theorem State.noteRead_draws (s : State) (m : Memory) (i : Integrity) : (s.noteRead m i).draws = s.draws := by
  cases i <;> simp [State.noteRead]

/-! ### `store` -/

@[simp] theorem State.store_pending {α : Type} (s : State) (m : Memory) (x : α) : (s.store m x).2.pending = s.pending := by
  unfold State.store; dsimp only; split <;> rfl
@[simp] theorem State.store_phase {α : Type} (s : State) (m : Memory) (x : α) : (s.store m x).2.phase = s.phase := by
  unfold State.store; dsimp only; split <;> rfl
@[simp] theorem State.store_cause {α : Type} (s : State) (m : Memory) (x : α) : (s.store m x).2.cause = s.cause := by
  unfold State.store; dsimp only; split <;> rfl
@[simp] theorem State.store_report {α : Type} (s : State) (m : Memory) (x : α) : (s.store m x).2.report = s.report := by
  unfold State.store; dsimp only; split <;> rfl
@[simp] theorem State.store_resetLine {α : Type} (s : State) (m : Memory) (x : α) : (s.store m x).2.resetLine = s.resetLine := by
  unfold State.store; dsimp only; split <;> rfl
@[simp] theorem State.store_emergency {α : Type} (s : State) (m : Memory) (x : α) : (s.store m x).2.emergency = s.emergency := by
  unfold State.store; dsimp only; split <;> rfl
@[simp] theorem State.store_link {α : Type} (s : State) (m : Memory) (x : α) : (s.store m x).2.link = s.link := by
  unfold State.store; dsimp only; split <;> rfl
@[simp] theorem State.store_events {α : Type} (s : State) (m : Memory) (x : α) : (s.store m x).2.events = s.events := by
  unfold State.store; dsimp only; split <;> rfl
@[simp] theorem State.store_clock {α : Type} (s : State) (m : Memory) (x : α) : (s.store m x).2.clock = s.clock := by
  unfold State.store; dsimp only; split <;> rfl
@[simp] theorem State.store_settings {α : Type} (s : State) (m : Memory) (x : α) : (s.store m x).2.settings = s.settings := by
  unfold State.store; dsimp only; split <;> rfl
@[simp] theorem State.store_keys {α : Type} (s : State) (m : Memory) (x : α) : (s.store m x).2.keys = s.keys := by
  unfold State.store; dsimp only; split <;> rfl
@[simp] theorem State.store_tariff {α : Type} (s : State) (m : Memory) (x : α) : (s.store m x).2.tariff = s.tariff := by
  unfold State.store; dsimp only; split <;> rfl
@[simp] theorem State.store_screening {α : Type} (s : State) (m : Memory) (x : α) : (s.store m x).2.screening = s.screening := by
  unfold State.store; dsimp only; split <;> rfl
@[simp] theorem State.store_doubt {α : Type} (s : State) (m : Memory) (x : α) : (s.store m x).2.doubt = s.doubt := by
  unfold State.store; dsimp only; split <;> rfl
@[simp] theorem State.store_journal {α : Type} (s : State) (m : Memory) (x : α) : (s.store m x).2.journal = s.journal := by
  unfold State.store; dsimp only; split <;> rfl
@[simp] theorem State.store_lanes {α : Type} (s : State) (m : Memory) (x : α) : (s.store m x).2.lanes = s.lanes := by
  unfold State.store; dsimp only; split <;> rfl
@[simp] theorem State.store_display {α : Type} (s : State) (m : Memory) (x : α) : (s.store m x).2.display = s.display := by
  unfold State.store; dsimp only; split <;> rfl
@[simp] theorem State.store_retention {α : Type} (s : State) (m : Memory) (x : α) : (s.store m x).2.retention = s.retention := by
  unfold State.store; dsimp only; split <;> rfl
@[simp] theorem State.store_draws {α : Type} (s : State) (m : Memory) (x : α) : (s.store m x).2.draws = s.draws := by
  unfold State.store; dsimp only; split <;> rfl

/-! ### Lanes under updates that reach no lane -/

@[simp] theorem State.raise_lane (s : State) (e : Event) (l : Lane) : (s.raise e).lane l = s.lane l :=
  State.lane_congr (s.raise_lanes _) l
@[simp] theorem State.raise_tap (s : State) (e : Event) (l : Lane) : (s.raise e).tap l = s.tap l :=
  congrArg (·.tap) (State.lane_congr (s.raise_lanes _) l)
@[simp] theorem State.raise_gate (s : State) (e : Event) (l : Lane) : (s.raise e).gate l = s.gate l :=
  congrArg (·.gate) (State.lane_congr (s.raise_lanes _) l)
@[simp] theorem State.raise_ind (s : State) (e : Event) (l : Lane) : (s.raise e).ind l = s.ind l :=
  congrArg (·.ind) (State.lane_congr (s.raise_lanes _) l)
@[simp] theorem State.modLink_lane (s : State) (f : Link → Link) (l : Lane) : (s.modLink f).lane l = s.lane l :=
  State.lane_congr (s.modLink_lanes _) l
@[simp] theorem State.modLink_tap (s : State) (f : Link → Link) (l : Lane) : (s.modLink f).tap l = s.tap l :=
  congrArg (·.tap) (State.lane_congr (s.modLink_lanes _) l)
@[simp] theorem State.modLink_gate (s : State) (f : Link → Link) (l : Lane) : (s.modLink f).gate l = s.gate l :=
  congrArg (·.gate) (State.lane_congr (s.modLink_lanes _) l)
@[simp] theorem State.modLink_ind (s : State) (f : Link → Link) (l : Lane) : (s.modLink f).ind l = s.ind l :=
  congrArg (·.ind) (State.lane_congr (s.modLink_lanes _) l)
@[simp] theorem State.setSightings_lane (s : State) (xs : List (Stored Sighting)) (l : Lane) : (s.setSightings xs).lane l = s.lane l :=
  State.lane_congr (s.setSightings_lanes _) l
@[simp] theorem State.setSightings_tap (s : State) (xs : List (Stored Sighting)) (l : Lane) : (s.setSightings xs).tap l = s.tap l :=
  congrArg (·.tap) (State.lane_congr (s.setSightings_lanes _) l)
@[simp] theorem State.setSightings_gate (s : State) (xs : List (Stored Sighting)) (l : Lane) : (s.setSightings xs).gate l = s.gate l :=
  congrArg (·.gate) (State.lane_congr (s.setSightings_lanes _) l)
@[simp] theorem State.setSightings_ind (s : State) (xs : List (Stored Sighting)) (l : Lane) : (s.setSightings xs).ind l = s.ind l :=
  congrArg (·.ind) (State.lane_congr (s.setSightings_lanes _) l)
@[simp] theorem State.setDenylist_lane (s : State) (xs : List (Stored DenyEntry)) (l : Lane) : (s.setDenylist xs).lane l = s.lane l :=
  State.lane_congr (s.setDenylist_lanes _) l
@[simp] theorem State.setDenylist_tap (s : State) (xs : List (Stored DenyEntry)) (l : Lane) : (s.setDenylist xs).tap l = s.tap l :=
  congrArg (·.tap) (State.lane_congr (s.setDenylist_lanes _) l)
@[simp] theorem State.setDenylist_gate (s : State) (xs : List (Stored DenyEntry)) (l : Lane) : (s.setDenylist xs).gate l = s.gate l :=
  congrArg (·.gate) (State.lane_congr (s.setDenylist_lanes _) l)
@[simp] theorem State.setDenylist_ind (s : State) (xs : List (Stored DenyEntry)) (l : Lane) : (s.setDenylist xs).ind l = s.ind l :=
  congrArg (·.ind) (State.lane_congr (s.setDenylist_lanes _) l)
@[simp] theorem State.setSuspects_lane (s : State) (xs : List (Stored SuspectEntry)) (l : Lane) : (s.setSuspects xs).lane l = s.lane l :=
  State.lane_congr (s.setSuspects_lanes _) l
@[simp] theorem State.setSuspects_tap (s : State) (xs : List (Stored SuspectEntry)) (l : Lane) : (s.setSuspects xs).tap l = s.tap l :=
  congrArg (·.tap) (State.lane_congr (s.setSuspects_lanes _) l)
@[simp] theorem State.setSuspects_gate (s : State) (xs : List (Stored SuspectEntry)) (l : Lane) : (s.setSuspects xs).gate l = s.gate l :=
  congrArg (·.gate) (State.lane_congr (s.setSuspects_lanes _) l)
@[simp] theorem State.setSuspects_ind (s : State) (xs : List (Stored SuspectEntry)) (l : Lane) : (s.setSuspects xs).ind l = s.ind l :=
  congrArg (·.ind) (State.lane_congr (s.setSuspects_lanes _) l)
@[simp] theorem State.countScreen_lane (s : State) (f : ScreenCounters → ScreenCounters) (l : Lane) : (s.countScreen f).lane l = s.lane l :=
  State.lane_congr (s.countScreen_lanes _) l
@[simp] theorem State.countScreen_tap (s : State) (f : ScreenCounters → ScreenCounters) (l : Lane) : (s.countScreen f).tap l = s.tap l :=
  congrArg (·.tap) (State.lane_congr (s.countScreen_lanes _) l)
@[simp] theorem State.countScreen_gate (s : State) (f : ScreenCounters → ScreenCounters) (l : Lane) : (s.countScreen f).gate l = s.gate l :=
  congrArg (·.gate) (State.lane_congr (s.countScreen_lanes _) l)
@[simp] theorem State.countScreen_ind (s : State) (f : ScreenCounters → ScreenCounters) (l : Lane) : (s.countScreen f).ind l = s.ind l :=
  congrArg (·.ind) (State.lane_congr (s.countScreen_lanes _) l)
@[simp] theorem State.discardDenylist_lane (s : State)  (l : Lane) : (s.discardDenylist).lane l = s.lane l :=
  State.lane_congr (s.discardDenylist_lanes) l
@[simp] theorem State.discardDenylist_tap (s : State)  (l : Lane) : (s.discardDenylist).tap l = s.tap l :=
  congrArg (·.tap) (State.lane_congr (s.discardDenylist_lanes) l)
@[simp] theorem State.discardDenylist_gate (s : State)  (l : Lane) : (s.discardDenylist).gate l = s.gate l :=
  congrArg (·.gate) (State.lane_congr (s.discardDenylist_lanes) l)
@[simp] theorem State.discardDenylist_ind (s : State)  (l : Lane) : (s.discardDenylist).ind l = s.ind l :=
  congrArg (·.ind) (State.lane_congr (s.discardDenylist_lanes) l)
@[simp] theorem State.setDoubt_lane (s : State) (xs : List (Stored DoubtEntry)) (l : Lane) : (s.setDoubt xs).lane l = s.lane l :=
  State.lane_congr (s.setDoubt_lanes _) l
@[simp] theorem State.setDoubt_tap (s : State) (xs : List (Stored DoubtEntry)) (l : Lane) : (s.setDoubt xs).tap l = s.tap l :=
  congrArg (·.tap) (State.lane_congr (s.setDoubt_lanes _) l)
@[simp] theorem State.setDoubt_gate (s : State) (xs : List (Stored DoubtEntry)) (l : Lane) : (s.setDoubt xs).gate l = s.gate l :=
  congrArg (·.gate) (State.lane_congr (s.setDoubt_lanes _) l)
@[simp] theorem State.setDoubt_ind (s : State) (xs : List (Stored DoubtEntry)) (l : Lane) : (s.setDoubt xs).ind l = s.ind l :=
  congrArg (·.ind) (State.lane_congr (s.setDoubt_lanes _) l)
@[simp] theorem State.setHeader_lane (s : State) (k : Lane) (c : Option ChangeKind) (l : Lane) : (s.setHeader k c).lane l = s.lane l :=
  State.lane_congr (s.setHeader_lanes _ _) l
@[simp] theorem State.setHeader_tap (s : State) (k : Lane) (c : Option ChangeKind) (l : Lane) : (s.setHeader k c).tap l = s.tap l :=
  congrArg (·.tap) (State.lane_congr (s.setHeader_lanes _ _) l)
@[simp] theorem State.setHeader_gate (s : State) (k : Lane) (c : Option ChangeKind) (l : Lane) : (s.setHeader k c).gate l = s.gate l :=
  congrArg (·.gate) (State.lane_congr (s.setHeader_lanes _ _) l)
@[simp] theorem State.setHeader_ind (s : State) (k : Lane) (c : Option ChangeKind) (l : Lane) : (s.setHeader k c).ind l = s.ind l :=
  congrArg (·.ind) (State.lane_congr (s.setHeader_lanes _ _) l)
@[simp] theorem State.releaseReservation_lane (s : State) (k : Lane) (l : Lane) : (s.releaseReservation k).lane l = s.lane l :=
  State.lane_congr (s.releaseReservation_lanes _) l
@[simp] theorem State.releaseReservation_tap (s : State) (k : Lane) (l : Lane) : (s.releaseReservation k).tap l = s.tap l :=
  congrArg (·.tap) (State.lane_congr (s.releaseReservation_lanes _) l)
@[simp] theorem State.releaseReservation_gate (s : State) (k : Lane) (l : Lane) : (s.releaseReservation k).gate l = s.gate l :=
  congrArg (·.gate) (State.lane_congr (s.releaseReservation_lanes _) l)
@[simp] theorem State.releaseReservation_ind (s : State) (k : Lane) (l : Lane) : (s.releaseReservation k).ind l = s.ind l :=
  congrArg (·.ind) (State.lane_congr (s.releaseReservation_lanes _) l)
@[simp] theorem State.noteFindings_lane (s : State) (m : Memory) (c u : Nat) (l : Lane) : (s.noteFindings m c u).lane l = s.lane l :=
  State.lane_congr (s.noteFindings_lanes _ _ _) l
@[simp] theorem State.noteFindings_tap (s : State) (m : Memory) (c u : Nat) (l : Lane) : (s.noteFindings m c u).tap l = s.tap l :=
  congrArg (·.tap) (State.lane_congr (s.noteFindings_lanes _ _ _) l)
@[simp] theorem State.noteFindings_gate (s : State) (m : Memory) (c u : Nat) (l : Lane) : (s.noteFindings m c u).gate l = s.gate l :=
  congrArg (·.gate) (State.lane_congr (s.noteFindings_lanes _ _ _) l)
@[simp] theorem State.noteFindings_ind (s : State) (m : Memory) (c u : Nat) (l : Lane) : (s.noteFindings m c u).ind l = s.ind l :=
  congrArg (·.ind) (State.lane_congr (s.noteFindings_lanes _ _ _) l)
@[simp] theorem State.noteRead_lane (s : State) (m : Memory) (i : Integrity) (l : Lane) : (s.noteRead m i).lane l = s.lane l :=
  State.lane_congr (s.noteRead_lanes _ _) l
@[simp] theorem State.noteRead_tap (s : State) (m : Memory) (i : Integrity) (l : Lane) : (s.noteRead m i).tap l = s.tap l :=
  congrArg (·.tap) (State.lane_congr (s.noteRead_lanes _ _) l)
@[simp] theorem State.noteRead_gate (s : State) (m : Memory) (i : Integrity) (l : Lane) : (s.noteRead m i).gate l = s.gate l :=
  congrArg (·.gate) (State.lane_congr (s.noteRead_lanes _ _) l)
@[simp] theorem State.noteRead_ind (s : State) (m : Memory) (i : Integrity) (l : Lane) : (s.noteRead m i).ind l = s.ind l :=
  congrArg (·.ind) (State.lane_congr (s.noteRead_lanes _ _) l)
@[simp] theorem State.store_lane {α : Type} (s : State) (m : Memory) (x : α) (l : Lane) : (s.store m x).2.lane l = s.lane l :=
  State.lane_congr (s.store_lanes m x) l
@[simp] theorem State.store_tap {α : Type} (s : State) (m : Memory) (x : α) (l : Lane) : (s.store m x).2.tap l = s.tap l :=
  congrArg (·.tap) (State.lane_congr (s.store_lanes m x) l)
@[simp] theorem State.store_gate {α : Type} (s : State) (m : Memory) (x : α) (l : Lane) : (s.store m x).2.gate l = s.gate l :=
  congrArg (·.gate) (State.lane_congr (s.store_lanes m x) l)
@[simp] theorem State.store_ind {α : Type} (s : State) (m : Memory) (x : α) (l : Lane) : (s.store m x).2.ind l = s.ind l :=
  congrArg (·.ind) (State.lane_congr (s.store_lanes m x) l)

/-- An item looked up among undamaged items is undamaged. -/
theorem lookup_clean {α : Type} (xs : List (Stored α)) (h : ∀ x ∈ xs, x.bits = .clean) (n : Nat) (y : α) :
    ((xs[n]?).getD (.fresh y)).bits = .clean := by
  cases hx : xs[n]? with
  | none => rfl
  | some v => exact h v (List.mem_of_getElem? hx)

end Machine

end Sys2Proof
end

