-- ==== Sys2Proof/Laws/Display.lean ====
section
/-! SUPPORT. What composing a lane's frame does: the law of the checked read of an undamaged TEMPLATES memory, and what composing
leaves alone. -/

namespace Sys2Proof.Machine

/-- A frame read from undamaged templates changes nothing. -/
theorem State.readFrame_clean {s : State} (h : DisplayClean s) (l : Lane) :
    s.readFrame l = (frameOf s.display (s.ind l), s) := by
  have h1 := lookup_clean s.display.map h.1
  have h2 := lookup_clean s.display.templates h.2
  simp [State.readFrame, Display.entry, h1, State.noteRead, Display.template, h2, frameOf]

/-- Composing from undamaged templates refreshes the lane's indicator and changes nothing else. -/
theorem State.compose_clean {s : State} (h : DisplayClean s) (l : Lane) :
    s.compose l = s.modInd l (refreshed s.display) := by
  simp [State.compose, State.readFrame_clean h, State.modInd, State.modLane, refreshed, State.ind, State.lane]

/-- Reading a frame changes nothing but the memory check unit and the events. -/
theorem State.readFrame_keeps (s : State) (l : Lane) :
    (s.readFrame l).2 = { s with ecc := (s.readFrame l).2.ecc, events := (s.readFrame l).2.events } := by
  have note : ∀ (s : State) (m : Memory) (i : Integrity),
      s.noteRead m i = { s with ecc := (s.noteRead m i).ecc, events := (s.noteRead m i).events } := by
    intro s m i
    cases i <;> simp only [State.noteRead]
    all_goals (unfold State.noteFindings; dsimp only; split <;> rfl)
  unfold State.readFrame
  dsimp only
  split
  · exact note _ _ _
  · split
    · rw [note (s.noteRead _ _), note s]
    · rw [note (s.noteRead _ _), note s]

/-- Updates of an indicator keep the TEMPLATES memory undamaged. -/
@[simp] theorem DisplayClean.modInd {s : State} {l : Lane} {f : Indicator → Indicator} : DisplayClean (s.modInd l f) ↔ DisplayClean s :=
  Iff.rfl

/-- Updates of a passage controller keep the TEMPLATES memory undamaged. -/
@[simp] theorem DisplayClean.modGate {s : State} {l : Lane} {f : Passages → Passages} : DisplayClean (s.modGate l f) ↔ DisplayClean s :=
  Iff.rfl

/-- Updates of a tap controller keep the TEMPLATES memory undamaged. -/
@[simp] theorem DisplayClean.modTap {s : State} {l : Lane} {f : Tap → Tap} : DisplayClean (s.modTap l f) ↔ DisplayClean s :=
  Iff.rfl

end Sys2Proof.Machine
end

