-- ==== Sys2Proof/Laws/Ending.lean ====
section
/-! SUPPORT. What the end of a transaction does, said once (R23). -/

namespace Sys2Proof.Machine

/-- Two units of the same lane merge into one update. -/
theorem State.modLane_eq (s : State) (l : Lane) (f : LaneUnit → LaneUnit) :
    s.modLane l f = { s with lanes := s.lanes.set l (f (s.lane l)) } := rfl

/-- A transaction ends at a lane for which nothing waits: the lane is done, and nothing else changes (R23, R24). -/
theorem State.endTap_calm {s : State} {l : Lane} (h : Calm s l) (code : ResultCode) (charge : Option Nat) (purse : Option Int) :
    s.endTap l code charge purse = s.done l code charge purse := by
  obtain ⟨h1, h2, h3⟩ := h
  unfold State.endTap State.takeResult
  rw [State.compose_clean (by simpa using h1)]
  simp only [State.modInd, State.modGate, State.modTap, State.modLane_modLane, State.trySwitch, State.modLane_tariff, h2,
    false_and, if_false, ite_self, State.drainCheck, State.gate, State.modLane_lane, State.tap]
  rw [if_neg (fun hh => h3 ⟨hh.1, hh.2.1, hh.2.2.1⟩)]
  rfl

/-- A transaction that changed nothing ends at a lane for which nothing waits. -/
theorem State.endUnchanged_calm {s : State} {l : Lane} (h : Calm s l) (code : ResultCode) :
    s.endUnchanged l code = s.done l code none (purseRead s l) := State.endTap_calm h _ _ _

/-- Updates of the lane's tap controller keep a lane calm. -/
@[simp] theorem Calm.modTap {s : State} {l : Lane} {f : Tap → Tap} : Calm (s.modTap l f) l ↔ Calm s l := by
  simp [Calm]

end Sys2Proof.Machine
end

