-- ==== Sys2Proof/Laws/Fare.lean ====
section
/-! SUPPORT. What the reads of the fare unit give when the bank is undamaged (R55, R59, R171, R172). -/

namespace Sys2Proof.Machine

/-- Going on from a value that read nothing. -/
@[simp] theorem Rd.ret_bind {α β : Type} (x : α) (f : α → Rd β) : (Rd.ret x).bind f = f x := by
  simp [Rd.bind, Rd.ret]

/-- A value whose reads found nothing is its value alone. -/
theorem Rd.eq_ret {α : Type} {r : Rd α} (h : r.tally = ⟨0, 0⟩) : r = .ret r.val := by
  cases r
  simp_all [Rd.ret]

/-- A checked read of an undamaged item is its content. -/
theorem readItem_clean {α : Type} (damaged : α) {x : Stored α} (h : x.bits = .clean) : readItem damaged x = .ret x.val := by
  simp [readItem, h, Rd.ret]

/-- A header field of an undamaged header. -/
theorem Bank.readHeader_clean {b : Bank} (h : ∀ x ∈ b.header, x.bits = .clean) (i : Nat) : b.readHeader i = .ret (b.headerVal i) :=
  readItem_clean _ (lookup_clean _ h i 0)

/-- The holiday lookup of undamaged holidays finds the day exactly when one of them is it (R58). -/
theorem findHoliday_clean (day : Nat) {xs : List (Stored Nat)} (h : ∀ x ∈ xs, x.bits = .clean) :
    findHoliday day xs = .ret (decide (∃ x ∈ xs, x.val = day)) := by
  induction xs with
  | nil => rfl
  | cons e es ih =>
    rw [findHoliday, readItem_clean _ (h e (List.mem_cons_self ..)), Rd.ret_bind, ih fun y hy => h y (List.mem_cons_of_mem _ hy)]
    by_cases hd : e.val = day <;> simp [hd]

/-- Undamaged bands that all start after the minute leave the band kept so far (R59). -/
theorem bestBand_past (minute : Nat) {xs : List (Stored Band)} (hc : ∀ x ∈ xs, x.bits = .clean)
    (h : ∀ x ∈ xs, minute < x.val.start) (best : Option Band) : bestBand minute xs best = .ret best := by
  induction xs with
  | nil => rfl
  | cons x xs ih =>
    rw [bestBand, readItem_clean _ (hc x (List.mem_cons_self ..)), Rd.ret_bind,
      show takeBand minute best x.val = best from if_pos (h x (List.mem_cons_self ..))]
    exact ih (fun y hy => hc y (List.mem_cons_of_mem _ hy)) fun y hy => h y (List.mem_cons_of_mem _ hy)

/-- Undamaged bands are read with no finding, and what is kept after them was kept before or is one of them; the bands after them go on
from it (R59). -/
theorem bestBand_append (minute : Nat) {xs : List (Stored Band)} (hc : ∀ x ∈ xs, x.bits = .clean) (ys : List (Stored Band))
    (best : Option Band) : ∃ kept, bestBand minute xs best = .ret kept ∧ bestBand minute (xs ++ ys) best = bestBand minute ys kept
      ∧ ∀ b, kept = some b → best = some b ∨ ∃ x ∈ xs, x.val = b := by
  induction xs generalizing best with
  | nil => exact ⟨best, rfl, rfl, fun _ h => .inl h⟩
  | cons x xs ih =>
    obtain ⟨kept, h1, h2, h3⟩ := ih (fun y hy => hc y (List.mem_cons_of_mem _ hy)) (takeBand minute best x.val)
    refine ⟨kept, ?_, ?_, fun b hb => ?_⟩
    · rw [bestBand, readItem_clean _ (hc x (List.mem_cons_self ..)), Rd.ret_bind, h1]
    · rw [List.cons_append, bestBand, readItem_clean _ (hc x (List.mem_cons_self ..)), Rd.ret_bind, h2]
    · rcases h3 b hb with h | ⟨y, hy, rfl⟩
      · unfold takeBand at h
        split at h
        · exact .inl h
        · split at h
          · exact .inr ⟨x, List.mem_cons_self .., Option.some.inj h⟩
          · split at h
            · exact .inr ⟨x, List.mem_cons_self .., Option.some.inj h⟩
            · exact .inl h
      · exact .inr ⟨y, List.mem_cons_of_mem _ hy, rfl⟩

/-- A walk over undamaged rules finds nothing (R171, R172). -/
theorem walkRules_clean (f : PairFields) (limit : Nat) {rs : List (Stored Rule)} (h : ∀ x ∈ rs, x.bits = .clean) (count : Nat)
    (skip : Bool) (w : Working) : (walkRules f limit rs count skip w).tally = ⟨0, 0⟩ := by
  induction rs generalizing count skip w with
  | nil => cases skip <;> rfl
  | cons e es ih =>
    have rest := fun count skip w => ih (fun y hy => h y (List.mem_cons_of_mem _ hy)) count skip w
    have head := readItem_clean Rule.zero (h e (List.mem_cons_self ..))
    cases skip
    · rw [walkRules, head, Rd.ret_bind]
      (repeat' split) <;> first | rfl | exact rest _ _ _
    · rw [walkRules, head, Rd.ret_bind]
      exact rest _ _ _

end Sys2Proof.Machine
end

