-- ==== Sys2Proof/Laws/Link.lean ====
section
/-! SUPPORT. What answering a request does, said once (R180, R181). -/

namespace Sys2Proof.Machine

/-- Marking a request answered keeps the requests. -/
theorem markAnswered_requests (qs : List QueuedRequest) :
    (markAnswered qs).map (fun q => (q.kind, q.tag, q.body)) = qs.map fun q => (q.kind, q.tag, q.body) := by
  induction qs with
  | nil => rfl
  | cons q qs ih =>
    unfold markAnswered
    split <;> simp_all

/-- Answering a request places one reply and changes nothing outside the host link. -/
theorem State.answerRequest_served (s : State) (kind : Byte) (c : Instr) (a : Answer) :
    Served s (s.answerRequest kind c a false) kind a s := by
  unfold State.answerRequest
  split
  · split
    · exact ⟨⟨⟨_, _, rfl⟩, markAnswered_requests _, rfl, rfl, rfl⟩, rfl⟩
    · exact ⟨⟨⟨_, _, rfl⟩, rfl, rfl, rfl, rfl⟩, rfl⟩
  · exact ⟨⟨⟨_, _, rfl⟩, rfl, rfl, rfl, rfl⟩, rfl⟩

/-- A request that is served: its block's work is done, and its block's answer is the reply.  The work must leave the host link
alone. -/
theorem State.hostServe_serving {s : State} (h : Serving s) (kind : Byte) (c : Instr) (work : State → Answer × State)
    (hw : (work s).2.link = s.link) : Served s (s.hostServe kind c work) kind (work s).1 (work s).2 := by
  unfold State.hostServe
  simp only [h.1, h.2, if_true]
  obtain ⟨⟨hr, hq, hx, hc, hs⟩, he⟩ := State.answerRequest_served (work s).2 kind c (work s).1
  rw [hw] at hr hx hc hs
  refine ⟨⟨hr, ?_, hx, hc, hs⟩, ?_⟩
  · rw [hq]; simp [hw, Link.requests]
  · rw [hw] at he; exact he.trans (by rw [← hw])

end Sys2Proof.Machine
end

