-- ==== Sys2Proof/WellFormed.lean ====
section
/-! DEFINITION. Which commands can reach the part: operands at the widths and in the numbers that a frame body, a reader port or
the part's own blocks can give.  A value that a command's owning rule refuses or clamps is well formed; one that its field cannot
hold is not. -/

namespace Sys2Proof

open Machine

/-- A body of at most 512 bytes (R179). -/
def fitsBody (length : Nat) : Bool := length ≤ 512

/-- A tariff item as the body's fields can hold it (R86, R198). -/
def itemFits : TariffItem → Bool
  | .number v => v < 2 ^ 32
  | .zone z => z.all (· < 256)
  | .band start factor => start < 65536 && factor < 65536
  | .cls discount daily weekly => discount < 65536 && daily < 65536 && weekly < 65536
  | .rule _ low high _ _ value => low < 65536 && high < 65536 && -32768 ≤ value && value < 32768

/-- A TARIFF WRITE carries at least one item, and its body fits a frame (R88, R198). -/
def tariffWriteFits (part : Byte) (items : List TariffItem) : Bool :=
  !items.isEmpty && fitsBody (3 + itemSize (bankPartOf part) * items.length) && items.all itemFits

/-- A feed item as the body's fields can hold it (R199). -/
def feedItemFits (x : FeedItem) : Bool :=
  x.counter < 2 ^ 24 && x.station < 256 && x.time < 2 ^ 32 && x.purse.all fun p => -8388608 ≤ p && p < 8388608

/-- A FEED SIGHTINGS body fits a frame (R199). -/
def feedFits (items : List FeedItem) : Bool :=
  fitsBody (9 + 14 * items.length + 3 * items.countP fun x => x.purse.isSome) && items.all feedItemFits

/-- The class a record that is not reserved is appended in (R120). -/
def unreservedClass : RecordKind → Option Detail → AdmissionClass
  | .cardLocked, _ => .ordinary
  | .tailgate, _ => .ordinary
  | .intrusion, _ => .ordinary
  | .authFailed, _ => .ordinary
  | .cloneDetected, some (.named .suspectListed) => .ordinary
  | _, _ => .mandatory

/-- A kind that is appended only against a reservation (R120). -/
def reservedKind : RecordKind → Bool
  | .entry => true
  | .exit => true
  | .entryWithPenalty => true
  | .exitUnrecorded => true
  | .emergencyExit => true
  | .inDoubt => true
  | _ => false

/-- A record carries the fields of its kind (R121), for the kinds appended without a reservation; the bits stand in the order of
R200.  A CARD_LOCKED record here is that of a blocked card, and a TAILGATE may lack its serial (R149). -/
def fieldsFit (r : JournalRecord) : Bool :=
  let memory := r.detail == some (.named .memoryError)
  let mask : List Nat := match r.kind with
    | .cardLocked => [0, 1, 15]
    | .resolvedConfirmed => [0, 1, 14, 15]
    | .resolvedVoided => [0, 1, 14, 15]
    | .resolvedUnknown => if memory then [15] else [0, 1, 14, 15]
    | .doubtAbandoned => [0, 1, 4, 14, 15]
    | .creditLapsed => [0]
    | .creditCancelled => [0, 15]
    | .tailgate => if r.serial.isSome then [0] else []
    | .intrusion => [15]
    | .cloneDetected => if r.source.isSome then [0, 1, 4, 5, 7, 15] else [0, 1, 15]
    | .denylistHit => [0, 1, 15, 16]
    | .authFailed => [0, 15]
    | .feedConflict => [0, 1, 2, 3, 4, 5, 6, 15]
    | .tariffSwitch => [6, 11, 12]
    | .timeStep => [6]
    | .entry => []
    | .exit => []
    | .entryWithPenalty => []
    | .exitUnrecorded => []
    | .emergencyExit => []
    | .inDoubt => []
  recordPresence r == (List.range 17).map fun i => mask.contains i

/-- An append that a block can ask for (R120, R121). -/
def appendFits (c : AdmissionClass) (r : JournalRecord) : Bool :=
  !reservedKind r.kind && unreservedClass r.kind r.detail == c && fieldsFit r

/-- A purse that a commit or a card image holds (R119, R201). -/
def purseFits (p : Int) : Bool := -8388608 ≤ p && p < 8388608

/-- The command can reach the part. -/
def Instr.wellFormed : Instr → Bool
  | .tariffWrite part _ items => tariffWriteFits part items
  | .denyAdd items => fitsBody (1 + 10 * items.length)
  | .denyRemove serials => fitsBody (1 + 8 * serials.length)
  | .feedSightings items => feedFits items
  | .templateWrite _ cells slots => cells.length == 32 && fitsBody (66 + 4 * slots.length)
  | .resultMap items => items.length < 256 && fitsBody (1 + 2 * items.length)
  | .unknownKind kind body => fitsBody body.length && decodeRequest kind body == .unknownKind kind body
  | .statusGet selector lane => selector == 3 || lane == 0
  | .cardUpdate _ serial _ purse _ => serial != 0 && purseFits purse
  | .recordAppend c r => appendFits c r
  | .creditGrant _ serial => serial != 0
  | .indicatorResult _ _ charge purse => charge.all (· ≤ 20000) && purse.all purseFits
  | .timeSet _ => true | .timeGet => true | .stationSet _ _ _ _ => true | .laneConfig _ _ => true
  | .laneServiceIn _ => true | .laneServiceOut _ => true | .laneServiceHoldOpen _ => true
  | .tariffBegin _ => true | .tariffClose => true | .tariffActivate _ => true | .tariffStatus => true
  | .keyLoad _ _ _ => true | .denyClear => true | .suspectRead _ _ => true | .suspectClear _ => true
  | .journalRead _ _ => true | .journalRelease _ => true
  | .eventsPeek => true | .eventsTake => true | .eventsEnable _ => true
  | .eccCounts _ => true | .eccInject _ _ => true | .reset => true
  | .frameReceived _ => true | .interByteGapTimeout => true | .replySent => true | .resetCommandWaitEnd => true
  | .cardPresent _ => true | .multipleCards _ => true | .fieldEmpty _ => true | .noAnswer _ => true
  | .exchangeTimeout _ => true | .wrongTypeAnswer _ => true | .identifyAnswer _ _ => true | .authenticateAnswer _ _ => true
  | .readAnswer _ _ _ => true | .resolutionLookup _ => true | .screeningRequest _ => true | .fareRequest _ => true
  | .reservationRequest _ => true | .receipt _ _ _ => true | .refusedCounter _ => true | .refusedExhausted _ => true
  | .clockTick => true
  | .beamLevelChange _ _ _ => true | .beamDebounceExpiry _ _ => true | .limitLevelChange _ _ _ => true
  | .limitDebounceExpiry _ _ => true | .emergencyLevelChange _ => true | .emergencyAssert => true | .emergencyReleaseLine => true
  | .creditLapse _ _ => true | .closeDelayExpiry _ => true | .startPhaseExpiry _ => true | .leafTravelTimeout _ => true
  | .obstructionTimerExpiry _ => true
  | .indicatorStateChange _ _ => true | .indicatorObstruction _ _ => true | .indicatorHoldExpiry _ => true
  | .displaySendComplete _ => true
  | .powerOn => true | .resetLineAssert => true | .resetLineRelease => true | .settleIntervalExpiry => true
  | .syncReceived _ => true | .lenReceived _ _ => true | .mainSupplyLoss => true | .retentionDomainLoss => true

end Sys2Proof
end

