-- ==== Sys2Proof/Tests/Slice0.lean ====
section
/-! SUPPORT. Tests: commands that well-formedness refuses, worked examples of the manual, and for each statement with hypotheses a
state and operands that meet them. -/

namespace Sys2Proof.Tests

open Sys2Proof Sys2Proof.Machine

/-! ### Well-formedness: an ill-formed command for each check -/

def feedItem : FeedItem := ⟨7, 5, 41, 900, none⟩

theorem test_no_tariff_items : (Instr.tariffWrite 0 0 []).wellFormed = false := by decide
theorem test_tariff_body_too_long : (Instr.tariffWrite 0 0 (List.replicate 128 (.number 1))).wellFormed = false := by decide +kernel
theorem test_tariff_number_too_wide : (Instr.tariffWrite 0 0 [.number (2 ^ 32)]).wellFormed = false := by decide
theorem test_tariff_rule_too_wide : (Instr.tariffWrite 9 0 [.rule 0 0 0 0 0 32768]).wellFormed = false := by decide
theorem test_deny_add_body_too_long : (Instr.denyAdd (List.replicate 52 ⟨1, 0, 0⟩)).wellFormed = false := by decide
theorem test_deny_remove_body_too_long : (Instr.denyRemove (List.replicate 64 1)).wellFormed = false := by decide
theorem test_feed_body_too_long : (Instr.feedSightings (List.replicate 36 feedItem)).wellFormed = false := by decide
theorem test_feed_counter_too_wide : (Instr.feedSightings [{ feedItem with counter := 2 ^ 24 }]).wellFormed = false := by decide
theorem test_template_cells_missing : (Instr.templateWrite 0 [] []).wellFormed = false := by decide
theorem test_result_map_count_too_wide : (Instr.resultMap (List.replicate 256 (0, 0))).wellFormed = false := by decide +kernel
theorem test_known_kind_is_not_unknown : (Instr.unknownKind 0x03 []).wellFormed = false := by decide
theorem test_selector_without_lane : (Instr.statusGet 0 1).wellFormed = false := by decide
theorem test_card_update_of_no_card : (Instr.cardUpdate 0 0 1 0 .inside).wellFormed = false := by decide
theorem test_reserved_kind_is_not_appended : (Instr.recordAppend .ordinary (JournalRecord.blank .entry none)).wellFormed = false := by
  decide
theorem test_record_without_its_fields : (Instr.recordAppend .mandatory (JournalRecord.blank .timeStep none)).wellFormed = false := by
  decide
theorem test_grant_to_no_card : (Instr.creditGrant 0 0).wellFormed = false := by decide
theorem test_charge_too_large : (Instr.indicatorResult 0 .granted (some 20001) none).wellFormed = false := by decide
theorem test_no_word_spells_a_command : decodeTableWord 8 3 = none := by decide

/-! ### Worked examples of the manual -/

/-- Section 3.4, the worked rule walk: (150 × 900 + 500) div 1,000 = 135, rounded to the step of 10 gives 140. -/
theorem test_priced_pair : pricedFare 15000 10 ⟨150, 900, 0⟩ = 140 := by decide

/-- Section 3.4, the same walk overrun: base 210, factor 1,000. -/
theorem test_priced_pair_overrun : pricedFare 15000 10 ⟨210, 1000, 0⟩ = 210 := by decide

/-- R69: a discount of 1,000 gives 0. -/
theorem test_priced_pair_free : pricedFare 15000 10 ⟨210, 1000, 1000⟩ = 0 := by decide

/-- R168: the table of rendered values, in a field of width 6. -/
theorem test_money_in_a_field : fieldGlyphs 6 (some 885) = [0x20, 0x20, 0x38, 0x2E, 0x38, 0x35]
    ∧ fieldGlyphs 6 (some (-200)) = [0x20, 0x2D, 0x32, 0x2E, 0x30, 0x30]
    ∧ fieldGlyphs 6 (some 100000) = List.replicate 6 0x23 ∧ fieldGlyphs 6 (some (-22000)) = List.replicate 6 0x23
    ∧ fieldGlyphs 6 none = List.replicate 6 0x20 := by decide

/-- Section 6.8, the journal of 600 records across the wrap: next sequence 305, oldest 4,294,967,000. -/
theorem test_sequences_across_the_wrap : seqBack 305 600 = 4294967000 ∧ seqBack 305 1 = 304 ∧ seqForward 4294967295 1 = 1
    ∧ seqDistance 4294966900 4294967000 = 100 ∧ seqDistance 400 4294967000 = 4294966600
    ∧ seqDistance 4294967000 2 + 1 = 298 ∧ seqDistance 5000 3 = 4294962298 := by decide

/-- CRC-16 with polynomial 0x1021 and initial value 0xFFFF over the bytes 31 to 39 (R198; the check value is the family's). -/
theorem test_crc_check_value : crc16 [0x31, 0x32, 0x33, 0x34, 0x35, 0x36, 0x37, 0x38, 0x39] = 0x29B1#16 := by decide +kernel

/-- R134: a mask that holds B3 and B4 is blind, one that holds B1, B3 and B5 is not. -/
theorem test_blind_masks : maskBlind 0b001100#6 = true ∧ maskBlind 0b010101#6 = false := by decide

/-- R188: RESET_DONE is the flag of priority 29 and LINK_ERROR that of priority 28. -/
theorem test_event_priorities : eventBit .resetDone = 28 ∧ eventBit .linkError = 27 ∧ eventBit (.laneFault 0) = 5
    ∧ eventBit (.obstruction 3) = 20 := by decide

/-- R169, R201: a display frame is the start byte and 64 bytes. -/
theorem test_display_frame_size : (displayBytes DispCell.blankFrame).length = 65 := by decide

/-! ### States that meet the hypotheses of the statements -/

/-- A bank in which station 41 has zone 5. -/
def bank : Bank := { Bank.cleared with stations := Bank.cleared.stations.set 41 (.fresh (some 5)) }

/-- Stations 41 and 42 lie in zones 5 and 6, three minutes apart. -/
def apart : Bank :=
  { bank with
    stations := bank.stations.set 42 (.fresh (some 6))
    travelTimes := Bank.cleared.travelTimes.set 101 (.fresh 3) }

/-- A bank for the whole network at one base fare: step 10, max fare 20,000. -/
def priced : Bank :=
  { apart with
    header := [0, 10, 60, 90, 500, 100, 20000, 2000, 0, 5, 1, 1, 1, 0].map .fresh
    bands := List.replicate 24 (.fresh ⟨0, 1000⟩)
    baseFares := List.replicate 256 (.fresh 250) }

/-- A part in service with the time, the station, a key of version 1 and a tariff. -/
def served : State :=
  { State.reset with
    phase := .running
    clock := ⟨1000, true⟩
    settings := ⟨41, 7, 120, 35, true⟩
    keys := [some ⟨1, 9⟩]
    tariff := { TariffStore.cleared with areaA := ⟨bank, some 14⟩ } }

/-- Lane 0 with a tap controller and a passage controller. -/
def lane (t : Tap) (p : Passages) : State := { served with lanes := served.lanes.set 0 ⟨t, p, Indicator.cleared⟩ }

/-- A passage controller of an EXIT lane in a service state. -/
def gate (v : Service) : Passages := { Passages.cleared with service := v, config := { LaneConfig.cleared with kind := some .exit } }

/-- A tap controller in a phase of an EXIT transaction, an exchange outstanding. -/
def tap (ph : TapPhase) (e : Exchange) : Tap :=
  { Tap.cleared with
    phase := ph, present := true, kind := some .exit, bound := some .a, inFlight := some 7, key := some 9, challenge := some 3
    outstanding := some ⟨e, 35⟩ }

/-- Memories as after a reset are undamaged. -/
theorem clean {s : State} (h : s.display = Display.cleared) : DisplayClean s := by
  unfold DisplayClean
  rw [h]
  exact ⟨fun x hx => (List.eq_of_mem_replicate hx) ▸ rfl, fun x hx => (List.eq_of_mem_replicate hx) ▸ rfl⟩

/-- A lane that is not DRAINING, with no switchover under way, is calm. -/
theorem calm {s : State} {l : Lane} (h : s.display = Display.cleared) (h2 : s.tariff.pending ≠ .switching)
    (h3 : (s.gate l).service ≠ .draining) : Calm s l := ⟨clean h, h2, fun h => h3 h.1⟩

/-- A part with an empty journal and no injection armed has room. -/
theorem room {s : State} (h : s.journal = Journal.cleared) (h2 : s.ecc = Ecc.zero) : HasRoom s := by
  refine ⟨?_, ?_, ?_⟩
  · rw [h]
    decide
  · rw [h]
    decide
  · unfold Disarmed
    rw [h2]
    rfl

/-- A check that is not the one expected. -/
theorem other_check (x : Check) : x + 1 ≠ x := by
  intro h
  have := congrArg BitVec.toNat h
  simp [BitVec.toNat_add] at this
  omega

def idle (p : Passages) : State := lane Tap.cleared p

/-- A part whose station entry in the active bank is uncorrectable. -/
def damagedStation : State :=
  { idle (gate .inService) with
    tariff := { TariffStore.cleared with areaA := ⟨{ bank with stations := bank.stations.set 41 ⟨some 5, .double⟩ }, some 14⟩ } }

theorem witness_CardReportInIdle :
    (let s := idle { gate .inService with credits := [⟨7, false, some 8⟩] };
      s.phase = .running ∧ (s.tap 0).phase = .idle ∧ (zoneEntry s).bits = .clean ∧ TakesTaps s 0 ∧ (s.gate 0).credits.length < 2)
    ∧ (let s := idle { gate .inService with credits := [⟨7, false, some 8⟩, ⟨8, true, none⟩] };
      TakesTaps s 0 ∧ (s.gate 0).service = .inService ∧ 2 ≤ (s.gate 0).credits.length)
    ∧ (zoneEntry (idle (gate .closed))).bits = .clean ∧ ¬TakesTaps (idle (gate .closed)) 0
    ∧ (let s := damagedStation;
      (zoneEntry s).bits = .double ∧ (s.gate 0).service = .inService ∧ s.link.reset ≠ .waiting ∧ s.clock.timeSet = true
        ∧ s.settings.isSet = true ∧ s.tariff.activeVersion.isSome = true ∧ s.tariff.usable = true) :=
  ⟨⟨rfl, rfl, rfl, ⟨.inl rfl, by decide, rfl, rfl, .inr ⟨rfl, rfl⟩, rfl, fun _ => by decide⟩, by decide⟩,
    ⟨⟨.inl rfl, by decide, rfl, rfl, .inr ⟨rfl, rfl⟩, rfl, fun _ => by decide⟩, rfl, by decide⟩,
    rfl, fun h => absurd h.1 (by decide), rfl, rfl, by decide, rfl, rfl, rfl, rfl⟩

theorem witness_Quiet :
    let s := lane { Tap.cleared with phase := .quiet } (gate .inService);
    s.phase = .running ∧ (s.tap 0).phase = .quiet := ⟨rfl, rfl⟩

def dialogue (ph : TapPhase) (e : Exchange) : State := lane (tap ph e) (gate .inService)

theorem witness_LostAnswer :
    (let s := dialogue .identifying .identify;
      s.phase = .running ∧ (s.tap 0).phase = .identifying ∧ (s.tap 0).outstanding.isSome = true)
    ∧ (let s := lane { Tap.cleared with phase := .reading } (gate .inService);
      (s.tap 0).phase = .reading ∧ (s.tap 0).outstanding = none)
    ∧ ((dialogue .evaluating .read).tap 0).phase = .evaluating := ⟨⟨rfl, rfl, rfl⟩, ⟨rfl, rfl⟩, rfl⟩

def answer (serial : Serial) (network : BitVec 16) (version : Byte) : IdentifyAnswer := ⟨serial, network, version, 0⟩

/-- The 12 bytes of an IDENTIFY answer, written out from R201's layout: serial, network, key version, status. -/
def answerBytes (serial network version : Byte) : Vector Byte 12 := #v[0, 0, 0, 0, 0, 0, 0, serial, 0, network, version, 0]

/-- R201: an IDENTIFY answer is taken apart at its offsets. -/
theorem test_identify_answer_bytes : identifyAnswerAt #v[1, 2, 3, 4, 5, 6, 7, 8, 9, 10, 11, 12].toList
    = ⟨0x0102030405060708, 0x090A, 11, 12⟩ := by decide

theorem witness_IdentifyAnswer :
    let s := dialogue .identifying .identify
    (s.phase = .running ∧ (s.tap 0).phase = .identifying ∧ (s.tap 0).outstanding = some ⟨.identify, 35⟩)
    ∧ (let a := identifyAnswerAt (answerBytes 7 7 1).toList
      a.serial ≠ 0 ∧ (∀ k : Lane, k ≠ 0 → (s.tap k).inFlight ≠ some a.serial) ∧ a.network.toNat = s.settings.network
        ∧ s.keys[0]? = some (some ⟨1, 9⟩) ∧ a.keyVersion.toNat = 1)
    ∧ (¬∀ k : Lane, k ≠ 0 → ((s.withTap 1 (tap .reading .read)).tap k).inFlight ≠ some 7)
    ∧ (identifyAnswerAt (answerBytes 7 8 1).toList).network.toNat ≠ s.settings.network
    ∧ 8 < (identifyAnswerAt (answerBytes 7 7 9).toList).keyVersion.toNat ∧ (identifyAnswerAt (answerBytes 0 7 1).toList).serial = 0 :=
  ⟨⟨rfl, rfl, rfl⟩, by decide, fun h => h 1 (by decide) rfl, by decide, by decide, by decide⟩

theorem witness_AuthenticateAnswer :
    let s := dialogue .authenticating (.authenticate 3)
    (s.tap 0).key = some 9 ∧ (s.tap 0).challenge = some 3 ∧ (s.tap 0).outstanding = some ⟨.authenticate 3, 35⟩
      ∧ Config.keyedCheck 9 (.response 3) + 1 ≠ Config.keyedCheck 9 (.response 3) ∧ HasRoom s :=
  ⟨rfl, rfl, rfl, other_check _, room rfl rfl⟩

def raw (serial : Serial) : RawImage := ⟨serial, 7, 1, 0, 0, 0, 500, 10, 1, 41, 900, 41, 900, 0, 0, 0, 0, 0, 0, 0, 0⟩

def reading (i : AreaId) : State :=
  lane { tap .reading .read with ident := some (answer 7 7 1), bound := some i } (gate .inService)

/-- The 48 bytes of a card image, written out from R201's layout: network 7, key version 1, ACTIVE, purse 500, counter 10, INSIDE since
900 from station 41. -/
def rawBytes (serial : Byte) : Vector Byte 48 :=
  #v[0, 0, 0, 0, 0, 0, 0, serial, 0, 7, 1, 0, 0, 0, 0, 0, 1, 0xF4, 0, 0, 10, 1, 41, 0, 0, 3, 0x84, 41, 0, 0, 3, 0x84, 0, 0,
    0, 0, 0, 0, 0, 0, 0, 0, 0, 0, 0, 0, 0, 0]

/-- R201: the card image is taken apart at its offsets. -/
theorem test_card_image_bytes : rawImageAt (rawBytes 7).toList = raw 7 := by decide

/-- R201: the fields at the image's end, and a purse below 0. -/
theorem test_card_image_tail :
    (rawImageAt ((rawBytes 7).toList.take 15 ++ [0xFF, 0xFF, 0xFE] ++ List.replicate 16 0 ++ [44, 0, 0, 0, 5, 1, 0, 6, 0, 7, 0, 8, 0, 9])).purse.toInt
      = -2
    ∧ (rawImageAt (List.replicate 34 0 ++ [44, 0, 0, 0, 5, 1, 0, 6, 0, 7, 0, 8, 0, 9]))
      = ⟨0, 0, 0, 0, 0, 0, 0, 0, 0, 0, 0, 0, 0, 0, 44, 5, 1, 6, 7, 8, 9⟩ := by decide

/-- Some eight bytes spell any check. -/
theorem proof_bytes (x : Check) : ∃ tail : Vector Byte 8, proofAt tail.toList = x := by
  refine ⟨⟨⟨beBytes 8 x.toNat⟩, by simp⟩, ?_⟩
  show BitVec.ofNat 64 (ofBytes ((beBytes 8 x.toNat).take 8)) = x
  rw [List.take_of_length_le (by simp), ofBytes_beBytes x.isLt]
  simp

theorem witness_ReadAnswer :
    (let s := reading .a;
      (s.tap 0).outstanding = some ⟨.read, 35⟩ ∧ (s.tap 0).ident = some (answer 7 7 1) ∧ (s.tap 0).bound = some .a
        ∧ (∃ tail : Vector Byte 8, proofAt tail.toList = Config.keyedCheck 9 (.readProof (raw 7) 3))
        ∧ (∃ tail : Vector Byte 8, proofAt tail.toList ≠ Config.keyedCheck 9 (.readProof (raw 7) 3)) ∧ HasRoom s
        ∧ (answer 7 7 1).serial = (raw 7).serial ∧ (answer 7 7 1).serial ≠ (raw 8).serial ∧ BankUsable s .a)
    ∧ ((reading .b).tap 0).bound = some .b ∧ ¬BankUsable (reading .b) .b := by
  refine ⟨⟨rfl, rfl, rfl, proof_bytes _, ?_, room rfl rfl, by decide, by decide, ?_⟩, rfl, ?_⟩
  · obtain ⟨tail, h⟩ := proof_bytes (Config.keyedCheck 9 (.readProof (raw 7) 3) + 1)
    exact ⟨tail, h ▸ other_check _⟩
  · unfold BankUsable
    decide
  · unfold BankUsable
    decide

/-- A card that is INSIDE since time 900, with its counter. -/
def card (counter : Nat) : CardImage :=
  ⟨7, 7, 1, 0, 0, counter, ⟨.active, 500, .inside, 41, 900, 41, 900, 0, 0, 0, false, 0, 0, 0, 0⟩⟩

def evaluating (stage : EvalStage) (p : Passages) (c : CardImage) : State :=
  lane { tap .evaluating .read with outstanding := none, stage := some stage, image := some c } p

theorem awaits (stage : EvalStage) (p : Passages) (c : CardImage) : Awaits (evaluating stage p c) 0 stage .exit .a c :=
  ⟨rfl, rfl, rfl, rfl, rfl, rfl⟩

/-- An OPEN debit entry of card 7 whose expected counter is 11. -/
def debit : DoubtEntry := ⟨7, 0, .debit, 10, 500, .inside, .active, .leg, some 14, 950, true, some 1, .granted, 20⟩

def doubted (stage : EvalStage) (c : CardImage) (e : DoubtEntry) : State :=
  { evaluating stage (gate .inService) c with doubt := ⟨[⟨e, .clean⟩], .all none⟩ }

/-- The resume window of the bank in area A. -/
def windowOf (s : State) : Stored Nat := ((s.tariff.area .a).bank.header[3]?).getD (.fresh 0)

/-- The card that the exit of entry `debit` leaves OUTSIDE, and that entry. -/
def outCard : CardImage := { card 11 with w := { (card 11).w with trip := .outside } }
def exitDebit : DoubtEntry := { debit with trip := .outside }

theorem witness_Resolution :
    (let s := doubted .resolution (card 11) debit;
      Awaits s 0 .resolution .exit .a (card 11) ∧ HasRoom s ∧ SightingsQuiet s 7
        ∧ s.doubt.entries.find? (fun e => e.val.serial == (card 11).serial) = some ⟨debit, .clean⟩
        ∧ (windowOf s).bits = .clean)
    ∧ (card 10).counter ≤ debit.counterBefore
    ∧ ((card 11).counter = debit.counterBefore + 1 ∧ (card 11).w.purse = debit.purse ∧ (card 11).w.trip = debit.trip
      ∧ (card 11).w.status = debit.status ∧ TxKind.exit ≠ (if debit.trip = .inside then TxKind.entry else .exit))
    ∧ ((card 12).counter ≠ debit.counterBefore + 1 ∧ ¬(card 12).counter ≤ debit.counterBefore)
    ∧ (∀ e ∈ (evaluating .resolution (gate .inService) (card 11)).doubt.entries, e.val.serial ≠ (card 11).serial)
    ∧ (let s := { doubted .resolution outCard exitDebit with tariff := { TariffStore.cleared with areaA := ⟨priced, some 14⟩ } };
      Awaits s 0 .resolution .exit .a outCard ∧ outCard.w.trip = exitDebit.trip
        ∧ TxKind.exit = (if exitDebit.trip = .inside then TxKind.entry else .exit)
        ∧ s.clock.time - exitDebit.created ≤ (windowOf s).val ∧ (s.gate 0).service = .inService) :=
  ⟨⟨⟨rfl, rfl, rfl, rfl, rfl, rfl⟩, room rfl rfl, ⟨(fun _ h => nomatch h), by decide, rfl⟩, rfl, rfl⟩, by decide, by decide, by decide,
    (fun _ h => nomatch h), ⟨rfl, rfl, rfl, rfl, rfl, rfl⟩, rfl, rfl, by decide, rfl⟩

/-- A debit in hand of card 7 with its counter before. -/
def work (change : ChangeKind) : CommitWork := ⟨change, 10, (card 10).w, 20, .leg, some 14, 0⟩

def due (p : Passages) : State :=
  lane { tap .evaluating .read with
    outstanding := none, stage := some .reservation, image := some (card 10), work := some (work .debit) } p

/-- A journal that has closed ordinary admission. -/
def closedJournal : Journal := { Journal.cleared with records := List.replicate 1984 (.fresh (JournalRecord.blank .tailgate none)) }

theorem closed_held : closedJournal.held = 1984 := List.length_replicate ..

theorem closed_admission : ¬closedJournal.held + closedJournal.outstanding < 1984 := by
  rw [closed_held]
  omega

/-- A journal that holds a number of records, the newest 305. -/
def journalOf (n : Nat) : Journal :=
  { Journal.cleared with records := List.replicate n (.fresh (JournalRecord.blank .tailgate none)), nextSequence := 306 }

theorem journalOf_held (n : Nat) : (journalOf n).held = n := List.length_replicate ..

theorem journalOf_taken (n : Nat) : (journalOf n).held + (journalOf n).outstanding = n := by
  rw [journalOf_held]
  rfl

theorem witness_Commit :
    (let s := due (gate .inService);
      Awaits s 0 .reservation .exit .a (card 10) ∧ (s.tap 0).work = some (work .debit) ∧ (s.tap 0).inFlight = some 7
        ∧ ServiceFits s 0 .exit ∧ BankUsable s .a ∧ s.journal.held + s.journal.outstanding < 1984
        ∧ s.journal.reservations.get 0 = none ∧ s.doubt.entries.length < 32 ∧ Disarmed s .lists)
    ∧ ¬ServiceFits (due (gate .closed)) 0 .exit
    ∧ ¬closedJournal.held + closedJournal.outstanding < 1984
    ∧ (journalOf 1983).held + (journalOf 1983).outstanding + 1 = 1984 ∧ (journalOf 1983).reservations.get 0 = none :=
  ⟨⟨⟨rfl, rfl, rfl, rfl, rfl, rfl⟩, rfl, rfl, by unfold ServiceFits; decide, by unfold BankUsable; decide, by decide, rfl, by decide, rfl⟩,
    by unfold ServiceFits; decide, closed_admission, congrArg (· + 1) (journalOf_taken 1983), rfl⟩

/-- A lane with a commit due, and 32 entries in the in-doubt list, the second of them OPEN. -/
def fullDoubt : State :=
  { due (gate .inService) with
    doubt := ⟨[⟨{ debit with serial := 8, opened := false }, .clean⟩] ++ ⟨debit, .clean⟩ ::
      List.replicate 30 ⟨{ debit with serial := 8, opened := false }, .clean⟩, .all none⟩ }

theorem witness_FullInDoubtList :
    let s := fullDoubt
    let first : List (Stored DoubtEntry) := [⟨{ debit with serial := 8, opened := false }, .clean⟩]
    s.doubt.entries.length = 32 ∧ (∀ x ∈ first, x.bits = .clean ∧ x.val.opened = false ∧ x.val.serial ≠ debit.serial)
      ∧ debit.opened = true ∧ HasRoom s ∧ Disarmed s .lists
      ∧ Awaits s 0 .reservation .exit .a (card 10) ∧ ServiceFits s 0 .exit ∧ BankUsable s .a ∧ s.journal.reservations.get 0 = none
      ∧ HasRoom (s.withPlace 0 .ordinary) :=
  ⟨by decide, by decide, rfl, room rfl rfl, rfl, ⟨rfl, rfl, rfl, rfl, rfl, rfl⟩, by unfold ServiceFits; decide,
    by unfold BankUsable; decide, rfl, by decide, by decide, rfl⟩

def committing (change : ChangeKind) (v : Service) : State :=
  { lane { tap .committing (.commit 10 (card 10).w 5) with image := some (card 10), work := some (work change) } (gate v) with
    doubt := ⟨[⟨{ debit with opened := false, change := change }, .clean⟩], (PerLane.all none).set 0 (some change)⟩
    journal := { Journal.cleared with reservations := (PerLane.all none).set 0 (some (changeClass change)) } }

theorem commits (change : ChangeKind) (v : Service) : Commits (committing change v) 0 (work change) 7 :=
  ⟨rfl, rfl, rfl, rfl, _, _, _, _, rfl, rfl⟩

theorem witness_CommitOutcomes (change : ChangeKind) :
    let s := committing change .inService
    Commits s 0 (work change) 7 ∧ (s.tap 0).key = some 9 ∧ (s.tap 0).challenge = some 3
      ∧ provisionalOf s 0 = some ⟨{ debit with opened := false, change := change }, .clean⟩
      ∧ s.journal.reservations.get 0 = some (changeClass change) ∧ s.journal.held + 1 ≠ 1536 ∧ Disarmed s .journal ∧ Disarmed s .lists
      ∧ SightingsQuiet s 7 ∧ (11#24).toNat = (work change).counterBefore + 1 ∧ (10#24).toNat ≠ (work change).counterBefore + 1 :=
  ⟨commits _ _, rfl, rfl, rfl, rfl, by show 0 + 1 ≠ 1536; decide, rfl, rfl, ⟨(fun _ h => nomatch h), by show 0 < 16384; decide, rfl⟩,
    rfl, by show 10 ≠ 11; decide⟩

/-- A torn commit whose PROVISIONAL entry has become uncorrectable, between two entries of other cards. -/
theorem witness_TornDamaged :
    let e : DoubtEntry := { debit with opened := false }
    let other (ser : Serial) : Stored DoubtEntry := ⟨{ debit with serial := ser }, .clean⟩
    let s : State := { committing .debit .inService with
      doubt := ⟨[other 8] ++ ⟨e, .double⟩ :: [other 9], (PerLane.all none).set 0 (some .debit)⟩ }
    Commits s 0 (work .debit) 7 ∧ e.lane = 0 ∧ e.opened = false ∧ (∀ x ∈ [other 8], ¬(x.val.lane = 0 ∧ x.val.opened = false))
      ∧ (∀ x ∈ [other 8] ++ [other 9], x.val.serial ≠ e.serial) ∧ HasRooms s 2 :=
  ⟨commits _ _, rfl, rfl, by decide, by decide, by decide, rfl⟩

theorem witness_CommitInEmergency : ((committing .debit .emergencyOpen).gate 0).service = .emergencyOpen := rfl

/-! ### Screening -/

def sighting (serial : Serial) (counter station : Nat) : Sighting := ⟨serial, counter, some 500, station, 1000, .lane 0, some .inside⟩

/-- A full sighting table whose first entry is not pinned. -/
def fullTable : List (Stored Sighting) := .fresh (sighting 1 5 41) :: List.replicate 16383 (.fresh (sighting 2 5 41))

theorem fullTable_length : fullTable.length = 16384 := by
  unfold fullTable
  rw [List.length_cons, List.length_replicate]

theorem fullTable_serial : ∀ e ∈ fullTable, e.val.serial ≠ 7 := by
  intro e h
  rcases List.mem_cons.mp h with rfl | h
  · decide
  · rw [List.eq_of_mem_replicate h]
    decide

def withTable (xs : List (Stored Sighting)) : State := { served with screening := { Screening.cleared with sightings := xs } }

theorem quiet_empty : SightingsQuiet served 7 := ⟨(fun _ h => nomatch h), by decide, rfl⟩

theorem not_pinned (xs : List (Stored Sighting)) (ser : Serial) : ¬Pinned (withTable xs) ser := by
  rintro (⟨l, h⟩ | ⟨e, h, -⟩)
  · have : ∀ l : Lane, ((withTable xs).tap l).inFlight = none := fun l => by
      match l with
      | 0 => rfl
      | 1 => rfl
      | 2 => rfl
      | 3 => rfl
    rw [this l] at h
    cases h
  · cases h

theorem witness_CardUpdate : SightingsQuiet served 7 ∧ fullTable.length = 16384 ∧ (∀ e ∈ fullTable, e.val.serial ≠ 7)
    ∧ Disarmed (withTable fullTable) .sighting ∧ ¬Pinned (withTable fullTable) 1 :=
  ⟨quiet_empty, fullTable_length, fullTable_serial, rfl, not_pinned _ _⟩

def blocked : CardImage := { card 11 with w := { (card 11).w with status := .blocked } }

def suspected : State :=
  { served with screening := { Screening.cleared with suspects := [.fresh ⟨7, .diverged, 900, .feed⟩] } }

def denied (action : DenyAction) : State :=
  { served with screening := { Screening.cleared with denylist := [.fresh ⟨7, action, 9⟩] } }

theorem witness_BlockedAndSuspect : blocked.w.status = .blocked ∧ (card 11).w.status = .active ∧ HasRoom served ∧ HasRoom suspected
    ∧ suspected.screening.suspects.find? (fun x => x.val.serial == (card 11).serial) = some ⟨⟨7, .diverged, 900, .feed⟩, .clean⟩
    ∧ ∀ x ∈ suspected.screening.denylist, x.val.serial ≠ (card 11).serial :=
  ⟨rfl, rfl, room rfl rfl, room rfl rfl, rfl, (fun _ h => nomatch h)⟩

theorem witness_DenylistHit : (denied .lock).screening.denyValid = true ∧ HasRoom (denied .lock)
    ∧ (denied .lock).screening.denylist.find? (fun x => x.val.serial == (card 11).serial) = some ⟨⟨7, .lock, 9⟩, .clean⟩
    ∧ ({ served with screening := { Screening.cleared with denyValid := false } } : State).screening.denyValid = false :=
  ⟨rfl, room rfl rfl, rfl, rfl⟩

def seenAt (counter station : Nat) : State :=
  { withTable [.fresh (sighting 7 counter station)] with tariff := { TariffStore.cleared with areaA := ⟨apart, some 14⟩ } }

theorem readable (counter station : Nat) (h : ((apart.stations[station]?).getD (.fresh none)).bits = .clean) :
    TravelReadable (seenAt counter station) .a (sighting 7 counter station) := by
  refine ⟨h, rfl, fun o d => lookup_clean _ ?_ _ _⟩
  intro y hy
  rcases List.mem_or_eq_of_mem_set hy with h | rfl
  · rw [List.eq_of_mem_replicate h]
    rfl
  · rfl

/-- A suspect list with no place left. -/
def fullSuspects : List (Stored SuspectEntry) := List.replicate 512 (.fresh ⟨9, .diverged, 900, .feed⟩)

theorem witness_Listed : Listed suspected 7 ∧ Listed (denied .lock) 7 ∧ HasRoom suspected ∧ HasRoom (denied .lock) :=
  ⟨.inr ⟨(fun _ h => nomatch h), _, rfl⟩, .inl ⟨_, rfl⟩, room rfl rfl, room rfl rfl⟩

theorem witness_CloneFindings :
    (Unlisted (seenAt 11 42) (card 11).serial ∧ TravelReadable (seenAt 11 42) .a (sighting 7 11 42) ∧ HasRoom (seenAt 11 42)
      ∧ Disarmed (seenAt 11 42) .lists
      ∧ (seenAt 11 42).screening.sightings.find? (fun x => x.val.serial == (card 11).serial) = some ⟨sighting 7 11 42, .clean⟩)
    ∧ (¬fullSuspects.length < 512 ∧ ∀ e ∈ fullSuspects, e.val.serial ≠ (card 11).serial)
    ∧ (card 10).counter < (sighting 7 11 42).counter
    ∧ (∃ x, { sighting 7 11 42 with trip := some .outside }.trip = some x ∧ x ≠ (card 11).w.trip)
    ∧ ImpossibleTravel (seenAt 10 42) .a (sighting 7 10 42) :=
  ⟨⟨⟨(fun _ h => nomatch h), (fun _ h => nomatch h)⟩, readable 11 42 (by decide), room rfl rfl, rfl, rfl⟩,
    ⟨by unfold fullSuspects; rw [List.length_replicate]; omega, fun e h => by rw [List.eq_of_mem_replicate h]; decide⟩, by decide,
    ⟨.outside, rfl, by decide⟩, by decide, 6, 5, rfl, rfl, by decide⟩

theorem witness_LastChecks :
    Unlisted served 7 ∧ ¬OutOfRange (card 11) ∧ OutOfRange { card 11 with cls := 8 } ∧ (card 16777215).counter = 16777215
    ∧ ((seenAt 10 41).screening.sightings.find? (fun x => x.val.serial == (card 11).serial) = some (.fresh (sighting 7 10 41))
      ∧ (sighting 7 10 41).counter < (card 11).counter
      ∧ TravelReadable (seenAt 10 41) .a (sighting 7 10 41) ∧ ¬ImpossibleTravel (seenAt 10 41) .a (sighting 7 10 41))
    ∧ ((sighting 7 11 41).counter = (card 11).counter ∧ (∀ p, (sighting 7 11 41).purse = some p → p = (card 11).w.purse)
      ∧ ∀ x, (sighting 7 11 41).trip = some x → x = (card 11).w.trip) :=
  ⟨⟨(fun _ h => nomatch h), (fun _ h => nomatch h)⟩, by unfold OutOfRange; decide, by unfold OutOfRange; decide, rfl,
    ⟨rfl, by decide, readable 10 41 (by decide), fun h => absurd rfl h.1⟩, rfl, fun p h => by cases h; rfl, fun x h => by cases h; rfl⟩

theorem witness_CountedOnce :
    served.screening.counters.screened < 65535 ∧ ∀ n ∈ served.screening.counters.answers, n < 65535 := by decide

theorem witness_Uncorrectable :
    (withTable [⟨sighting 7 5 41, .double⟩]).screening.sightings.find? (fun x => x.val.serial == 7) = some ⟨sighting 7 5 41, .double⟩
    ∧ ([⟨⟨7, .lock, 9⟩, .double⟩] : List (Stored DenyEntry)).find? (fun x => x.val.serial == 7) = some ⟨⟨7, .lock, 9⟩, .double⟩
    ∧ ([⟨⟨7, .diverged, 900, .feed⟩, .double⟩] : List (Stored SuspectEntry)).find? (fun x => x.val.serial == 7)
      = some ⟨⟨7, .diverged, 900, .feed⟩, .double⟩
    ∧ (let e : DoubtEntry := { debit with opened := false }
      let s : State := { served with doubt := ⟨[] ++ ⟨e, .double⟩ :: [⟨{ debit with serial := 8 }, .clean⟩], .all none⟩ }
      (∀ x ∈ ([] ++ [⟨{ debit with serial := 8 }, .clean⟩] : List (Stored DoubtEntry)), x.val.serial ≠ e.serial) ∧ HasRoom s)
    ∧ (let d : Display := { Display.cleared with map := Display.cleared.map.set (keyIndex .closed) ⟨0, .double⟩ };
      (d.entry ({ served with display := d }.ind 0).key).bits = .double)
    ∧ (let d : Display := { Display.cleared with templates := Display.cleared.templates.set 0 ⟨⟨[], []⟩, .double⟩ };
      (d.entry (served.ind 0).key).bits = .clean ∧ (d.template (d.entry (served.ind 0).key).val).bits = .double)
    ∧ ([⟨7, .double⟩] : List (Stored Nat))[0]? = some ⟨7, .double⟩ ∧ AreaId.b ≠ served.tariff.active :=
  ⟨rfl, rfl, rfl, ⟨by decide, room rfl rfl⟩, rfl, ⟨rfl, rfl⟩, rfl, by decide⟩

def screened (kind : TxKind) (p : Passages) (c : CardImage) : State :=
  lane { tap .evaluating .read with outstanding := none, stage := some .screening, image := some c, kind := some kind } p

/-- An entry lane's transaction with a card that is INSIDE from this station since 950, and a resume window of 90 s. -/
def again : State :=
  { screened .entry (gate .inService) { card 11 with w := { (card 11).w with entryTime := 950 } } with
    tariff := { TariffStore.cleared with areaA := ⟨priced, some 14⟩ } }

theorem witness_ScreeningAnswers :
    (let s := screened .exit (gate .inService) (card 11);
      Awaits s 0 .screening .exit .a (card 11) ∧ (s.screen ⟨0, .exit, .a, card 11⟩).1 = .clear
        ∧ (s.screen ⟨0, .exit, .a, blocked⟩).1 = .refuse .cardLocked
        ∧ (windowOf s).bits = .clean ∧ (card 11).w.trip ≠ .outside)
    ∧ (let s := again;
      Awaits s 0 .screening .entry .a { card 11 with w := { (card 11).w with entryTime := 950 } }
        ∧ s.clock.time - 950 ≤ (windowOf s).val ∧ (card 11).w.entryStation = s.settings.station)
    ∧ (((denied .lock).screen ⟨0, .exit, .a, card 11⟩).1 = .lock 9
      ∧ BankUsable ((denied .lock).screen ⟨0, .exit, .a, card 11⟩).2.2 .a)
    ∧ (let s := screened .emergency (gate .emergencyOpen) (card 11);
      Awaits s 0 .screening .emergency .a (card 11) ∧ (s.screen ⟨0, .emergency, .a, card 11⟩).1 = .clear
        ∧ (s.gate 0).service = .emergencyOpen ∧ BankUsable (s.screen ⟨0, .emergency, .a, card 11⟩).2.2 .a)
    ∧ (card 11).w.trip = .inside ∧ (screened .emergency (gate .inService) (card 11)).gate 0 = gate .inService :=
  ⟨⟨⟨rfl, rfl, rfl, rfl, rfl, rfl⟩, by decide, by decide, rfl, by decide⟩, ⟨⟨rfl, rfl, rfl, rfl, rfl, rfl⟩, by decide, rfl⟩,
    ⟨by decide, by unfold BankUsable; decide⟩, ⟨⟨rfl, rfl, rfl, rfl, rfl, rfl⟩, by decide, rfl, by unfold BankUsable; decide⟩, rfl, rfl⟩

theorem witness_FeedItem :
    (SightingsQuiet served feedItem.serial ∧ sightingOf served feedItem.serial = none)
    ∧ (SightingsQuiet (seenAt 5 42) 7 ∧ sightingOf (seenAt 5 42) feedItem.serial = some (sighting 7 5 42)
      ∧ feedItem.counter = (sighting 7 5 42).counter ∧ feedItem.station ≠ (sighting 7 5 42).station
      ∧ Unlisted (seenAt 5 42) 7 ∧ HasRoom (seenAt 5 42))
    ∧ (4 < feedItem.counter ∧ feedItem.counter < 6 ∧ (sighting 7 6 41).time + 120 < 1121) :=
  ⟨⟨quiet_empty, rfl⟩, ⟨⟨fun e h => by cases h; rfl, by decide, rfl⟩, rfl, rfl, by decide,
    ⟨(fun _ h => nomatch h), (fun _ h => nomatch h)⟩, room rfl rfl⟩, by decide⟩

/-- A conflict of a serial that stands in the suspect list already. -/
theorem witness_FeedConflictOfSuspect :
    let s : State := { suspected with screening := { suspected.screening with sightings := [.fresh (sighting 7 5 42)] } }
    SightingsQuiet s 7 ∧ sightingOf s feedItem.serial = some (sighting 7 5 42) ∧ feedItem.counter = (sighting 7 5 42).counter
      ∧ feedItem.station ≠ (sighting 7 5 42).station ∧ Listed s feedItem.serial ∧ HasRoom s :=
  ⟨⟨fun e h => by cases h; rfl, by decide, rfl⟩, rfl, rfl, by decide, .inr ⟨(fun _ h => nomatch h), _, rfl⟩, room rfl rfl⟩

theorem witness_Feed : Serving served ∧ served.clock.timeSet = true ∧ ([feedItem] : List FeedItem).length = 1
    ∧ (List.replicate 32 feedItem).length = 32 ∧ ({ served with clock := ⟨0, false⟩ } : State).clock.timeSet = false :=
  ⟨⟨rfl, rfl⟩, rfl, rfl, by decide, rfl⟩

/-- A denylist with no place left. -/
def fullDenylist : List (Stored DenyEntry) := List.replicate 8192 (.fresh ⟨9, .refuse, 0⟩)

theorem witness_DenyAdd :
    (denied .lock).screening.denylist.find? (fun y => y.val.serial == 7) = some ⟨⟨7, .lock, 9⟩, .clean⟩
    ∧ (served.screening.denylist = [] ++ [] ∧ served.screening.denylist.length < 8192 ∧ Disarmed served .lists)
    ∧ (8192 ≤ fullDenylist.length ∧ ∀ y ∈ fullDenylist, y.val.serial ≠ 7)
    ∧ (suspected.screening.denyValid = true ∧ ∀ y ∈ suspected.screening.suspects, y.bits = .clean) :=
  ⟨rfl, ⟨rfl, by decide, rfl⟩, ⟨by unfold fullDenylist; rw [List.length_replicate], fun y h => by rw [List.eq_of_mem_replicate h]; decide⟩, rfl, by decide⟩

/-- Three items of one request: an update, an addition that leaves the suspect list, an update of what the second added. -/
theorem witness_DenyAddSeveral :
    let s : State := { denied .lock with screening := { (denied .lock).screening with suspects := [.fresh ⟨3, .diverged, 900, .feed⟩] } }
    let items : List DenyItem := [⟨7, 0, 1⟩, ⟨3, 1, 2⟩, ⟨3, 0, 4⟩]
    (Serving s ∧ s.screening.denyValid = true ∧ Disarmed s .lists ∧ (∀ y ∈ s.screening.denylist, y.bits = .clean)
      ∧ (∀ y ∈ s.screening.suspects, y.bits = .clean) ∧ (s.screening.denylist.map fun y => y.val.serial.toNat).Pairwise (· < ·))
    ∧ (s.screening.denying items).1 = ⟨1, 2, 0, 1⟩
    ∧ (s.screening.denying items).2.denylist = [.fresh ⟨3, .refuse, 4⟩, .fresh ⟨7, .refuse, 1⟩] :=
  ⟨⟨⟨rfl, rfl⟩, rfl, rfl, by decide, by decide, by decide⟩, by decide, by decide⟩

theorem witness_ListRequests :
    (denied .lock).screening.denyValid = true ∧ (∀ y ∈ (denied .lock).screening.denylist, y.bits = .clean)
    ∧ (∀ y ∈ suspected.screening.suspects, y.bits = .clean) ∧ ¬511 < (511#16).toNat ∧ ¬32 < (32#8).toNat := by decide

/-! ### Fares and tariff banks -/

def fields : PairFields := ⟨41, 42, 5, 6, 0, 0, 600, 10, 0⟩

/-- An entry that holds for class 0 alone, the last of its chain. -/
def rule (action : RuleAction) : Rule := ⟨.cls, 0, 0, false, action, 100⟩

theorem witness_RuleWalk :
    ((rule .stop).low ≤ fields.value .cls ∧ fields.value .cls ≤ (rule .stop).high ∧ (rule .stop).chain = false)
    ∧ ¬(1 ≤ fields.value .cls ∧ fields.value .cls ≤ 7) ∧ (rule .addBase).action ≠ .stop
    ∧ ({ rule .stop with chain := true } : Rule).chain = true ∧ 15 < 16 := by decide

theorem priced_clean : BankClean priced := by
  unfold BankClean
  decide +kernel

theorem witness_Pair : BankClean priced
    ∧ ((zoneAt priced 50).val = none ∧ (zoneAt priced 41).val = some 5 ∧ (zoneAt priced 42).val = some 6)
    ∧ TakesBand priced 0 0 ⟨0, 1000⟩ ∧ priced.classes[0]? = some ⟨⟨0, 0, 0⟩, .clean⟩ :=
  ⟨priced_clean, by decide, ⟨[], [], rfl, (fun _ h => nomatch h), by decide, (fun _ h => nomatch h)⟩, by decide⟩

theorem witness_Charge :
    ((card 11).w.trip = .inside ∧ outCard.w.trip = .outside)
    ∧ (priced.header[7]? = some ⟨2000, .clean⟩ ∧ (zoneAt priced 50).bits = .clean ∧ (zoneAt priced 50).val = none)
    ∧ (zoneAt priced 41).bits = .clean ∧ (zoneAt priced 41).val = some 5 ∧ priced.incompleteFares[5]? = some ⟨0, .clean⟩
    ∧ priced.unrecordedFares[5]? = some ⟨0, .clean⟩ := by decide

theorem witness_FareAnswers : HeaderClean priced
    ∧ (∃ amount reason flags v, (priced.fare true 41 1000 (card 11)).val.1 = .charge amount reason flags v)
    ∧ (∃ amount reason flags v, (priced.fare false 41 1000 outCard).val.1 = .charge amount reason flags v)
    ∧ (priced.fare true 41 1000 { card 11 with w := { (card 11).w with purse := -500 } }).val.1 = .refuse .insufficientFunds
    ∧ (priced.fare false 41 1000 { outCard with w := { outCard.w with purse := 99 } }).val.1 = .refuse .lowBalance
    ∧ (-501 < -((priced.readHeader 4).val : Int) ∧ ¬-500 < -((priced.readHeader 4).val : Int)
      ∧ ((priced.readHeader 6).val : Int) < 20001) := by
  refine ⟨priced_clean.1, ⟨_, _, _, _, rfl⟩, ⟨_, _, _, _, rfl⟩, by decide, by decide, by decide⟩

def fareDue (c : CardImage) : State :=
  { evaluating .fare (gate .inService) c with tariff := { TariffStore.cleared with areaA := ⟨priced, some 14⟩ } }

def poor : CardImage := { card 11 with w := { (card 11).w with purse := -400 } }

theorem witness_FareAnswer :
    (let s := fareDue (card 11);
      Awaits s 0 .fare .exit .a (card 11) ∧ ServiceFits s 0 .exit ∧ BankUsable s .a ∧ (priced.fare true 41 1000 (card 11)).tally = ⟨0, 0⟩)
    ∧ (priced.fare true 41 1000 poor).val.1 = .refuse .insufficientFunds
    ∧ 0 < ({ priced with baseFares := List.replicate 256 ⟨250, .double⟩ }.fare true 41 1000 (card 11)).tally.uncorrected :=
  ⟨⟨⟨rfl, rfl, rfl, rfl, rfl, rfl⟩, by unfold ServiceFits; decide, by unfold BankUsable; decide, by decide⟩, by decide, by decide⟩

theorem witness_Loading :
    (Serving served ∧ served.tariff.activeVersion = some 14 ∧ served.tariff.activeVersion ≠ some 15
      ∧ ¬(served.tariff.pending = .switching ∨ served.holders served.tariff.pendingId ≠ 0) ∧ Disarmed served .tariff)
    ∧ (let s : State := { served with tariff := { TariffStore.cleared with pending := .loading } };
      s.tariff.pending = .loading ∧ bankPartOf 1 = some .stations ∧ 255 + ([.zone (some 15)] : List TariffItem).length ≤ partSize .stations
        ∧ itemOk .stations (.zone (some 15)) = true ∧ itemOk .stations (.zone (some 16)) = false) := by
  refine ⟨⟨⟨rfl, rfl⟩, rfl, by decide, by decide, rfl⟩, rfl, rfl, by decide, rfl, rfl⟩

def loading (b : Bank) : State := { served with tariff := { TariffStore.cleared with areaB := ⟨b, some 15⟩, pending := .loading } }

theorem witness_TariffClose :
    ((loading priced).tariff.pending = .loading ∧ ∀ x ∈ (pendingBank (loading priced)).readThrough, x = .clean)
    ∧ .double ∈ (pendingBank (loading { priced with stations := ⟨none, .double⟩ :: List.replicate 255 (.fresh none) })).readThrough :=
  ⟨⟨rfl, by decide +kernel⟩, by decide +kernel⟩

theorem witness_TariffActivate :
    let s : State := { served with tariff := { TariffStore.cleared with pending := .ready } };
    s.clock.timeSet = true ∧ s.tariff.pending = .ready ∧ HasRoom s ∧ s.clock.time < (1001#32).toNat ∧ ¬s.clock.time < (1000#32).toNat :=
  ⟨rfl, rfl, room rfl rfl, by decide, by decide⟩

def switching (p : Passages) : State :=
  { lane (tap .identifying .identify) p with tariff := { TariffStore.cleared with pending := .switching } }

theorem witness_EndOfTransaction :
    let releases (s : State) : Prop := s.tariff.pending = .switching ∧ (s.tap 0).bound = some s.tariff.active
      ∧ ∀ k : Lane, k ≠ 0 → (s.tap k).bound ≠ some s.tariff.active
    let empties (s : State) : Prop := (s.gate 0).service = .draining ∧ (s.gate 0).credits = [] ∧ (s.gate 0).passages = []
    (∀ v, DisplayClean (switching (gate v)) ∧ HasRoom (switching (gate v)))
    ∧ (releases (switching (gate .inService)) ∧ ¬empties (switching (gate .inService)))
    ∧ (releases (switching (gate .draining)) ∧ empties (switching (gate .draining)))
    ∧ (¬releases (lane (tap .identifying .identify) (gate .draining)) ∧ empties (lane (tap .identifying .identify) (gate .draining)))
    ∧ ¬releases ((switching (gate .inService)).withTap 1 (tap .reading .read)) := by
  intro releases empties
  refine ⟨fun v => ⟨clean rfl, room rfl rfl⟩, ⟨⟨rfl, rfl, by decide⟩, fun h => nomatch h.1⟩, ⟨⟨rfl, rfl, by decide⟩, rfl, rfl, rfl⟩,
    ⟨fun h => absurd h.1 (by decide), rfl, rfl, rfl⟩, fun h => h.2.2 1 (by decide) rfl⟩

/-! ### The journal -/

theorem witness_Records :
    served.phase = .running ∧ Disarmed served .journal
    ∧ (journalOf 1535).held + 1 = 1536 ∧ (journalOf 1983).held + (journalOf 1983).outstanding = 1983
    ∧ 1984 ≤ (journalOf 1984).held + (journalOf 1984).outstanding ∧ 2048 ≤ (journalOf 2048).held + (journalOf 2048).outstanding := by
  refine ⟨rfl, rfl, ?_, ?_, ?_, ?_⟩ <;> first | rw [journalOf_taken] | rw [journalOf_held]

/-- With 600 records held the oldest is 4,294,967,001: a held sequence, one behind and one ahead. -/
theorem witness_JournalRequests :
    (journalOf 600).held ≠ 0 ∧ Journal.cleared.held = 0
    ∧ seqDistance (seqBack 306 600) (4294967001#32).toNat < 600 ∧ seqDistance (seqBack 306 600) (305#32).toNat = 599
    ∧ (600 ≤ seqDistance (seqBack 306 600) (4294967000#32).toNat ∧ seqDistance (4294967000#32).toNat (seqBack 306 600) ≤ 2147483647)
    ∧ (600 ≤ seqDistance (seqBack 306 600) (306#32).toNat ∧ 2147483647 < seqDistance (306#32).toNat (seqBack 306 600)) := by
  refine ⟨?_, rfl, by decide, by decide, by decide, by decide⟩
  rw [journalOf_held]
  decide

/-- A record whose every number lies in its field's range, some at its end. -/
theorem witness_RecordLayout :
    RecordFits { JournalRecord.blank .entry (some 3) with
      time := 4294967295, serial := some 7, counter := some 16777215, charge := some 65535, purse := some (-200), detail := some (.reason 255) } := by
  simp [RecordFits, JournalRecord.blank]

/-- R200: kind 13, lane NONE, no presence bit but that of the serial at offset 13. -/
theorem test_record_bytes : recordBytes 258 { JournalRecord.blank .creditCancelled none with time := 5, serial := some 7 }
    = [0, 0, 1, 2, 13, 0xFF, 0, 0, 1, 0, 0, 0, 5, 0, 0, 0, 0, 0, 0, 0, 7] ++ List.replicate 36 0 := by decide

/-! ### Lanes -/

def settings (mask polarity : Byte) : LaneSettings := ⟨1, 8, 300, 1500, 30, 20, mask, polarity, 1000, 600, 150, 150, 2000⟩

theorem witness_LaneConfig :
    (let p := (idle (gate .closed)).gate 0;
      p.service = .closed ∧ p.credits = [] ∧ p.passages = [] ∧ p.leaf.state = .closed)
    ∧ ((idle (gate .inService)).gate 0).service ≠ .closed
    ∧ ((settings 12 1).mask &&& 12 = 12 ∧ ¬((settings 21 1).mask &&& 3 = 3 ∨ (settings 21 1).mask &&& 12 = 12))
    ∧ (1 < (settings 0 2).polarity.toNat ∧ (3#8).toNat = (3 : Lane).val) := by
  refine ⟨⟨rfl, rfl, rfl, rfl⟩, by decide, by decide, by decide⟩

theorem witness_LaneService :
    (ServiceRequest.into.refusal .emergencyOpen true true = some .emergency
      ∧ ServiceRequest.holdOpen.refusal .fault true false = some .laneFault
      ∧ ServiceRequest.into.refusal .closed false false = some .notConfigured)
    ∧ (ServiceRequest.out.refusal .fault false false = none ∧ ¬ServiceRequest.out.idle .fault ∧ ServiceRequest.out.idle .closed)
    ∧ (let s := idle { gate .fault with leaf := restingLeaf (gate .fault) .jammed };
      LimitsAgree (s.gate 0) ∧ DisplayClean s ∧ (s.gate 0).leaf.state = .jammed ∧ (s.gate 0).letIn = false ∧ Drained s 0)
    ∧ (let s := idle { gate .inService with credits := [⟨7, false, some 8⟩] };
      LimitsAgree (s.gate 0) ∧ ¬Drained s 0) :=
  ⟨by decide, ⟨by decide, by unfold ServiceRequest.idle; decide, .inr ⟨rfl, rfl⟩⟩,
    ⟨rfl, clean rfl, rfl, rfl, rfl, rfl, by decide⟩, rfl, fun h => nomatch h.1⟩

/-- JAMMED leaves with both limits asserted, and CLOSED ones that HOLD_OPEN sets moving. -/
theorem witness_LaneServiceJams :
    (let s := idle { gate .fault with
        leaf := restingLeaf (gate .fault) .jammed, openLimit := ⟨false, true, none⟩, closedLimit := ⟨false, true, none⟩ };
      (s.gate 0).bothLimits = true ∧ (s.gate 0).leaf.state = .jammed ∧ DisplayClean s ∧ HasRooms s (s.gate 0).credits.length
        ∧ ServiceRequest.out.refusal (s.gate 0).service (s.gate 0).configured s.emergency.accepted = none)
    ∧ (let p := { gate .closed with openLimit := ⟨false, true, none⟩, closedLimit := ⟨false, true, none⟩ };
      p.bothLimits = true ∧ (p.leafReact { p with service := .heldOpen, faultCause := none }).2 = true) :=
  ⟨⟨rfl, rfl, clean rfl, ⟨by decide, rfl⟩, rfl⟩, rfl, rfl⟩

theorem witness_Credits :
    (let s := idle { gate .draining with credits := [⟨7, false, some 8⟩] };
      (s.gate 0).credits.length < 2 ∧ LimitsAgree (s.gate 0) ∧ (s.gate 0).credits[(0 : Fin 2).val]? = some ⟨7, false, some 8⟩
        ∧ DisplayClean s ∧ HasRoom s ∧ (s.tap 0).phase ≠ .committing)
    ∧ (let s := idle (gate .fault);
      (s.gate 0).service = .fault ∧ (s.gate 0).credits = [] ∧ HasRoom s)
    ∧ (let s := idle { gate .inService with credits := [⟨7, true, none⟩, ⟨8, true, none⟩] };
      2 ≤ (s.gate 0).credits.length ∧ ∀ c, (s.gate 0).credits[(1 : Fin 2).val]? = some c → c.inUse = true) :=
  ⟨⟨by decide, rfl, rfl, clean rfl, room rfl rfl, by decide⟩, ⟨rfl, rfl, room rfl rfl⟩, by decide,
    fun c h => by cases h; rfl⟩

/-- A beam input whose level means BLOCKED, and one whose level means CLEAR, their timers running; low is BLOCKED. -/
def blocking : Input := ⟨false, false, some 20⟩
def clearing : Input := ⟨true, true, some 20⟩

def beams (b : Beam) (i : Input) (p : Passages) : Passages := { p with beams := p.beams.set b i }

theorem witness_Levels : ((served.gate 0).beams.get 2).timer = none ∧ ((served.gate 0).limit .openLimit).timer = none := ⟨rfl, rfl⟩

theorem witness_Occupied :
    (let s := idle (beams 2 blocking { gate .draining with credits := [⟨7, true, none⟩, ⟨8, false, some 8⟩], passages := [⟨some 7, true, false⟩] });
      BeamTurns s 0 2 .leaves true ∧ (s.gate 0).passages.length < 2 ∧ LimitsAgree (s.gate 0))
    ∧ (let s := idle (beams 3 blocking (gate .emergencyOpen));
      BeamTurns s 0 3 .leaves true ∧ ∀ x ∈ (s.gate 0).credits, x.inUse = true)
    ∧ (let s := idle (beams 2 blocking { gate .inService with credits := [⟨7, true, none⟩], passages := [⟨some 7, true, false⟩] });
      BeamTurns s 0 2 .leaves true ∧ (∀ x ∈ (s.gate 0).credits, x.inUse = true) ∧ (s.gate 0).passages = [] ++ [⟨some 7, true, false⟩]
        ∧ HasRoom s)
    ∧ (let s := idle (beams 5 blocking (gate .inService));
      BeamTurns s 0 5 .exit true ∧ (s.gate 0).leaf.state = .closed ∧ (s.gate 0).intrusionOpen = false ∧ HasRoom s)
    ∧ (let p := (idle (beams 0 blocking (beams 1 ⟨false, true, none⟩ (gate .inService)))).gate 0;
      (p.beams.get 0).timer.isSome = true ∧ segmentOf 0 = .approach ∧ p.demand = false ∧ LeavesAtRest p)
    ∧ (let p := (idle (beams 2 blocking (beams 3 ⟨false, true, none⟩ { gate .heldOpen with
          leaf := restingLeaf (gate .heldOpen) .opened, openLimit := ⟨false, true, none⟩ }))).gate 0;
      (p.beams.get 2).timer.isSome = true ∧ (p.acceptBeam 2).occ .leaves = p.occ .leaves ∧ LeavesAtRest p) :=
  ⟨⟨⟨rfl, rfl, rfl, rfl, rfl⟩, by decide, rfl⟩, ⟨⟨rfl, rfl, rfl, rfl, rfl⟩, (fun _ h => nomatch h)⟩,
    ⟨⟨rfl, rfl, rfl, rfl, rfl⟩, by decide, rfl, room rfl rfl⟩, ⟨⟨rfl, rfl, rfl, rfl, rfl⟩, rfl, rfl, room rfl rfl⟩, ⟨rfl, rfl, rfl, by unfold LeavesAtRest; decide⟩, rfl, rfl, by unfold LeavesAtRest; decide⟩

/-- Two passages settle, oldest first: the marked one completes, the unmarked one gives its credit back. -/
theorem witness_SettlesTwo :
    let p : Passages := { gate .inService with
      credits := [⟨7, true, none⟩, ⟨8, true, none⟩], passages := [⟨some 7, true, false⟩, ⟨some 8, false, false⟩] };
    (let s := idle (beams 4 clearing p);
      BeamTurns s 0 4 .exit false ∧ (s.gate 0).occ .leaves = false ∧ LimitsAgree (s.gate 0) ∧ DisplayClean s)
    ∧ SettlesAll p p.passages [⟨8, false, some p.config.creditLapse⟩] { Stats.zero with credited := 1 } :=
  ⟨⟨⟨rfl, rfl, rfl, rfl, rfl⟩, rfl, rfl, clean rfl⟩,
    [⟨8, true, none⟩], { Stats.zero with credited := 1 },
    .inr ⟨[], ⟨7, true, none⟩, [⟨8, true, none⟩], rfl, (fun _ h => nomatch h), rfl, rfl, fun _ => ⟨rfl, rfl⟩, fun h => nomatch h⟩,
    _, _, .inr ⟨[], ⟨8, true, none⟩, [], rfl, (fun _ h => nomatch h), rfl, rfl, (fun h => nomatch h), fun _ => ⟨rfl, rfl⟩⟩, rfl, rfl⟩

theorem witness_Clear :
    (let s := idle (beams 4 blocking { gate .inService with credits := [⟨7, true, none⟩], passages := [⟨some 7, false, false⟩] });
      BeamTurns s 0 4 .exit true ∧ LimitsAgree (s.gate 0) ∧ DisplayClean s)
    ∧ (let s := idle (beams 2 clearing (beams 4 ⟨false, true, none⟩ { gate .inService with passages := [⟨none, false, false⟩] }));
      BeamTurns s 0 2 .leaves false ∧ (s.gate 0).occ .exit = true)
    ∧ (let s := idle (beams 2 clearing { gate .draining with credits := [⟨7, true, none⟩], passages := [⟨some 7, true, false⟩] });
      BeamTurns s 0 2 .leaves false ∧ (s.gate 0).occ .exit = false
        ∧ Settles (s.gate 0) ⟨some 7, true, false⟩ [] { Stats.zero with credited := 1 })
    ∧ (let s := idle (beams 4 clearing { gate .heldOpen with passages := [⟨none, true, false⟩] });
      BeamTurns s 0 4 .exit false ∧ (s.gate 0).occ .leaves = false
        ∧ Settles (s.gate 0) ⟨none, true, false⟩ [] { Stats.zero with free := 1 }) :=
  ⟨⟨⟨rfl, rfl, rfl, rfl, rfl⟩, rfl, clean rfl⟩, ⟨⟨rfl, rfl, rfl, rfl, rfl⟩, rfl⟩,
    ⟨⟨rfl, rfl, rfl, rfl, rfl⟩, rfl, .inr ⟨[], ⟨7, true, none⟩, [], rfl, (fun _ h => nomatch h), rfl, rfl, fun _ => ⟨rfl, rfl⟩, fun h => nomatch h⟩⟩,
    ⟨⟨rfl, rfl, rfl, rfl, rfl⟩, rfl, .inl ⟨rfl, rfl, rfl⟩⟩⟩

/-- A lane whose leaves move, a limit about to change. -/
def moving (v : LeafState) (o c : Input) : State :=
  idle { gate .inService with
    credits := [⟨7, false, some 8⟩], leaf := ⟨v, none, some 1500, some 300, false, 1000, 600, 150⟩, openLimit := o, closedLimit := c }

/-- A lane in a leaf state reacts to its demand while its limits agree. -/
theorem witness_LeavesReact (v : LeafState) : LimitsAgree ((moving v ⟨false, true, none⟩ Input.idle).gate 0)
    ∧ ((moving v ⟨false, true, none⟩ Input.idle).gate 0).leaf.state = v := ⟨rfl, rfl⟩

theorem witness_LeafTimers :
    (let s := moving .opening ⟨false, false, some 20⟩ Input.idle;
      DisplayClean s ∧ (s.gate 0).leaf.closeDelay.isSome = true ∧ LimitsAgree (s.gate 0) ∧ (s.gate 0).leaf.travel.isSome = true
        ∧ (s.gate 0).demand = true ∧ ((s.gate 0).limit .openLimit).timer.isSome = true
        ∧ ((s.gate 0).modLimit .openLimit fun i => ⟨i.high, !i.high, none⟩).bothLimits = false)
    ∧ (let s := moving .closing ⟨false, true, none⟩ ⟨false, false, some 20⟩;
      ((s.gate 0).modLimit .closedLimit fun i => ⟨i.high, !i.high, none⟩).bothLimits = true ∧ (s.gate 0).service ≠ .emergencyOpen)
    ∧ HasRooms (moving .closing ⟨false, true, none⟩ ⟨false, false, some 20⟩) 1
    ∧ (let p := (moving .opened ⟨true, true, some 20⟩ Input.idle).gate 0;
      (p.modLimit .openLimit fun i => ⟨i.high, !i.high, none⟩).openLimit.accepted = false ∧ p.demand = true)
    ∧ (let p := (idle { gate .inService with closedLimit := ⟨true, true, some 20⟩ }).gate 0;
      (p.modLimit .closedLimit fun i => ⟨i.high, !i.high, none⟩).closedLimit.accepted = false ∧ p.demand = false
        ∧ p.leaf.state = .closed ∧ p.obstruction = none)
    ∧ ((idle { gate .inService with obstruction := some 30 }).gate 0).obstruction.isSome = true :=
  ⟨⟨clean rfl, rfl, rfl, rfl, rfl, rfl, rfl⟩, ⟨rfl, by decide⟩, ⟨by show 0 + 0 + 1 < 1536; decide, rfl⟩, ⟨rfl, rfl⟩,
    ⟨rfl, rfl, rfl, rfl⟩, rfl⟩

/-- A lane in EMERGENCY_OPEN whose limits come to read asserted together, one whose leaves travel too long, and leaves that reach open
with no demand. -/
theorem witness_LeafTimersInEmergency :
    (let p := { gate .emergencyOpen with openLimit := ⟨false, true, none⟩, closedLimit := ⟨false, false, some 20⟩ };
      (p.modLimit .closedLimit fun i => ⟨i.high, !i.high, none⟩).bothLimits = true ∧ p.service = .emergencyOpen)
    ∧ (let p := { gate .emergencyOpen with leaf := ⟨.opening, none, some 1500, none, false, 1000, 600, 150⟩ };
      p.leaf.state = .opening ∧ p.leaf.travel.isSome = true ∧ p.service = .emergencyOpen)
    ∧ (let p := { gate .inService with
          leaf := ⟨.opening, none, some 1500, some 300, false, 1000, 600, 150⟩, openLimit := ⟨false, false, some 20⟩ };
      let q := p.modLimit .openLimit fun i => ⟨i.high, !i.high, none⟩;
      q.bothLimits = false ∧ q.openLimit.accepted = true ∧ p.demand = false)
    ∧ (let p := { gate .inService with closedLimit := ⟨false, false, some 20⟩ };
      ((p.modLimit .closedLimit fun i => ⟨i.high, !i.high, none⟩).limit .closedLimit).accepted = decide (p.leaf.state = .closed ∨ p.leaf.state = .opened)
        ∧ (p.modLimit .closedLimit fun i => ⟨i.high, !i.high, none⟩).bothLimits = false) := by decide

theorem limits_agree_of_lane (t : Tap) (p : Passages) (h : LimitsAgree p) (l : Lane) : LimitsAgree ((lane t p).gate l) := by
  match l with
  | 0 => exact h
  | 1 => exact (rfl : LimitsAgree Passages.cleared)
  | 2 => exact (rfl : LimitsAgree Passages.cleared)
  | 3 => exact (rfl : LimitsAgree Passages.cleared)

theorem witness_Emergency :
    let p := { gate .inService with credits := [⟨7, false, some 8⟩] };
    let s := lane (tap .reading .read) p;
    s.emergency.accepted = false ∧ DisplayClean s ∧ s.tariff.pending ≠ .switching
      ∧ HasRooms s (allLanes.flatMap fun l => cancelRecords l (s.gate l).credits .emergency).length
      ∧ (∀ l, LimitsAgree (s.gate l)) ∧ (∀ l, s.journal.reservations.get l = none)
      ∧ (s.tap 0).phase = .reading ∧ (s.tap 0).kind ≠ some .emergency
      ∧ ({ s with emergency := ⟨true, true, none⟩ } : State).emergency.accepted = true :=
  ⟨rfl, clean rfl, by decide, ⟨by decide, rfl⟩, limits_agree_of_lane _ _ rfl, by decide, rfl, by decide, rfl⟩

/-- A switchover that waits for a transaction which the assertion ends, at a lane whose CLOSED leaves have both limits asserted. -/
theorem witness_EmergencySwitchesAndJams :
    let s := switching { gate .inService with openLimit := ⟨false, true, none⟩, closedLimit := ⟨false, true, none⟩ };
    let ends (l : Lane) : Prop := (s.tap l).phase = .identifying ∧ (s.tap l).kind ≠ some .emergency
    s.emergency.accepted = false ∧ DisplayClean s ∧ s.tariff.pending = .switching
      ∧ (∃ l, (s.tap l).bound = some s.tariff.active) ∧ (∀ l, (s.tap l).bound = some s.tariff.active → ends l)
      ∧ (s.gate 0).bothLimits = true ∧ (s.gate 0).leaf.state = .closed ∧ HasRooms s 1
      ∧ ∀ l, s.journal.reservations.get l = none :=
  ⟨rfl, clean rfl, rfl, ⟨0, rfl⟩, by decide, rfl, rfl, ⟨by decide, rfl⟩, by decide⟩

/-! ### Indicators -/

/-- A template with a FARE field of 10 cells and a BALANCE field of 6 on one line, and a held result with a charge and no purse. -/
theorem witness_Frame :
    TemplateSound ⟨DispCell.blankFrame, [⟨.fare, 1, 9, 10⟩, ⟨.balance, 1, 15, 6⟩]⟩
    ∧ (let i : Indicator := { Indicator.cleared with held := some ⟨.granted, some 140, none⟩ };
      shownValue i .fare = some 140 ∧ shownValue i .balance = none)
    ∧ shownValue Indicator.cleared .fare = none ∧ Decimal [1, 0] 10 ∧ Decimal [0] 0 := by
  refine ⟨⟨rfl, by decide, by decide⟩, ⟨rfl, rfl⟩, rfl, ?_, ?_⟩ <;> unfold Decimal <;> decide

theorem witness_Indicator :
    let i : Indicator := { Indicator.cleared with
      held := some ⟨.granted, some 140, some 885⟩, holdTimer := some 2000, sending := some DispCell.blankFrame, resend := true };
    (((served.withInd 0 i).ind 0).held.isSome = true ∧ ((served.withInd 0 i).ind 0).holdTimer.isSome = true
      ∧ ((served.withInd 0 i).ind 0).sending.isSome = true ∧ ((served.withInd 0 i).ind 0).resend = true ∧ DisplayClean (served.withInd 0 i))
    ∧ ((served.ind 0).held = none ∧ (served.ind 0).obstructed = false ∧ (served.ind 0).holdTimer = none ∧ (served.ind 0).sending = none) :=
  ⟨⟨rfl, rfl, rfl, rfl, clean rfl⟩, rfl, rfl, rfl, rfl⟩

def cells : List RawCell := List.replicate 32 ⟨127, 7⟩
def slots : List RawSlot := [⟨0, 1, 9, 10⟩, ⟨1, 1, 15, 6⟩]

theorem witness_Templates :
    (templateOk 47 cells slots = true ∧ DisplayClean served ∧ Disarmed served .templates ∧ Serving served)
    ∧ (templateOk 48 cells [] = false ∧ templateOk 0 cells [⟨0, 1, 9, 10⟩, ⟨1, 1, 14, 6⟩] = false)
    ∧ (∀ x ∈ ([(26, 47)] : List (Byte × Byte)), mapItemOk x = true) ∧ mapItemOk (27, 0) = false :=
  ⟨⟨by decide, clean rfl, rfl, rfl, rfl⟩, by decide, List.forall_mem_singleton.2 rfl, by decide⟩

/-! ### Host link, settings, resets and start-up -/

/-- A part with an injection armed for a memory. -/
def armed (m : Memory) (j : Injection) (s : State) : State := { s with ecc := s.ecc.set m { s.ecc.get m with armed := some j } }

theorem witness_Inject : memoryOf 4 = some .templates ∧ (1#8).toNat = (if Injection.double = .single then 0 else 1) ∧ 1 < (2#8).toNat
    ∧ (∀ m ∈ [Memory.journal, .sighting, .lists, .tariff, .templates],
      ((armed m .single served).ecc.get m).armed = some .single ∧ ((armed m .double served).ecc.get m).armed = some .double)
    ∧ (served.journal.held + served.journal.outstanding + 1 < 1984 ∧ served.journal.held + 1 ≠ 1536)
    ∧ (served.screening.sightings.length < 16384 ∧ ∀ x ∈ served.screening.sightings, x.val.serial ≠ 7)
    ∧ ((armed .lists .single (denied .lock)).ecc.get .lists).armed = some .single
    ∧ (served.tariff.activeVersion ≠ some (15#16).toNat ∧ served.tariff.pending ≠ .switching ∧ served.holders served.tariff.pendingId = 0)
    ∧ ∀ l, keyIndex (served.ind l).key ≠ (0#8).toNat := by decide

theorem witness_Clock :
    (served.tariff.pending ≠ .scheduled ∧ HasRoom served ∧ served.clock.timeSet = true
      ∧ ¬served.settings.skew < (1120#32).toNat - 1000 ∧ served.settings.skew < (1121#32).toNat - 1000)
    ∧ (let s : State := { served with tariff := { TariffStore.cleared with pending := .scheduled, effective := some 1001 } };
      s.phase = .running ∧ s.tariff.pending = .scheduled ∧ s.tariff.effective = some 1001 ∧ HasRoom s
        ∧ HasRoom ((State.withRecord { s with clock := ⟨5000, true⟩ } (JournalRecord.blank .timeStep none)).raise .timeStep))
    ∧ (¬7 < (7#8).toNat ∧ ¬(8#8).toNat < 1) :=
  ⟨⟨by decide, room rfl rfl, rfl, by decide, by decide⟩,
    ⟨rfl, rfl, rfl, room rfl rfl, by decide, by decide, rfl⟩, by decide⟩

def queued : State :=
  { served with link := { Link.cleared with queue := [⟨0x02, 8, [0, 0, 0, 1], true⟩, ⟨0x03, 9, [], false⟩, ⟨0x1C, 10, [], false⟩] } }

theorem witness_Requests :
    requestKind .timeGet = some 0x03 ∧ State.reset.phase = .startUp ∧ (served.fallen .resetLine .held).phase = .held
    ∧ (Serving queued ∧ decodeRequest 0x03 [] = .timeGet
      ∧ queued.link.queue = [⟨0x02, 8, [0, 0, 0, 1], true⟩] ++ ⟨0x03, 9, [], false⟩ :: [⟨0x1C, 10, [], false⟩])
    ∧ requestKind .reset = some 0x1C ∧ requestKind (.unknownKind 0x1D [1]) = some 0x1D :=
  ⟨rfl, rfl, rfl, ⟨⟨rfl, rfl⟩, rfl, rfl⟩, rfl, rfl⟩

theorem witness_Receiver :
    served.link.receiver = .hunting ∧ (List.replicate 512 (0xA5#8)).length ≤ 512 ∧ served.link.queue.length < 4
    ∧ 4 ≤ (List.replicate 4 (⟨3, 9, [], false⟩ : QueuedRequest)).length
    ∧ ofBytes [0, 0] ≠ (crc16 (coveredBytes 3 9 [])).toNat
    ∧ 512 < (2#8).toNat * 256 + (1#8).toNat ∧ (2#8).toNat * 256 + (0#8).toNat ≤ 512 :=
  ⟨rfl, Nat.le_of_eq List.length_replicate, by decide, by decide, by decide +kernel, by decide, by decide⟩

def resetReply : Reply := ⟨0x9C, some 10, ⟨.ok, none, []⟩, true, true⟩

/-- A part in start-up with two requests in its queue, the first answered. -/
def startingLink : State :=
  { State.reset with link := { Link.cleared with
      queue := [⟨0x02, 8, [], true⟩, ⟨0x03, 9, [], false⟩]
      replies := [⟨0x82, some 8, ⟨.starting, none, []⟩, true, false⟩] } }

theorem witness_LinkInStartUp :
    (State.reset.phase = .startUp ∧ State.reset.link.receiver = .hunting ∧ State.reset.link.reset ≠ .waiting ∧ State.reset.link.queue = [])
    ∧ (startingLink.link.queue.length < 4 ∧ startingLink.link.queue = ⟨0x02, 8, [], true⟩ :: [⟨0x03, 9, [], false⟩])
    ∧ (startingLink.phase = .startUp ∧ startingLink.link.replies = ⟨0x82, some 8, ⟨.starting, none, []⟩, true, false⟩ :: []) := by decide

theorem witness_ReplySent :
    (let s : State := { lane (tap .reading .read) (gate .inService) with link := { Link.cleared with replies := [resetReply] } };
      s.link.replies = resetReply :: [] ∧ (s.tap 0).phase = .reading ∧ Calm s 0 ∧ s.journal.reservations.get 0 = none)
    ∧ (((committing .debit .inService).tap 0).phase = .committing ∧ resetReply.beginsWait = true)
    ∧ (let s : State := { served with link := { Link.cleared with reset := .waiting } };
      s.link.reset = .waiting ∧ ∀ l, (s.tap l).phase ≠ .committing) :=
  ⟨⟨rfl, rfl, calm rfl (by decide) (by decide), rfl⟩, ⟨rfl, rfl⟩, rfl, by decide⟩

theorem witness_Resets :
    State.reset.resetLine = false ∧ State.reset.phase ≠ .unpowered ∧ (served.fallen .powerOn .unpowered).phase = .unpowered
    ∧ ({ served with resetLine := true } : State).resetLine = true := by decide

/-- Start-up with marked PROVISIONAL entries of lanes 2 and 0, an OPEN one, an uncorrectable PROVISIONAL one of lane 1, whose reservation is
left over, and a scheduled bank that is due. -/
def provisional (ser : Serial) (l : Lane) : DoubtEntry := { debit with serial := ser, lane := l, opened := false, sequence := none }

def startingUp (r : Retention) : State :=
  { State.reset with
    retention := r
    clock := ⟨1000, true⟩
    tariff := { TariffStore.cleared with pending := .scheduled, effective := some 1000 }
    doubt :=
      ⟨[⟨provisional 7 2, .clean⟩, .fresh { debit with serial := 8 }, ⟨provisional 9 1, .double⟩, ⟨provisional 10 0, .single⟩],
       (((PerLane.all none).set 2 (some .debit)).set 1 (some .lock)).set 0 (some .debit)⟩ }

theorem witness_StartUp :
    (¬Retained (startingUp Retention.lost) ∧ LanesFallen (startingUp Retention.lost))
    ∧ (let s := startingUp Retention.written;
      s.phase = .startUp ∧ Retained s ∧ Disarmed s .journal ∧ Disarmed s .lists ∧ DoubtMarked s
        ∧ s.journal.held + s.doubt.entries.length + 5 < 2048
        ∧ (s.tariff.pending = .scheduled ∧ ∃ t, s.tariff.effective = some t ∧ t ≤ s.clock.time) ∧ s.leftover = [1]) := by
  refine ⟨⟨fun h => ?_, ?_⟩, rfl, ?_, rfl, rfl, ?_, by decide, ⟨rfl, _, rfl, by decide⟩, by decide⟩
  · have := (h _ (List.mem_cons_self ..)).1
    cases this
  · intro l
    match l with
    | 0 => exact ⟨rfl, rfl, rfl⟩
    | 1 => exact ⟨rfl, rfl, rfl⟩
    | 2 => exact ⟨rfl, rfl, rfl⟩
    | 3 => exact ⟨rfl, rfl, rfl⟩
  · unfold Retained
    decide
  · unfold DoubtMarked
    decide

/-- STATUS GET of the part after start-up has reported. -/
theorem witness_Report : ({ served with report := some (.powerOn, .retained) } : State).report = some (.powerOn, .retained)
    ∧ ¬3 < (3#8).toNat ∧ (3#8).toNat = (3 : Lane).val := ⟨rfl, by decide, rfl⟩

/-- A held result has eight bytes, whether its charge and its purse are absent or not, and a LANE CONFIG reply one byte less than the
configuration in STATUS GET, which has a presence byte before the kind (R164, R198). -/
theorem test_report_sizes :
    (HeldResult.bytes ⟨.granted, some 140, some 885⟩).length = 8 ∧ (HeldResult.bytes ⟨.tapAgain, none, none⟩).length = 8
    ∧ (reportedConfig LaneConfig.cleared).length = (configBytes (gate .closed).config).length + 1 := by decide

/-- R135: leaves that a HOLD_OPEN holds keep the hold duty they started with when LANE CONFIG changes it. -/
theorem test_hold_duty_until_the_next_movement :
    ({ gate .heldOpen with
      leaf := { (restingLeaf (gate .heldOpen) .opened) with moveHold := 150 }, openLimit := ⟨false, true, none⟩
      config := { (gate .heldOpen).config with holdDuty := 90 } } : Passages).drive = .openAt 150 := by decide

/-- The invariants' hypotheses are met by a part at work, here a lane in COMMITTING, whose next command is a tick of the clock. -/
theorem witness_Invariants :
    let s : State := { committing .debit .inService with pending := [.clockTick] };
    PlacesSound s ∧ OneLanePerCard s ∧ ListsSound s ∧ s.link.queue.length ≤ 4
      ∧ (∀ l, LeavesSound (s.gate l) ∧ CreditsSound (s.gate l)) ∧ ∃ t, step s = .next t := by
  refine ⟨⟨by decide, fun _ => by decide⟩, ?_, ⟨by decide, by decide, (fun h => nomatch h), by decide, by decide, (fun x h => nomatch h)⟩,
    by decide, ?_, _, rfl⟩
  · have h : ∀ l : Lane, l ≠ 0 → ((committing .debit .inService).tap l).inFlight = none := by decide
    intro k l ser hk hl
    by_cases h1 : k = 0
    · by_cases h2 : l = 0
      · rw [h1, h2]
      · exact absurd hl (by show ((committing .debit .inService).tap l).inFlight ≠ _; rw [h l h2]; intro h; cases h)
    · exact absurd hk (by show ((committing .debit .inService).tap k).inFlight ≠ _; rw [h k h1]; intro h; cases h)
  · unfold LeavesSound CreditsSound
    decide

/-- R200: the presence mask is three bytes, and its bit 0 is the least significant bit of the byte at offset 8. -/
theorem test_presence_mask_bytes : maskBytes 1 = [0, 0, 1] ∧ maskBytes (2 ^ 16) = [1, 0, 0] := by decide

end Sys2Proof.Tests
end

/-! ## Proofs about the fare evaluation (chapter 3) -/

section

namespace Sys2Proof.FareProofs

open Sys2Proof Sys2Proof.Machine

/-! ### The clamp of the walk's base (R67): one equation for each part of its range -/

theorem clampBase_of_neg {base : Int} (h : base < 0) : clampBase base = 0 := by
  unfold clampBase
  omega

theorem clampBase_of_gt {base : Int} (h : 20000 < base) : clampBase base = 20000 := by
  unfold clampBase
  omega

theorem clampBase_of_mem {base : Int} (hlow : 0 ≤ base) (hhigh : base ≤ 20000) : clampBase base = base.toNat := by
  unfold clampBase
  omega

theorem clampBase_eq_ite (base : Int) :
    clampBase base = if base < 0 then 0 else if 20000 < base then 20000 else base.toNat := by
  split
  case isTrue hneg => exact clampBase_of_neg hneg
  case isFalse hnonneg =>
    split
    case isTrue hgt => exact clampBase_of_gt hgt
    case isFalse hle => exact clampBase_of_mem (not_lt.mp hnonneg) (not_lt.mp hle)

/-- Settles O25: the clamp of R67 is the one stage that the model spells differently; stages 4 to 6 are the formulas of
R68 to R70 on the clamped base. -/
theorem stagesFourToSixPriceAPair : Obligations.StagesFourToSixPriceAPair := by
  intro maxFare step w
  simp only [← clampBase_eq_ite]
  rfl

end Sys2Proof.FareProofs

end

/-! ## Proofs about the trip journal (chapter 6) -/

section

namespace Sys2Proof.JournalProofs

open Sys2Proof Sys2Proof.Machine

/-! ### The answer of a request that is served -/

/-- A serving part answers a request with what its block's work gives, when the work leaves the host link alone. -/
theorem answers_of_work {s : State} (hs : Serving s) {kind : Byte} {c : Instr} {work : State → Answer × State}
    (hexec : exec c s = .next (s.hostServe kind c work)) {a : Answer} {u : State} (hwork : work s = (a, u))
    (hlink : u.link = s.link) : Answers c s kind a u := by
  have served := State.hostServe_serving hs kind c work (by rw [hwork]; exact hlink)
  rw [hwork] at served
  exact ⟨_, hexec, served⟩

theorem answers_journalRead {s : State} (hs : Serving s) {start : BitVec 32} {count : Byte} {a : Answer} {u : State}
    (hwork : s.journalRead start.toNat count.toNat = (a, u)) (hlink : u.link = s.link) :
    Answers (.journalRead start count) s 0x13 a u :=
  answers_of_work hs rfl hwork hlink

theorem answers_journalRelease {s : State} (hs : Serving s) {upto : BitVec 32} {a : Answer} {u : State}
    (hwork : s.journalRelease upto.toNat = (a, u)) (hlink : u.link = s.link) : Answers (.journalRelease upto) s 0x14 a u :=
  answers_of_work hs rfl hwork hlink

theorem toNat_eq_zero_iff {w : Nat} {x : BitVec w} : x.toNat = 0 ↔ x = 0 :=
  BitVec.toNat_inj (y := 0#w)

/-! ### Sequences (R118) -/

/-- One of the sequences 1 to 4,294,967,295. -/
def IsSequence (q : Nat) : Prop := 1 ≤ q ∧ q ≤ seqCount

theorem isSequence_seqBack (q n : Nat) : IsSequence (seqBack q n) := by
  have := Nat.mod_lt (q - 1 + (seqCount - n % seqCount)) (y := seqCount) (by decide)
  unfold IsSequence seqBack
  omega

theorem isSequence_toNat {x : BitVec 32} (hx : x ≠ 0) : IsSequence x.toNat := by
  have hpos : x.toNat ≠ 0 := mt toNat_eq_zero_iff.mp hx
  have hlt := x.isLt
  unfold IsSequence seqCount
  omega

theorem seqForward_zero {q : Nat} (hq : IsSequence q) : seqForward q 0 = q := by
  obtain ⟨hlow, hhigh⟩ := hq
  rw [seqForward, Nat.add_zero, Nat.mod_eq_of_lt (by omega)]
  omega

theorem seqForward_seqForward (q m n : Nat) : seqForward (seqForward q m) n = seqForward q (m + n) := by
  simp only [seqForward, Nat.add_sub_cancel, Nat.mod_add_mod, Nat.add_assoc]

/-! ### The place of a sequence (R118): one equation for each place -/

theorem place_of_empty {j : Journal} (q : Nat) (h : j.held = 0) : j.place q = .empty := if_pos h

theorem place_of_held {j : Journal} {q : Nat} (h : j.held ≠ 0) (hq : seqDistance j.oldest q < j.held) :
    j.place q = .held (seqDistance j.oldest q) := by
  rw [Journal.place, if_neg h, if_pos hq]

theorem place_of_behind {j : Journal} {q : Nat} (h : j.held ≠ 0) (hq : j.held ≤ seqDistance j.oldest q)
    (hback : seqDistance q j.oldest ≤ 2147483647) : j.place q = .behind := by
  rw [Journal.place, if_neg h, if_neg hq.not_gt, if_pos hback]

theorem place_of_ahead {j : Journal} {q : Nat} (h : j.held ≠ 0) (hq : j.held ≤ seqDistance j.oldest q)
    (hback : 2147483647 < seqDistance q j.oldest) : j.place q = .ahead := by
  rw [Journal.place, if_neg h, if_neg hq.not_gt, if_neg hback.not_ge]

/-! ### What a read returns and what a release leaves (R128, R129): one equation for each place -/

theorem readFrom_of_empty {j : Journal} (q count : Nat) (h : j.held = 0) : j.readFrom q count = (q, [], false) := by
  rw [Journal.readFrom, place_of_empty q h]

theorem readFrom_of_held {j : Journal} {q : Nat} (count : Nat) (h : j.held ≠ 0) (hq : seqDistance j.oldest q < j.held) :
    j.readFrom q count = (q, (j.records.drop (seqDistance j.oldest q)).take count, false) := by
  rw [Journal.readFrom, place_of_held h hq]

theorem readFrom_of_behind {j : Journal} {q : Nat} (count : Nat) (h : j.held ≠ 0) (hq : j.held ≤ seqDistance j.oldest q)
    (hback : seqDistance q j.oldest ≤ 2147483647) : j.readFrom q count = (j.oldest, j.records.take count, true) := by
  rw [Journal.readFrom, place_of_behind h hq hback]

theorem readFrom_of_ahead {j : Journal} {q : Nat} (count : Nat) (h : j.held ≠ 0) (hq : j.held ≤ seqDistance j.oldest q)
    (hback : 2147483647 < seqDistance q j.oldest) : j.readFrom q count = (q, [], false) := by
  rw [Journal.readFrom, place_of_ahead h hq hback]

theorem release_of_empty {j : Journal} (q : Nat) (h : j.held = 0) : j.release q = (false, j) := by
  rw [Journal.release, place_of_empty q h]

theorem release_of_held {j : Journal} {q : Nat} (h : j.held ≠ 0) (hq : seqDistance j.oldest q < j.held) :
    j.release q = (false, j.free (seqDistance j.oldest q + 1)) := by
  rw [Journal.release, place_of_held h hq]

theorem release_of_behind {j : Journal} {q : Nat} (h : j.held ≠ 0) (hq : j.held ≤ seqDistance j.oldest q)
    (hback : seqDistance q j.oldest ≤ 2147483647) : j.release q = (false, j) := by
  rw [Journal.release, place_of_behind h hq hback]

theorem release_of_ahead {j : Journal} {q : Nat} (h : j.held ≠ 0) (hq : j.held ≤ seqDistance j.oldest q)
    (hback : 2147483647 < seqDistance q j.oldest) : j.release q = (true, j.free j.held) := by
  rw [Journal.release, place_of_ahead h hq hback]

/-! ### The records a read returns (R131) -/

/-- A record read at an index after the first one returned: under the sequence of its place, or as a damaged marker. -/
def returnedBytes (first : Nat) (x : Stored JournalRecord × Nat) : List Byte :=
  if x.1.bits = .double then beBytes 4 (seqForward first x.2) ++ [0xFF, 0xFF] ++ List.replicate 51 0
  else recordBytes (seqForward first x.2) x.1.val

theorem countBits_cons {α : Type} (b : Integrity) (x : Stored α) (xs : List (Stored α)) :
    countBits b (x :: xs) = countBits b xs + if x.bits = b then 1 else 0 := by
  simp [countBits, List.countP_cons]

theorem readRecords_from (first k : Nat) (records : List (Stored JournalRecord)) :
    readRecords (seqForward first k) records = ((records.zipIdx k).flatMap (returnedBytes first),
      ⟨countBits .single records, countBits .double records⟩) := by
  induction records generalizing k with
  | nil => rfl
  | cons x xs ih =>
    rw [readRecords, seqForward_seqForward, ih, List.zipIdx_cons, List.flatMap_cons, countBits_cons, countBits_cons]
    obtain ⟨r, bits⟩ := x
    cases bits <;> rfl

theorem readRecords_eq {first : Nat} (hfirst : IsSequence first) (records : List (Stored JournalRecord)) :
    readRecords first records = (records.zipIdx.flatMap (returnedBytes first),
      ⟨countBits .single records, countBits .double records⟩) := by
  have h := readRecords_from first 0 records
  rwa [seqForward_zero hfirst] at h

/-! ### JOURNAL READ (R128) -/

/-- The oldest and the newest sequence held; none while no record is held (R117). -/
def seqEnds (j : Journal) : Option (Nat × Nat) := if j.held = 0 then none else some (j.oldest, j.newest)

theorem oldestSeq_eq (j : Journal) : j.oldestSeq = (seqEnds j).map fun x => x.1 := by
  unfold Journal.oldestSeq seqEnds
  split <;> rfl

theorem newestSeq_eq (j : Journal) : j.newestSeq = (seqEnds j).map fun x => x.2 := by
  unfold Journal.newestSeq seqEnds
  split <;> rfl

/-- The reply body of JOURNAL READ: the journal's ends, its counts, and the records from the first one returned (R200). -/
def readBody (j : Journal) (atOldest : Bool) (first : Nat) (records : List (Stored JournalRecord)) : List Byte :=
  optionalNat 4 ((seqEnds j).map fun x => x.1) ++ optionalNat 4 ((seqEnds j).map fun x => x.2) ++ beBytes 2 j.held
    ++ beBytes 4 j.nextSequence ++ [boolByte atOldest] ++ beBytes 1 records.length ++ records.zipIdx.flatMap (returnedBytes first)

/-- The state after records have been read: what the reads found is counted (R131, R173). -/
def afterRead (s : State) (records : List (Stored JournalRecord)) : State :=
  s.noteFindings .journal (countBits .single records) (countBits .double records)

theorem readJournal_eq {s : State} {start count first : Nat} {records : List (Stored JournalRecord)} {atOldest : Bool}
    (hfrom : s.journal.readFrom start count = (first, records, atOldest)) (hfirst : IsSequence first) :
    s.readJournal start count = (ok (readBody s.journal atOldest first records), afterRead s records) := by
  simp only [State.readJournal, hfrom, readRecords_eq hfirst, oldestSeq_eq, newestSeq_eq]
  rfl

theorem journalRead_bad {s : State} {start count : Nat} (h : start = 0 ∨ count < 1 ∨ 8 < count) :
    s.journalRead start count = (badRequest, s) := if_pos h

theorem journalRead_good {s : State} {start count : Nat} (h : ¬(start = 0 ∨ count < 1 ∨ 8 < count)) :
    s.journalRead start count = s.readJournal start count := if_neg h

/-- What JOURNAL READ answers and leaves, once its place has given the first record and those from it on. -/
theorem answers_journalRead_from {s : State} (hs : Serving s) {start : BitVec 32} {count : Byte}
    (hgood : ¬(start = 0 ∨ count.toNat < 1 ∨ 8 < count.toNat)) {first : Nat} {records : List (Stored JournalRecord)}
    {atOldest : Bool} (hfrom : s.journal.readFrom start.toNat count.toNat = (first, records, atOldest))
    (hfirst : IsSequence first) :
    Answers (.journalRead start count) s 0x13 (ok (readBody s.journal atOldest first records)) (afterRead s records) := by
  have hgood' : ¬(start.toNat = 0 ∨ count.toNat < 1 ∨ 8 < count.toNat) := by rwa [toNat_eq_zero_iff]
  refine answers_journalRead hs ?_ (State.noteFindings_link ..)
  rw [journalRead_good hgood', readJournal_eq hfrom hfirst]

/-! ### JOURNAL RELEASE (R129) -/

/-- What JOURNAL RELEASE answers and leaves, once the place of its sequence has given the journal after it. -/
theorem answers_journalRelease_of {s : State} (hs : Serving s) {upto : BitVec 32} (hgood : upto ≠ 0) {clamped : Bool}
    {j : Journal} (hrelease : s.journal.release upto.toNat = (clamped, j)) :
    Answers (.journalRelease upto) s 0x14 (okClamped clamped (b2 j.held ++ optionalNat 4 j.oldestSeq)) { s with journal := j } := by
  refine answers_journalRelease hs ?_ rfl
  rw [State.journalRelease, if_neg (mt toNat_eq_zero_iff.mp hgood), hrelease]

/-- Settles O37: the place of the sequence decides how many of the oldest records JOURNAL RELEASE frees. -/
theorem journalReleaseFreesTheOldestRecords : Obligations.JournalReleaseFreesTheOldestRecords := by
  refine fun s upto hs => ⟨fun hzero => ?zero, fun hgood hempty => ?empty, fun hgood hheld hin => ?held,
    fun hgood hheld hout hback => ?behind, fun hgood hheld hout hback => ?ahead⟩
  case zero => exact answers_journalRelease hs (if_pos (toNat_eq_zero_iff.mpr hzero)) rfl
  case empty => exact answers_journalRelease_of hs hgood (release_of_empty _ hempty)
  case held => exact answers_journalRelease_of hs hgood (release_of_held hheld hin)
  case behind => exact answers_journalRelease_of hs hgood (release_of_behind hheld hout hback)
  case ahead => exact answers_journalRelease_of hs hgood (release_of_ahead hheld hout hback)

/-! ### Fields laid out one behind another -/

/-- A field of a layout: its offset, its size and its bytes, none where it is absent. -/
abbrev Slot := Nat × Nat × Option (List Byte)

/-- The bytes of a field: its value, or zeros where it is absent (R200). -/
def slotBytes (x : Slot) : List Byte := x.2.2.getD (List.replicate x.2.1 0)

/-- Fields that follow one another without a gap from an offset on, each as long as its size says. -/
def LaidOutFrom : Nat → List Slot → Prop
  | _, [] => True
  | start, x :: xs => x.1 = start ∧ (slotBytes x).length = x.2.1 ∧ LaidOutFrom (start + x.2.1) xs

theorem laidOutFrom_some {start size : Nat} {bs : List Byte} {xs : List Slot} (hrest : LaidOutFrom (start + size) xs)
    (hbs : bs.length = size) : LaidOutFrom start ((start, size, some bs) :: xs) :=
  ⟨rfl, hbs, hrest⟩

theorem laidOutFrom_map {α : Type} {start size : Nat} {value : Option α} {f : α → List Byte} {xs : List Slot}
    (hrest : LaidOutFrom (start + size) xs) (hf : ∀ x, (f x).length = size) :
    LaidOutFrom start ((start, size, value.map f) :: xs) := by
  refine ⟨rfl, ?_, hrest⟩
  cases value with
  | none => exact List.length_replicate
  | some x => exact hf x

theorem length_flatMap_of_laidOutFrom {start : Nat} {xs : List Slot} (hlaid : LaidOutFrom start xs) :
    (xs.flatMap slotBytes).length = (xs.map fun x => x.2.1).sum := by
  induction xs generalizing start with
  | nil => rfl
  | cons x xs ih =>
    obtain ⟨-, hsize, hrest⟩ := hlaid
    rw [List.flatMap_cons, List.length_append, hsize, ih hrest, List.map_cons, List.sum_cons]

/-- A field of bytes laid out one behind another, after the bytes before them, stands at its offset. -/
theorem take_drop_append_of_laidOutFrom {before : List Byte} {xs : List Slot} (hlaid : LaidOutFrom before.length xs)
    {i : Nat} {x : Slot} (hx : xs[i]? = some x) :
    ((before ++ xs.flatMap slotBytes).drop x.1).take x.2.1 = slotBytes x := by
  induction xs generalizing before i with
  | nil => simp at hx
  | cons y ys ih =>
    obtain ⟨hoffset, hsize, hrest⟩ := hlaid
    cases i with
    | zero =>
      obtain rfl : y = x := by simpa using hx
      rw [hoffset, List.drop_left, List.flatMap_cons, ← hsize, List.take_left]
    | succ i =>
      have hnext := ih (before := before ++ slotBytes y) (by rwa [List.length_append, hsize]) (by simpa using hx)
      rwa [List.append_assoc, ← List.flatMap_cons] at hnext

/-! ### The layout of a record (R200) -/

/-- All fields of a record: the five that every record has, then the optional ones. -/
def recordLayout (sequence : Nat) (r : JournalRecord) : List Slot :=
  (0, 4, some (beBytes 4 sequence)) :: (4, 1, some [kindCode r.kind])
    :: (5, 1, some [(r.lane.map fun l => BitVec.ofNat 8 l.val).getD 0xFF])
    :: (6, 3, some (maskBytes (flagSet (recordPresence r)))) :: (9, 4, some (beBytes 4 r.time)) :: recordFields r

theorem beBytes_one (n : Nat) : beBytes 1 n = [BitVec.ofNat 8 n] := by simp [beBytes]

theorem kindCode_eq (k : RecordKind) : [kindCode k] = beBytes 1 (List.idxOf k recordKinds + 1) := by
  cases k <;> decide

theorem sourceCode_eq (x : Source) : [sourceCode x] = match x with
    | .lane l => beBytes 1 l.val
    | .feed => [0x80] := by
  cases x with
  | lane l => exact (beBytes_one _).symm
  | feed => rfl

theorem beSigned_four : beSigned 4 = fun v => beBytes 4 (v % 4294967296).toNat := by
  funext v
  rw [beSigned, BitVec.toNat_ofInt]
  rfl

theorem fareReasonCode_eq (x : FareReason) :
    [fareReasonCode x] = beBytes 1 (List.idxOf x [.none, .leg, .journey, .dayCap, .weekCap, .penalty]) := by
  cases x <;> decide

theorem flagsByte_eq (f : RecordFlags) : [flagsByte f] = beBytes 1 ((if f.ruleOverrun = true then 1 else 0)
    + (if f.unknownStation = true then 2 else 0) + (if f.classExpired = true then 4 else 0)
    + (if f.clockBehind = true then 8 else 0) + (if f.denylistUnchecked = true then 16 else 0)
    + (if f.receiptBad = true then 32 else 0)) :=
  (beBytes_one _).symm

theorem detailNameCode_eq (d : DetailName) : detailNameCode d = BitVec.ofNat 8 (List.idxOf d detailNames + 1) := by
  cases d <;> decide

theorem detailBytes_eq : detailBytes = fun x => match x with
    | .named d => [0, BitVec.ofNat 8 (List.idxOf d detailNames + 1)]
    | .reason c => 1 :: beBytes 1 c := by
  funext x
  cases x with
  | named d => rw [detailBytes, detailNameCode_eq]
  | reason c => exact congrArg (1 :: ·) (beBytes_one c).symm

theorem actionCode_eq (x : DenyAction) : [actionCode x] = if x = .refuse then [1] else [2] := by
  cases x <;> rfl

theorem recordBytes_eq (sequence : Nat) (r : JournalRecord) :
    recordBytes sequence r = (recordLayout sequence r).flatMap slotBytes := by
  unfold recordBytes recordLayout recordFields
  -- The `rfl` identifies the matchers of `sourceCode_eq` and `detailBytes_eq` with those of `recordFields`.
  simp only [List.flatMap_cons, List.flatMap_nil, slotBytes, fieldBytes, Option.getD_some, List.append_assoc, List.append_nil,
    sourceCode_eq, beSigned_four, fareReasonCode_eq, flagsByte_eq, detailBytes_eq, actionCode_eq] <;> rfl

theorem recordFields_laidOut (r : JournalRecord) : LaidOutFrom 13 (recordFields r) := by
  unfold recordFields
  iterate 17 refine laidOutFrom_map ?_ ?_
  · trivial
  all_goals
    intro x
    try exact beBytes_length ..
  -- The fields whose bytes depend on the value's constructor: the action, the detail and the source.
  · cases x <;> rfl
  · cases x <;> rfl
  · cases x <;> rfl

theorem recordLayout_laidOut (sequence : Nat) (r : JournalRecord) : LaidOutFrom 0 (recordLayout sequence r) :=
  laidOutFrom_some (laidOutFrom_some (laidOutFrom_some (laidOutFrom_some (laidOutFrom_some (recordFields_laidOut r)
    (beBytes_length ..)) (beBytes_length ..)) rfl) rfl) (beBytes_length ..)

theorem recordBytes_length (sequence : Nat) (r : JournalRecord) : (recordBytes sequence r).length = 57 := by
  rw [recordBytes_eq, length_flatMap_of_laidOutFrom (recordLayout_laidOut sequence r)]
  simp [recordLayout, recordFields]

/-- Each field of a record stands at its offset in the 57 bytes. -/
theorem recordBytes_field {sequence : Nat} {r : JournalRecord} {i offset size : Nat} {value : Option (List Byte)}
    (h : (recordLayout sequence r)[i]? = some (offset, size, value)) :
    ((recordBytes sequence r).drop offset).take size = value.getD (List.replicate size 0) := by
  rw [recordBytes_eq]
  exact take_drop_append_of_laidOutFrom (before := []) (recordLayout_laidOut sequence r) h

/-! ### The presence mask (R200) -/

theorem flagSet_lt (fs : List Bool) : flagSet fs < 2 ^ fs.length := by
  induction fs with
  | nil => decide
  | cons f fs ih =>
    rw [flagSet, List.length_cons, Nat.pow_succ]
    split <;> omega

theorem testBit_flagSet (fs : List Bool) (i : Nat) : (flagSet fs).testBit i = fs[i]?.getD false := by
  induction fs generalizing i with
  | nil => simp [flagSet]
  | cons f fs ih =>
    have hbit : flagSet (f :: fs) = Nat.bit f (flagSet fs) := by
      rw [flagSet, Nat.bit_val, Nat.add_comm]
      cases f <;> rfl
    cases i with
    | zero => simp [hbit]
    | succ i => simp [hbit, Nat.testBit_bit_succ, ih]

theorem recordPresence_eq (r : JournalRecord) : recordPresence r = (recordFields r).map fun x => x.2.2.isSome := by
  simp [recordPresence, recordFields]

theorem flagSet_recordPresence_lt (r : JournalRecord) : flagSet (recordPresence r) < 2 ^ 17 := flagSet_lt _

theorem testBit_recordPresence {r : JournalRecord} {bit : Nat} {x : Slot} (hx : (recordFields r)[bit]? = some x) :
    (flagSet (recordPresence r)).testBit bit = x.2.2.isSome := by
  rw [testBit_flagSet, recordPresence_eq, List.getElem?_map, hx]
  rfl

theorem recordBytes_mask (sequence : Nat) (r : JournalRecord) :
    ofBytes (((recordBytes sequence r).drop 6).take 3) = flagSet (recordPresence r) := by
  have hmask : ((recordBytes sequence r).drop 6).take 3 = maskBytes (flagSet (recordPresence r)) := recordBytes_field (i := 3) rfl
  rw [hmask]
  exact ofBytes_beBytes ((flagSet_recordPresence_lt r).trans (by decide))

theorem laneByte_eq (lane : Option Lane) : [(lane.map fun l => BitVec.ofNat 8 l.val).getD 0xFF]
    = [match lane with | some l => BitVec.ofNat 8 l.val | none => 0xFF] := by
  cases lane <;> rfl

/-! ### JOURNAL READ and the layout of what it returns -/

/-- Settles O36: the place of the starting sequence decides what JOURNAL READ returns, and each field of a record stands
at its offset in the record's layout, the optional ones behind the five that every record has. -/
theorem journalReadReturnsRecordsByTheirPlace : Obligations.JournalReadReturnsRecordsByTheirPlace := by
  refine ⟨fun s start count hs => ?reads, fun sequence r _ _ => ?layout⟩
  case reads =>
    have hstart (hgood : ¬(start = 0 ∨ count.toNat < 1 ∨ 8 < count.toNat)) : IsSequence start.toNat :=
      isSequence_toNat fun h => hgood (.inl h)
    refine ⟨fun hbad => ?bad, fun hgood hempty => ?empty, fun hgood hheld hin => ?held,
      fun hgood hheld hout hback => ?behind, fun hgood hheld hout hback => ?ahead⟩
    case bad => exact answers_journalRead hs (journalRead_bad (by rwa [toNat_eq_zero_iff])) rfl
    case empty => exact answers_journalRead_from hs hgood (readFrom_of_empty _ _ hempty) (hstart hgood)
    case held => exact answers_journalRead_from hs hgood (readFrom_of_held _ hheld hin) (hstart hgood)
    case behind => exact answers_journalRead_from hs hgood (readFrom_of_behind _ hheld hout hback) (isSequence_seqBack ..)
    case ahead => exact answers_journalRead_from hs hgood (readFrom_of_ahead _ hheld hout hback) (hstart hgood)
  case layout =>
    refine ⟨recordBytes_length sequence r, recordBytes_field (i := 0) rfl,
      (recordBytes_field (i := 1) rfl).trans (kindCode_eq r.kind), (recordBytes_field (i := 2) rfl).trans (laneByte_eq r.lane),
      recordBytes_field (i := 4) rfl, ?_, fun bit offset size value hfield => ⟨?_, recordBytes_field (i := bit + 5) hfield⟩⟩
    · rw [recordBytes_mask]
      exact flagSet_recordPresence_lt r
    · rw [recordBytes_mask]
      exact testBit_recordPresence hfield

end Sys2Proof.JournalProofs

end

/-! ## What an operation of the part may change, and what every operation keeps -/

section

-- Proofs are checked in order: as one text the file would otherwise hold more waiting proofs than the check has memory for.
set_option Elab.async false

namespace Sys2Proof.Machine

/-! ### Effects -/

/-- The parts of the state that the statements about every step look at. -/
inductive Part where
  | phase | link | lists | records
  | header (l : Lane)
  | reservation (l : Lane)
  | tap (l : Lane)
  | gate (l : Lane)
  | leaves (l : Lane)

/-- A passage controller whose credits are accounted for and whose leaves are safe. -/
def GateSound (p : Passages) : Prop := CreditsSound p ∧ LeavesSound p

/-- Two states agree in a part; of a lane's leaves, that they stay safe. -/
def Part.Same : Part → State → State → Prop
  | .phase, s, t => t.phase = s.phase
  | .link, s, t => t.link = s.link
  | .lists, s, t => t.screening.denylist = s.screening.denylist ∧ t.screening.denyValid = s.screening.denyValid
      ∧ t.screening.suspects = s.screening.suspects
  | .records, s, t => t.journal.records = s.journal.records
  | .header l, s, t => t.doubt.header.get l = s.doubt.header.get l
  | .reservation l, s, t => t.journal.reservations.get l = s.journal.reservations.get l
  | .tap l, s, t => t.tap l = s.tap l
  | .gate l, s, t => t.gate l = s.gate l
  | .leaves l, s, t => GateSound (s.gate l) → GateSound (t.gate l)

theorem Part.Same.refl (p : Part) (s : State) : p.Same s s := by
  cases p <;> simp [Part.Same]

theorem Part.Same.trans {p : Part} {s t u : State} (h : p.Same s t) (h' : p.Same t u) : p.Same s u := by
  cases p <;> simp_all [Part.Same]

/-- Going from `s` to `t` nothing but these parts changes, no place of the journal is promised beyond the 2,048, and
credits, lists, in-flight serials and the receive queue stay sound. -/
structure Effect (ps : List Part) (s t : State) : Prop where
  same : ∀ p, p ∉ ps → p.Same s t
  room : s.journal.taken ≤ 2048 → t.journal.taken ≤ 2048
  credits (l : Lane) : CreditsSound (s.gate l) → CreditsSound (t.gate l)
  lists : ListsSound s → ListsSound t
  cards : OneLanePerCard s → OneLanePerCard t
  queue : s.link.queue.length ≤ 4 → t.link.queue.length ≤ 4

theorem Effect.refl (ps : List Part) (s : State) : Effect ps s s :=
  ⟨fun p _ => .refl p s, id, fun _ => id, id, id, id⟩

theorem Effect.mono {ps qs : List Part} {s t : State} (h : Effect ps s t) (hsub : ps ⊆ qs) : Effect qs s t :=
  { h with same := fun p hp => h.same p fun hmem => hp (hsub hmem) }

/-- One operation after another. -/
theorem Effect.trans {ps : List Part} {s t u : State} (h : Effect ps s t) (h' : Effect ps t u) : Effect ps s u where
  same p hp := (h.same p hp).trans (h'.same p hp)
  room hs := h'.room (h.room hs)
  credits l hs := h'.credits l (h.credits l hs)
  lists hs := h'.lists (h.lists hs)
  cards hs := h'.cards (h.cards hs)
  queue hs := h'.queue (h.queue hs)

/-- An operation after one that changes some parts, changing others of `ps` itself. -/
theorem Effect.step {ps qs rs : List Part} {s t u : State} (h : Effect ps s t) (h' : Effect qs t u)
    (hps : ps ⊆ rs := by simp) (hqs : qs ⊆ rs := by simp) : Effect rs s u :=
  (h.mono hps).trans (h'.mono hqs)

/-- One operation after another, changing what either changes. -/
theorem Effect.seq {ps qs : List Part} {s t u : State} (h : Effect ps s t) (h' : Effect qs t u) : Effect (ps ++ qs) s u :=
  h.step h' (List.subset_append_left ..) (List.subset_append_right ..)

theorem Effect.ite {ps : List Part} {s t u : State} {c : Prop} [Decidable c] (ht : Effect ps s t) (hu : Effect ps s u) :
    Effect ps s (if c then t else u) := by
  split
  · exact ht
  · exact hu

/-- Operations over the lanes one after another. -/
theorem Effect.foldl {α : Type} {ps : List Part} {f : State → α → State} (hf : ∀ s x, Effect ps s (f s x)) (s : State)
    (xs : List α) : Effect ps s (xs.foldl f s) := by
  induction xs generalizing s with
  | nil => exact .refl ps s
  | cons x xs ih => exact (hf s x).trans (ih (f s x))

theorem taken_congr {s t : State} (hrecords : Part.records.Same s t) (hreservations : ∀ l, (Part.reservation l).Same s t) :
    t.journal.taken = s.journal.taken := by
  have hall : t.journal.reservations = s.journal.reservations := PerLane.ext_get hreservations
  simp [Journal.taken, Journal.held, Journal.outstanding, show t.journal.records = _ from hrecords, hall]

theorem ListsSound.congr {s t : State} (h : Part.Same .lists s t) (hs : ListsSound s) : ListsSound t := by
  obtain ⟨hdeny, hvalid, hsuspects⟩ := h
  unfold ListsSound
  rw [hdeny, hvalid, hsuspects]
  exact hs

theorem OneLanePerCard.of_inFlight {s t : State}
    (h : ∀ l ser, (t.tap l).inFlight = some ser → (s.tap l).inFlight = some ser) (hs : OneLanePerCard s) : OneLanePerCard t :=
  fun k l ser hk hl => hs k l ser (h k ser hk) (h l ser hl)

/-- A change outside every part. -/
theorem Effect.outside {s t : State} (h : ∀ p : Part, p.Same s t) : Effect [] s t where
  same p _ := h p
  room hs := taken_congr (h .records) (fun l => h (.reservation l)) ▸ hs
  credits l hs := (show t.gate l = s.gate l from h (.gate l)) ▸ hs
  lists := ListsSound.congr (h .lists)
  cards := OneLanePerCard.of_inFlight fun l _ hl => (show t.tap l = s.tap l from h (.tap l)) ▸ hl
  queue hs := (show t.link = s.link from h .link) ▸ hs

/-- A change of the journal alone. -/
theorem Effect.journal {ps : List Part} {s t : State} {l : Lane} (hsub : ps ⊆ [.records, .reservation l])
    (hps : ∀ p : Part, p ∉ ps → p.Same s t) (room : s.journal.taken ≤ 2048 → t.journal.taken ≤ 2048) : Effect ps s t where
  same := hps
  room := room
  credits k hs := (show t.gate k = s.gate k from hps (.gate k) fun hmem => by simpa using hsub hmem) ▸ hs
  lists := ListsSound.congr (hps .lists fun hmem => by simpa using hsub hmem)
  cards := OneLanePerCard.of_inFlight fun k ser hk => (show t.tap k = s.tap k from hps (.tap k) fun hmem => by simpa using hsub hmem) ▸ hk
  queue hs := (show t.link = s.link from hps .link fun hmem => by simpa using hsub hmem) ▸ hs

/-- A change of the lists alone. -/
theorem Effect.lists_of {s t : State} (h : ∀ p : Part, p ≠ .lists → p.Same s t) (sound : ListsSound s → ListsSound t) :
    Effect [.lists] s t where
  same p hp := h p (by simpa using hp)
  room hs := taken_congr (h .records (by simp)) (fun l => h (.reservation l) (by simp)) ▸ hs
  credits l hs := (show t.gate l = s.gate l from h (.gate l) (by simp)) ▸ hs
  lists := sound
  cards := OneLanePerCard.of_inFlight fun l _ hl => (show t.tap l = s.tap l from h (.tap l) (by simp)) ▸ hl
  queue hs := (show t.link = s.link from h .link (by simp)) ▸ hs

/-- A change of the host link alone. -/
theorem Effect.link_of {s t : State} (h : ∀ p : Part, p ≠ .link → p.Same s t)
    (queue : s.link.queue.length ≤ 4 → t.link.queue.length ≤ 4) : Effect [.link] s t where
  same p hp := h p (by simpa using hp)
  room hs := taken_congr (h .records (by simp)) (fun l => h (.reservation l) (by simp)) ▸ hs
  credits l hs := (show t.gate l = s.gate l from h (.gate l) (by simp)) ▸ hs
  lists := ListsSound.congr (h .lists (by simp))
  cards := OneLanePerCard.of_inFlight fun l _ hl => (show t.tap l = s.tap l from h (.tap l) (by simp)) ▸ hl
  queue := queue

/-- A change of a tap controller that puts no serial in flight but one that may be there. -/
theorem modTap_effect_of {s : State} {l : Lane} {f : Tap → Tap}
    (hf : OneLanePerCard s → OneLanePerCard (s.modTap l f)) : Effect [.tap l] s (s.modTap l f) where
  same p hp := by
    cases p
    case tap k => exact State.modTap_tap_other s (by rintro rfl; simp at hp) f
    all_goals simp [Part.Same]
  room := id
  credits k hs := by simpa using hs
  lists := id
  cards := hf
  queue := id

/-- A change of a tap controller that leaves its serial in flight, or ends it. -/
theorem modTap_effect (s : State) (l : Lane) (f : Tap → Tap)
    (hf : (f (s.tap l)).inFlight = (s.tap l).inFlight ∨ (f (s.tap l)).inFlight = none) : Effect [.tap l] s (s.modTap l f) := by
  refine modTap_effect_of (OneLanePerCard.of_inFlight fun k ser hk => ?_)
  by_cases hkl : k = l
  · subst hkl
    rw [State.modTap_tap] at hk
    rcases hf with hsame | hnone
    · rwa [hsame] at hk
    · rw [hnone] at hk; cases hk
  · rwa [State.modTap_tap_other s hkl] at hk

/-- A change of a passage controller that keeps its credits sound. -/
theorem modGate_effect (s : State) (l : Lane) (f : Passages → Passages)
    (hf : CreditsSound (s.gate l) → CreditsSound (f (s.gate l))) : Effect [.gate l, .leaves l] s (s.modGate l f) where
  same p hp := by
    cases p
    case gate k => exact State.modGate_gate_other s (by rintro rfl; simp at hp) f
    case leaves k =>
      have hother : (s.modGate l f).gate k = s.gate k := State.modGate_gate_other s (by rintro rfl; simp at hp) f
      simp [Part.Same, hother]
    all_goals simp [Part.Same]
  room := id
  credits k hs := by
    by_cases hkl : k = l
    · subst hkl
      simpa using hf hs
    · simpa [State.modGate_gate_other s hkl] using hs
  lists := id
  cards := OneLanePerCard.of_inFlight fun k ser hk => by simpa using hk
  queue := id

/-- A change at a lane whose credits stay sound and whose leaves end up safe. -/
theorem Effect.safe {ps : List Part} {s t : State} {l : Lane} (h : Effect (.leaves l :: ps) s t)
    (hleaves : GateSound (s.gate l) → LeavesSound (t.gate l)) : Effect ps s t :=
  { h with
    same := fun p hp => by
      by_cases hpl : p = .leaves l
      · rw [hpl]
        intro hs
        exact ⟨h.credits l hs.1, hleaves hs⟩
      · exact h.same p (by simpa [hpl] using hp) }

theorem modInd_effect (s : State) (l : Lane) (f : Indicator → Indicator) : Effect [] s (s.modInd l f) :=
  .outside fun p => by cases p <;> simp [Part.Same]

/-! ### Events and the memory check unit -/

theorem raise_effect (s : State) (e : Event) : Effect [] s (s.raise e) :=
  .outside fun p => by cases p <;> simp [Part.Same]

theorem noteFindings_effect (s : State) (m : Memory) (corrected uncorrected : Nat) :
    Effect [] s (s.noteFindings m corrected uncorrected) :=
  .outside fun p => by cases p <;> simp [Part.Same]

theorem noteRead_effect (s : State) (m : Memory) (i : Integrity) : Effect [] s (s.noteRead m i) :=
  .outside fun p => by cases p <;> simp [Part.Same]

theorem store_effect {α : Type} (s : State) (m : Memory) (x : α) : Effect [] s (s.store m x).2 :=
  .outside fun p => by cases p <;> simp [Part.Same]

/-! ### The journal -/

@[simp] theorem store_val {α : Type} (s : State) (m : Memory) (x : α) : (s.store m x).1.val = x := by
  unfold State.store
  dsimp only
  split <;> rfl

theorem noteClosing_effect (s : State) (before : Nat) : Effect [] s (s.noteClosing before) := by
  unfold State.noteClosing
  exact .ite (raise_effect _ _) (.refl _ _)

@[simp] theorem appendRecord_records (s : State) (r : JournalRecord) : (s.appendRecord r).journal.records
    = s.journal.records ++ [(s.store .journal { r with time := s.clock.time }).1] := by
  unfold State.appendRecord
  dsimp only
  split <;> simp

@[simp] theorem appendRecord_reservations (s : State) (r : JournalRecord) :
    (s.appendRecord r).journal.reservations = s.journal.reservations := by
  unfold State.appendRecord
  dsimp only
  split <;> simp

theorem appendRecord_same (s : State) (r : JournalRecord) (p : Part) (hp : p ∉ [.records]) : p.Same s (s.appendRecord r) := by
  unfold State.appendRecord
  dsimp only
  cases p <;> first | (simp at hp; done) | (split <;> simp [Part.Same, State.tap, State.gate, State.lane])

/-- An appended record takes one more place. -/
theorem appendRecord_taken (s : State) (r : JournalRecord) : (s.appendRecord r).journal.taken = s.journal.taken + 1 := by
  simp [Journal.taken, Journal.held, Journal.outstanding]
  omega

theorem appendUnreserved_effect (s : State) (c : AdmissionClass) (r : JournalRecord) :
    Effect [.records] s (s.appendUnreserved c r) := by
  unfold State.appendUnreserved
  dsimp only
  split
  next hroom =>
    have hlimit : classLimit c ≤ 2048 := by cases c <;> decide
    have happend : Effect [.records] s (s.appendRecord r) :=
      .journal (l := 0) (by simp) (appendRecord_same s r) fun _ => by
        rw [appendRecord_taken]; omega
    exact happend.step (noteClosing_effect _ _)
  next =>
    cases c
    · exact (Effect.outside fun p => by cases p <;> first | rfl | exact ⟨rfl, rfl, rfl⟩ | exact id).mono (by simp)
    · exact (Effect.outside fun p => by cases p <;> simp [Part.Same, State.tap, State.gate, State.lane]).mono (by simp)

theorem countP_set_le (p : PerLane (Option AdmissionClass)) (l : Lane) (x : Option AdmissionClass) :
    (p.set l x).toList.countP (·.isSome) + (p.get l).isSome.toNat
      = p.toList.countP (·.isSome) + x.isSome.toNat := by
  fin_cases l <;> simp [PerLane.set, PerLane.get, PerLane.toList, List.countP_cons] <;> (repeat' split) <;> simp_all

/-- The places taken once a lane's reservation has been replaced. -/
theorem taken_setReservation (s : State) (l : Lane) (x : Option AdmissionClass) :
    Journal.taken { s.journal with reservations := s.journal.reservations.set l x } + (s.journal.reservations.get l).isSome.toNat
      = s.journal.taken + x.isSome.toNat := by
  have := countP_set_le s.journal.reservations l x
  simp only [Journal.taken, Journal.held, Journal.outstanding]
  omega

/-- Replacing a lane's reservation changes nothing else. -/
theorem setReservation_same (s : State) (l : Lane) (x : Option AdmissionClass) (p : Part) (hp : p ∉ [.reservation l]) :
    p.Same s { s with journal := { s.journal with reservations := s.journal.reservations.set l x } } := by
  cases p
  case reservation k => exact PerLane.get_set_other _ (by rintro rfl; simp at hp) _
  all_goals simp [Part.Same, State.tap, State.gate, State.lane]

theorem releaseReservation_effect (s : State) (l : Lane) : Effect [.reservation l] s (s.releaseReservation l) := by
  refine .journal (l := l) (by simp) (setReservation_same s l none) fun hs => ?_
  have := taken_setReservation s l none
  simp only [State.releaseReservation, Option.isSome_none, Bool.toNat_false] at this ⊢
  omega

theorem appendReserved_effect (s : State) (l : Lane) (c : AdmissionClass) (r : JournalRecord) :
    Effect [.records, .reservation l] s (s.appendReserved l c r) := by
  unfold State.appendReserved
  split
  next held hheld =>
    have hsame (p : Part) (hp : p ∉ [.records, .reservation l]) : p.Same s ((s.releaseReservation l).appendRecord r) :=
      ((releaseReservation_effect s l).same p (by simp_all)).trans (appendRecord_same _ r p (by simp_all))
    refine .journal (l := l) (by simp) hsame fun hs => ?_
    have := taken_setReservation s l none
    rw [appendRecord_taken]
    simp only [hheld, State.releaseReservation, Option.isSome_some, Bool.toNat_true, Option.isSome_none, Bool.toNat_false] at this ⊢
    omega
  next => exact (appendUnreserved_effect s c r).mono (by simp)

theorem reserve_effect (s : State) (l : Lane) (c : AdmissionClass) : Effect [.reservation l] s (s.reserve l c).2 := by
  unfold State.reserve
  dsimp only
  split
  next hroom =>
    have hlimit : classLimit c ≤ 2048 := by cases c <;> decide
    have hplace : Effect [.reservation l] s
        { s with journal := { s.journal with reservations := s.journal.reservations.set l (some c) } } := by
      refine .journal (l := l) (by simp) (setReservation_same s l (some c)) fun _ => ?_
      have := taken_setReservation s l (some c)
      simp only [Option.isSome_some, Bool.toNat_true] at this ⊢
      omega
    exact hplace.step (noteClosing_effect _ _)
  next => exact .refl _ _

/-! ### The indicator unit -/

theorem readFrame_effect (s : State) (l : Lane) : Effect [] s (s.readFrame l).2 :=
  .outside fun p => by
    rw [State.readFrame_keeps s l]
    cases p <;> first | rfl | exact ⟨rfl, rfl, rfl⟩ | exact id

theorem compose_effect (s : State) (l : Lane) : Effect [] s (s.compose l) := by
  unfold State.compose
  exact (readFrame_effect s l).step (modInd_effect _ _ _)

theorem composeAndSend_effect (s : State) (l : Lane) : Effect [] s (s.composeAndSend l) := by
  unfold State.composeAndSend
  exact (readFrame_effect s l).step (modInd_effect _ _ _)

theorem takeResult_effect (s : State) (l : Lane) (code : ResultCode) (charge : Option Nat) (purse : Option Int) :
    Effect [] s (s.takeResult l code charge purse) :=
  (modInd_effect _ _ _).step (compose_effect _ _)

theorem indicateService_effect (s : State) (l : Lane) (v : Service) : Effect [] s (s.indicateService l v) := by
  unfold State.indicateService
  dsimp only
  have hset := modInd_effect s l fun i => { i with service := v }
  split
  · exact hset.step ((modInd_effect _ _ _).step (compose_effect _ _) (rs := []))
  · exact hset.step ((modInd_effect _ _ _).step (compose_effect _ _) (rs := []))
  · exact hset.step (Effect.ite (.refl [] _) (compose_effect _ _))

theorem indicateObstruction_effect (s : State) (l : Lane) (started : Bool) :
    Effect [] s (s.indicateObstruction l started) := by
  unfold State.indicateObstruction
  exact .ite ((modInd_effect _ _ _).step (compose_effect _ _))
    ((modInd_effect _ _ _).step (.ite (.refl [] _) (compose_effect _ _)))

theorem holdExpired_effect (s : State) (l : Lane) : Effect [] s (s.holdExpired l) := by
  unfold State.holdExpired
  split
  · exact .refl _ _
  · exact (modInd_effect _ _ _).step (compose_effect _ _)

theorem recompose_effect (s : State) (which : Indicator → Bool) : Effect [] s (s.recompose which) :=
  .foldl (fun s l => .ite (compose_effect s l) (.refl _ _)) s allLanes

end Sys2Proof.Machine

end

/-! ## What the passage controller's operations may change -/

section

-- Proofs are checked in order: as one text the file would otherwise hold more waiting proofs than the check has memory for.
set_option Elab.async false

namespace Sys2Proof.Machine

/-! ### The leaf drive changes the leaves alone -/

theorem enterOpening_leaf (p : Passages) : p.enterOpening.1 = { p with leaf := p.enterOpening.1.leaf } := by
  unfold Passages.enterOpening
  split
  · rfl
  · split <;> rfl

theorem enterClosing_leaf (p : Passages) : p.enterClosing.1 = { p with leaf := p.enterClosing.1.leaf } := by
  unfold Passages.enterClosing
  split
  · rfl
  · split
    · rfl
    · split <;> rfl

theorem closeCheck_leaf (b p : Passages) : (b.closeCheck p).1 = { p with leaf := (b.closeCheck p).1.leaf } := by
  unfold Passages.closeCheck
  split
  · split
    · exact enterClosing_leaf p
    · split
      · rfl
      · split
        · exact enterClosing_leaf p
        · rfl
  · rfl

theorem closeCheck_stopOpen_leaf (b p : Passages) :
    (b.closeCheck p.stopOpen).1 = { p with leaf := (b.closeCheck p.stopOpen).1.leaf } :=
  (closeCheck_leaf b p.stopOpen).trans rfl

theorem leafReact_leaf (b p : Passages) : (b.leafReact p).1 = { p with leaf := (b.leafReact p).1.leaf } := by
  unfold Passages.leafReact
  split
  · split
    · exact enterOpening_leaf p
    · rfl
  · split
    · exact closeCheck_stopOpen_leaf b p
    · exact closeCheck_leaf b p
  · split
    · exact enterOpening_leaf p
    · exact closeCheck_leaf b p
  · split
    · exact enterOpening_leaf p
    · split
      · split
        · exact enterOpening_leaf p
        · rfl
      · split <;> rfl
  · rfl

theorem limitReact_leaf (b p : Passages) (k : Limit) (asserted : Bool) :
    (b.limitReact p k asserted).1 = { p with leaf := (b.limitReact p k asserted).1.leaf } := by
  unfold Passages.limitReact
  split
  · exact closeCheck_stopOpen_leaf b p
  · rfl
  · split
    · rfl
    · exact enterClosing_leaf p
  · split
    · exact enterOpening_leaf p
    · rfl
  · rfl

theorem startUpLeaves_leaf (p : Passages) : p.startUpLeaves.1 = { p with leaf := p.startUpLeaves.1.leaf } := by
  unfold Passages.startUpLeaves
  split
  · exact enterOpening_leaf p
  · exact enterClosing_leaf p

/-! ### Credits stay accounted for -/

theorem CreditsSound.congr {p q : Passages} (hcredits : q.credits = p.credits) (hpassages : q.passages = p.passages)
    (hlatch : q.latch = p.latch) (hstats : q.stats = p.stats) (h : CreditsSound p) : CreditsSound q := by
  unfold CreditsSound
  rw [hcredits, hpassages, hlatch, hstats]
  exact h

/-- A change of the leaves alone keeps credits sound. -/
theorem CreditsSound.leaf {p q : Passages} (hq : q = { p with leaf := q.leaf }) (h : CreditsSound p) : CreditsSound q := by
  rw [hq]
  exact h

theorem CreditsSound.addCredit {p : Passages} (ser : Serial) (hroom : ¬2 ≤ p.credits.length) (h : CreditsSound p) :
    CreditsSound (p.addCredit ser) := by
  obtain ⟨-, hpassages, haccount, hlatch⟩ := h
  unfold Passages.addCredit CreditsSound
  refine ⟨by simp; omega, ?_, fun hgrants => ?_, fun hl => ?_⟩
  · dsimp only
    split
    next hatOnce =>
      simp only [Bool.and_eq_true, List.isEmpty_iff] at hatOnce
      simp [hatOnce.2]
    next => exact hpassages
  · simp only [bump, satAdd, List.length_append, List.length_singleton] at hgrants ⊢
    have := haccount (by omega)
    omega
  · dsimp only
    split
    · simp
    · exact hlatch hl

theorem CreditsSound.cancel {p : Passages} (h : CreditsSound p) : CreditsSound { p with
    credits := [], stats := { p.stats with cancellations := satAdd 65535 p.stats.cancellations p.credits.length } } := by
  obtain ⟨-, hpassages, haccount, hlatch⟩ := h
  refine ⟨by simp, hpassages, fun hgrants => ?_, hlatch⟩
  have := haccount hgrants
  simp only [satAdd, List.length_nil] at hgrants ⊢
  omega

theorem CreditsSound.discard {p : Passages} (h : CreditsSound p) : CreditsSound p.discard := by
  obtain ⟨hcredits, -, haccount, -⟩ := h
  exact ⟨hcredits, by simp [Passages.discard], haccount, by simp [Passages.discard]⟩

theorem CreditsSound.lapse {p : Passages} {pos : Nat} (hpos : pos < p.credits.length) (h : CreditsSound p) :
    CreditsSound { p with credits := p.credits.eraseIdx pos, stats := { p.stats with lapses := bump p.stats.lapses } } := by
  obtain ⟨hcredits, hpassages, haccount, hlatch⟩ := h
  have hlength := List.length_eraseIdx_of_lt hpos
  refine ⟨by dsimp only; omega, hpassages, fun hgrants => ?_, hlatch⟩
  have := haccount hgrants
  simp only [bump, satAdd] at hgrants ⊢
  omega

theorem startOldest_length (cs : List Credit) : (startOldest cs).1.length = cs.length := by
  induction cs with
  | nil => rfl
  | cons c cs ih =>
    unfold startOldest
    split <;> simp [ih]

theorem takeInUse_length {ser : Serial} {cs rest : List Credit} (h : takeInUse ser cs = some rest) :
    rest.length + 1 = cs.length := by
  induction cs generalizing rest with
  | nil => cases h
  | cons c cs ih =>
    unfold takeInUse at h
    split at h
    · cases h; rfl
    · cases hrest : takeInUse ser cs with
      | none => simp [hrest] at h
      | some tail =>
        simp only [hrest, Option.map_some, Option.some.injEq] at h
        simp [← h, ih hrest]

theorem returnInUse_length (ser : Serial) (lapse : Nat) (cs : List Credit) : (returnInUse ser lapse cs).length = cs.length := by
  induction cs with
  | nil => rfl
  | cons c cs ih =>
    unfold returnInUse
    split <;> simp [ih]

theorem markOldest_length (xs : List Passage) : (markOldest xs).length = xs.length := by
  induction xs with
  | nil => rfl
  | cons x xs ih =>
    unfold markOldest
    split <;> simp [ih]

theorem markTailgate_length (xs : List Passage) : (markTailgate xs).length = xs.length := by
  induction xs with
  | nil => rfl
  | cons x xs ih => cases xs <;> simp_all [markTailgate]

theorem markTailgate_eq_nil {xs : List Passage} : markTailgate xs = [] ↔ xs = [] := by
  rw [← List.length_eq_zero_iff, markTailgate_length, List.length_eq_zero_iff]

theorem settleOne_passages (p : Passages) (x : Passage) :
    (p.settleOne x).passages = p.passages ∧ (p.settleOne x).latch = p.latch := by
  unfold Passages.settleOne
  split
  · split <;> exact ⟨rfl, rfl⟩
  all_goals exact ⟨rfl, rfl⟩

theorem CreditsSound.settleOne {p : Passages} (x : Passage) (h : CreditsSound p) : CreditsSound (p.settleOne x) := by
  have ⟨hcredits, hpassages, haccount, hlatch⟩ := h
  unfold Passages.settleOne
  split
  · split
    next cs hcs =>
      have hlength := takeInUse_length hcs
      refine ⟨by dsimp only; omega, hpassages, fun hgrants => ?_, hlatch⟩
      have := haccount hgrants
      simp only [bump, satAdd] at hgrants ⊢
      omega
    next => exact h
  · exact h
  · refine ⟨?_, hpassages, fun hgrants => ?_, hlatch⟩
    · simpa [returnInUse_length] using hcredits
    · simpa [returnInUse_length] using haccount hgrants
  · exact h

theorem CreditsSound.settle {p : Passages} (h : CreditsSound p) : CreditsSound p.settle := by
  have fold (xs : List Passage) (q : Passages) (hq : CreditsSound q) : CreditsSound (xs.foldl Passages.settleOne q) := by
    induction xs generalizing q with
    | nil => exact hq
    | cons x xs ih => exact ih _ (hq.settleOne x)
  exact (fold p.passages p h).discard

theorem CreditsSound.markOldest {p : Passages} (h : CreditsSound p) :
    CreditsSound { p with passages := markOldest p.passages } := by
  obtain ⟨hcredits, hpassages, haccount, hlatch⟩ := h
  refine ⟨hcredits, by simpa [markOldest_length] using hpassages, haccount, fun hl hnil => hlatch hl ?_⟩
  exact List.length_eq_zero_iff.mp (by rw [← markOldest_length, show Machine.markOldest p.passages = [] from hnil]; rfl)

theorem CreditsSound.markOrSettle {p : Passages} (h : CreditsSound p) :
    CreditsSound (if p.occ .exit then { p with passages := Machine.markOldest p.passages } else p.settle) := by
  split
  · exact h.markOldest
  · exact h.settle

/-- A passage more, with the credits changed in place. -/
theorem CreditsSound.startPassage {p : Passages} {cs : List Credit} (x : Passage) (hlength : cs.length = p.credits.length)
    (hroom : p.passages.length < 2) (h : CreditsSound p) :
    CreditsSound { p with credits := cs, passages := p.passages ++ [x] } := by
  obtain ⟨hcredits, -, haccount, -⟩ := h
  exact ⟨by simpa [hlength] using hcredits, by simp; omega, fun hgrants => by simpa [hlength] using haccount hgrants,
    fun _ => by simp⟩

/-! ### Safe leaves -/

theorem LeavesSound.jammed {p : Passages} (hstate : p.leaf.state = .jammed) (hdelay : p.leaf.closeDelay = none) : LeavesSound p := by
  simp [LeavesSound, hstate, hdelay]

/-- Leaves at rest OPEN or CLOSED are safe in every service state but FAULT. -/
theorem LeavesSound.still {p : Passages} (hstate : p.leaf.state = .opened ∨ p.leaf.state = .closed) (hservice : p.service ≠ .fault) :
    LeavesSound p := by
  rcases hstate with hstate | hstate <;> simp [LeavesSound, hstate, hservice]

/-- What the leaves are driven open for. -/
theorem demand_cases {p : Passages} (h : p.demand = true) : p.letIn = true ∨ p.service = .heldOpen ∨ p.service = .emergencyOpen := by
  simp only [Passages.demand, Bool.or_eq_true, beq_iff_eq, Bool.and_eq_true] at h
  tauto

theorem enterOpening_leaves {p : Passages} (hservice : p.service ≠ .fault) (hdemand : p.demand = true ∨ p.letIn = true)
    (hlimits : p.enterOpening.2 = false) : LeavesSound p.enterOpening.1 := by
  have hlet : p.letIn = true ∨ p.service = .heldOpen ∨ p.service = .emergencyOpen := hdemand.elim demand_cases .inl
  unfold Passages.enterOpening at hlimits ⊢
  split
  next h => simp [h] at hlimits
  next =>
    split
    · exact .still (.inl rfl) hservice
    · exact ⟨fun _ => hlet, fun h => absurd h hservice, nofun, nofun⟩

theorem enterClosing_leaves {p : Passages} (hservice : p.service ≠ .fault) (hlimits : p.enterClosing.2 = false) :
    LeavesSound p.enterClosing.1 := by
  unfold Passages.enterClosing at hlimits ⊢
  split
  next h => simp [h] at hlimits
  next =>
    split
    · exact .still (.inr rfl) hservice
    · split
      · exact ⟨nofun, fun h => absurd h hservice, nofun, nofun⟩
      next hclear => exact ⟨nofun, fun h => absurd h hservice, nofun, fun _ _ => (Bool.not_eq_true _).mp hclear⟩

/-- The close condition taken by leaves that stand open, or that open for someone let in. -/
theorem closeCheck_leaves {b p : Passages} (hservice : p.service ≠ .fault)
    (hstate : p.leaf.state = .opened ∨ p.leaf.state = .opening
      ∧ (p.letIn = true ∨ p.demand = true ∨ p.closeCondition = true ∧ (p.latch || b.latch) = true))
    (hlimits : (b.closeCheck p).2 = false) : LeavesSound (b.closeCheck p).1 := by
  have stays (d : Option Nat) (hlet : p.leaf.state = .opening → p.letIn = true ∨ p.service = .heldOpen ∨ p.service = .emergencyOpen) :
      LeavesSound { p with leaf := { p.leaf with closeDelay := d } } := by
    refine ⟨hlet, fun h => absurd h hservice, fun h => ?_, fun h => ?_⟩
    all_goals rcases hstate with hstate | ⟨hstate, -⟩ <;> simp [hstate] at h
  unfold Passages.closeCheck at hlimits ⊢
  split
  next hclose =>
    rw [if_pos hclose] at hlimits
    split
    next hlatch =>
      rw [if_pos hlatch] at hlimits
      exact enterClosing_leaves hservice hlimits
    next hlatch =>
      rw [if_neg hlatch] at hlimits
      have hlet (hopening : p.leaf.state = .opening) : p.letIn = true ∨ p.service = .heldOpen ∨ p.service = .emergencyOpen := by
        rcases hstate with hstate | ⟨-, hlet | hdemand | ⟨-, hlatched⟩⟩
        · simp [hstate] at hopening
        · exact .inl hlet
        · exact demand_cases hdemand
        · exact absurd hlatched hlatch
      split
      · exact stays _ hlet
      next hdelay =>
        rw [if_neg hdelay] at hlimits
        split
        next hzero =>
          rw [if_pos hzero] at hlimits
          exact enterClosing_leaves hservice hlimits
        next => exact stays _ hlet
  next hclose =>
    refine stays _ fun hopening => ?_
    rcases hstate with hstate | ⟨-, hlet | hdemand | ⟨hclosed, -⟩⟩
    · simp [hstate] at hopening
    · exact .inl hlet
    · exact demand_cases hdemand
    · exact absurd hclosed hclose

/-- A controller that the leaf drive can take after `b`: what the safety of the leaves needs from the change between the two. -/
structure Ready (b p : Passages) : Prop where
  fault : p.service = .fault → p.leaf.state = .jammed
  jammed : p.leaf.state = .jammed → p.leaf.closeDelay = none
  opening : p.leaf.state = .opening → b.demand = true ∨ p.demand = true ∨ p.letIn = true ∨ p.occ .leaves = false ∧ b.latch = true
  closing : p.leaf.state = .closing → p.leaf.paused = false → b.occ .leaves = false

theorem leafReact_leaves {b p : Passages} (h : Ready b p) (hlimits : (b.leafReact p).2 = false) : LeavesSound (b.leafReact p).1 := by
  obtain ⟨hfault, hjammed, hopening, hclosing⟩ := h
  unfold Passages.leafReact at hlimits ⊢
  split
  next hstate =>
    have hservice : p.service ≠ .fault := fun h => by simp [hstate] at hfault; exact hfault h
    split
    next hdemand =>
      rw [hstate] at hlimits
      simp only [hdemand, if_true] at hlimits
      exact enterOpening_leaves hservice (.inl hdemand) hlimits
    next => exact .still (.inr hstate) hservice
  next hstate =>
    have hservice : p.service ≠ .fault := fun h => by simp [hstate] at hfault; exact hfault h
    rw [hstate] at hlimits
    dsimp only at hlimits
    split
    next hended =>
      rw [if_pos hended] at hlimits
      exact closeCheck_leaves (p := p.stopOpen) hservice (.inl rfl) hlimits
    next hended =>
      rw [if_neg hended] at hlimits
      refine closeCheck_leaves hservice (.inr ⟨hstate, ?_⟩) hlimits
      by_cases hdemand : p.demand = true
      · exact .inr (.inl hdemand)
      · have hbefore : b.demand ≠ true := fun hb => hended (by simp [hb, hdemand])
        rcases hopening hstate with hb | hp | hlet | ⟨hclear, hlatch⟩
        · exact absurd hb hbefore
        · exact absurd hp hdemand
        · exact .inl hlet
        · exact .inr (.inr ⟨by simp [Passages.closeCondition, hdemand, hclear], by simp [hlatch]⟩)
  next hstate =>
    have hservice : p.service ≠ .fault := fun h => by simp [hstate] at hfault; exact hfault h
    rw [hstate] at hlimits
    dsimp only at hlimits
    split
    next hshort =>
      rw [if_pos hshort] at hlimits
      exact enterOpening_leaves hservice (.inl (by simp_all)) hlimits
    next hshort =>
      rw [if_neg hshort] at hlimits
      exact closeCheck_leaves hservice (.inl hstate) hlimits
  next hstate =>
    have hservice : p.service ≠ .fault := fun h => by simp [hstate] at hfault; exact hfault h
    rw [hstate] at hlimits
    dsimp only at hlimits
    split
    next hdemand =>
      rw [if_pos hdemand] at hlimits
      exact enterOpening_leaves hservice (.inl hdemand) hlimits
    next hdemand =>
      rw [if_neg hdemand] at hlimits
      split
      next hentered =>
        rw [if_pos hentered] at hlimits
        split
        next hlet =>
          rw [if_pos hlet] at hlimits
          exact enterOpening_leaves hservice (.inr hlet) hlimits
        next => exact ⟨nofun, fun h => absurd h hservice, nofun, nofun⟩
      next hentered =>
        split
        next hresumed =>
          refine ⟨nofun, fun h => absurd h hservice, nofun, fun _ _ => ?_⟩
          simp only [Bool.and_eq_true, Bool.not_eq_true'] at hresumed
          exact hresumed.1
        next =>
          refine ⟨fun h => by simp [hstate] at h, hfault, hjammed, fun _ hpaused => ?_⟩
          simpa [hclosing hstate hpaused] using hentered
  next hstate => exact .jammed hstate (hjammed hstate)

theorem limitReact_leaves {b p : Passages} {k : Limit} {asserted : Bool} (h : LeavesSound p)
    (hlimits : (b.limitReact p k asserted).2 = false) : LeavesSound (b.limitReact p k asserted).1 := by
  have ⟨hopening, hfault, hjammed, hclosing⟩ := h
  unfold Passages.limitReact at hlimits ⊢
  split
  next hstate =>
    rw [hstate] at hlimits
    exact closeCheck_leaves (p := p.stopOpen) (fun h => by simp [hstate] at hfault; exact hfault h) (.inl rfl) hlimits
  next hstate => exact .still (.inr rfl) fun h => by simp [hstate] at hfault; exact hfault h
  next hstate =>
    rw [hstate] at hlimits
    dsimp only at hlimits
    split
    next => exact h
    next hdemand =>
      rw [if_neg hdemand] at hlimits
      exact enterClosing_leaves (fun h => by simp [hstate] at hfault; exact hfault h) hlimits
  next hstate =>
    rw [hstate] at hlimits
    dsimp only at hlimits
    split
    next hdemand =>
      rw [if_pos hdemand] at hlimits
      exact enterOpening_leaves (fun h => by simp [hstate] at hfault; exact hfault h) (.inl hdemand) hlimits
    next => exact h
  next => exact h

theorem startUpLeaves_leaves {p : Passages} (hservice : p.service ≠ .fault) (hlimits : p.startUpLeaves.2 = false) :
    LeavesSound p.startUpLeaves.1 := by
  unfold Passages.startUpLeaves at hlimits ⊢
  split
  next hopen =>
    rw [if_pos hopen] at hlimits
    exact enterOpening_leaves hservice (.inl (by simp [Passages.demand, hopen])) hlimits
  next hopen =>
    rw [if_neg hopen] at hlimits
    exact enterClosing_leaves hservice hlimits

/-! ### Service state, cancellation, jams -/

/-- A change of a passage controller that keeps it sound. -/
theorem modGate_safe (s : State) (l : Lane) (f : Passages → Passages) (hcredits : CreditsSound (s.gate l) → CreditsSound (f (s.gate l)))
    (hleaves : GateSound (s.gate l) → LeavesSound (f (s.gate l))) : Effect [.gate l] s (s.modGate l f) :=
  ((modGate_effect s l f hcredits).mono (by simp)).safe (l := l) fun h => by simpa using hleaves h

theorem indicateService_gate (s : State) (l : Lane) (v : Service) : (s.indicateService l v).gate l = s.gate l :=
  (indicateService_effect s l v).same (.gate l) (by simp)

theorem setService_gate_self (s : State) (l : Lane) (v : Service) : (s.setService l v).gate l = { s.gate l with service := v } := by
  rw [State.setService, indicateService_gate, State.modGate_gate]

theorem setService_effect (s : State) (l : Lane) (v : Service) : Effect [.gate l, .leaves l] s (s.setService l v) :=
  (modGate_effect s l (fun p => { p with service := v }) id).step (indicateService_effect _ l v)

theorem cancelRecords_effect (s : State) (l : Lane) (cause : DetailName) (cs : List Credit) :
    Effect [.records] s (cs.foldl (fun s c => s.appendUnreserved .mandatory
      { JournalRecord.blank .creditCancelled (some l) with serial := some c.serial, detail := some (.named cause) }) s) := by
  induction cs generalizing s with
  | nil => exact .refl _ _
  | cons c cs ih => exact (appendUnreserved_effect s _ _).trans (ih _)

theorem cancelCredits_gate_self (s : State) (l : Lane) (cause : DetailName) : (s.cancelCredits l cause).gate l = { s.gate l with
    credits := []
    stats := { (s.gate l).stats with cancellations := satAdd 65535 (s.gate l).stats.cancellations (s.gate l).credits.length } } := by
  have hgate := (cancelRecords_effect s l cause (s.gate l).credits).same (.gate l) (by simp)
  unfold State.cancelCredits
  dsimp only [Part.Same] at hgate ⊢
  rw [State.modGate_gate, hgate]

theorem cancelCredits_effect (s : State) (l : Lane) (cause : DetailName) :
    Effect [.gate l, .leaves l, .records] s (s.cancelCredits l cause) := by
  have hrecords := cancelRecords_effect s l cause (s.gate l).credits
  have hgate := hrecords.same (.gate l) (by simp)
  unfold State.cancelCredits
  refine hrecords.step (modGate_effect _ l _ fun h => ?_)
  rw [hgate] at h ⊢
  exact h.cancel

theorem jam_leaf (s : State) (l : Lane) (cause : FaultCause) :
    ((s.jam l cause).gate l).leaf = ((s.gate l).rest .jammed).leaf := by
  unfold State.jam
  dsimp only
  split
  · simp
  · split <;> simp [setService_gate_self, cancelCredits_gate_self, Passages.discard]

theorem jam_leaves (s : State) (l : Lane) (cause : FaultCause) : LeavesSound ((s.jam l cause).gate l) :=
  .jammed (by rw [jam_leaf]; rfl) (by rw [jam_leaf]; rfl)

theorem jam_effect (s : State) (l : Lane) (cause : FaultCause) : Effect [.gate l, .records] s (s.jam l cause) := by
  refine Effect.safe (l := l) ?_ fun _ => jam_leaves s l cause
  unfold State.jam
  dsimp only
  have hjam := (modGate_effect s l (fun p => { p.rest .jammed with faultCause := some cause }) id).step
    (raise_effect _ (.laneFault l)) (rs := [.leaves l, .gate l, .records])
  have hcancel := (hjam.seq (cancelCredits_effect _ l .fault)).step
    (modGate_effect _ l Passages.discard CreditsSound.discard) (rs := [.leaves l, .gate l, .records])
  exact .ite hjam (.ite hcancel (hcancel.step (setService_effect _ l .fault)))

/-- The leaves after a movement, which a jam leaves safe. -/
theorem putLeaves_leaves {s : State} {l : Lane} {r : Passages × Bool} (h : r.2 = false → LeavesSound r.1) :
    LeavesSound ((s.putLeaves l r).gate l) := by
  unfold State.putLeaves
  dsimp only
  split
  · exact jam_leaves _ l _
  next hlimits => simpa using h (by simpa using hlimits)

theorem putLeaves_effect (s : State) (l : Lane) (r : Passages × Bool) (hr : r.1 = { s.gate l with leaf := r.1.leaf }) :
    Effect [.gate l, .leaves l, .records] s (s.putLeaves l r) := by
  unfold State.putLeaves
  have hput := (modGate_effect s l (fun _ => r.1) (CreditsSound.leaf hr)).mono (qs := [.gate l, .leaves l, .records]) (by simp)
  exact .ite (hput.step (jam_effect _ l _)) hput

/-- A movement that ends in safe leaves. -/
theorem putLeaves_safe {s : State} {l : Lane} {r : Passages × Bool} (hr : r.1 = { s.gate l with leaf := r.1.leaf })
    (h : GateSound (s.gate l) → r.2 = false → LeavesSound r.1) : Effect [.gate l, .records] s (s.putLeaves l r) :=
  ((putLeaves_effect s l r hr).mono (by simp)).safe (l := l) fun hs => putLeaves_leaves (h hs)

theorem leafSettle_effect (s : State) (l : Lane) (b : Passages) : Effect [.gate l, .leaves l, .records] s (s.leafSettle l b) :=
  putLeaves_effect s l _ (leafReact_leaf _ _)

theorem drainCheck_effect (s : State) (l : Lane) : Effect [.gate l] s (s.drainCheck l) := by
  unfold State.drainCheck
  dsimp only
  split
  next h =>
    obtain ⟨hdraining, hcredits, hpassages, -⟩ := h
    refine ((setService_effect s l .closed).mono (by simp)).safe (l := l) fun ⟨_, hopening, hfault, hjammed, hclosing⟩ => ?_
    rw [setService_gate_self]
    refine ⟨fun hstate => ?_, nofun, hjammed, hclosing⟩
    have hlet := hopening hstate
    simp [Passages.letIn, hcredits, hpassages, hdraining] at hlet
  next => exact .refl _ _

/-- A change at a lane that the leaf drive and the draining test take. -/
theorem laneChange_effect (s : State) (l : Lane) (f : State → State) (hf : Effect [.gate l, .leaves l, .records] s (f s))
    (hready : GateSound (s.gate l) → Ready (s.gate l) ((f s).gate l)) : Effect [.gate l, .records] s (s.laneChange l f) := by
  refine Effect.step (ps := [.gate l, .records]) ?_ (drainCheck_effect _ l)
  refine Effect.safe (l := l) (((hf.trans (leafSettle_effect _ l _))).mono (by simp)) fun hs => ?_
  exact putLeaves_leaves (leafReact_leaves (hready hs))

/-! ### Credits -/

/-- A change that leaves the leaves as they were, puts no lane in FAULT, and leaves a passage in progress or segment L clear behind
the last one. -/
structure Passes (b p : Passages) : Prop where
  leaf : p.leaf = b.leaf
  service : p.service = .fault → b.service = .fault
  passages : b.passages ≠ [] → p.passages ≠ [] ∨ p.occ .leaves = false

/-- The leaf drive can take a change after which someone let in is let in, or segment L is clear. -/
theorem Passes.ready {b p : Passages} (h : Passes b p) (hb : GateSound b) : Ready b p := by
  obtain ⟨⟨-, -, -, hlatch⟩, hopening, hfault, hjammed, hclosing⟩ := hb
  refine ⟨fun hp => ?_, fun hp => ?_, fun hp => ?_, fun hp hpaused => ?_⟩
  · rw [h.leaf]; exact hfault (h.service hp)
  · rw [h.leaf] at hp ⊢; exact hjammed hp
  · rw [h.leaf] at hp
    rcases hopening hp with hlet | hheld | hemergency
    · cases hl : b.latch
      · exact .inl (by simp [Passages.demand, hlet, hl])
      · rcases h.passages (hlatch hl) with hpassages | hclear
        · exact .inr (.inr (.inl (by simp [Passages.letIn, hpassages])))
        · exact .inr (.inr (.inr ⟨hclear, rfl⟩))
    · exact .inl (by simp [Passages.demand, hheld])
    · exact .inl (by simp [Passages.demand, hemergency])
  · rw [h.leaf] at hp hpaused
    exact hclosing hp hpaused

theorem addCredit_passes (p : Passages) (ser : Serial) : Passes p (p.addCredit ser) := by
  refine ⟨rfl, id, fun h => .inl ?_⟩
  unfold Passages.addCredit
  dsimp only
  split
  · simp
  · exact h

theorem grantCredit_effect (s : State) (l : Lane) (ser : Serial) : Effect [.gate l, .records] s (s.grantCredit l ser) := by
  unfold State.grantCredit
  dsimp only
  split
  next => exact .refl _ _
  next hroom =>
    have hadd := (modGate_effect s l (fun p => p.addCredit ser) fun h => h.addCredit ser hroom).mono
      (qs := [.gate l, .leaves l, .records]) (by simp)
    have hchange := laneChange_effect s l (fun s => s.modGate l fun p => p.addCredit ser) hadd fun hs => by
      simpa using (addCredit_passes (s.gate l) ser).ready hs
    split
    · exact hchange
    · exact hchange
    · exact hchange
    next hservice =>
      refine Effect.safe (l := l) (((hadd.trans (cancelCredits_effect _ l _)).step (modGate_effect _ l _ CreditsSound.discard)))
        fun ⟨_, _, hfault, hjammed, _⟩ => ?_
      have hstate := hfault hservice
      simp only [State.modGate_gate, cancelCredits_gate_self]
      exact .jammed hstate (hjammed hstate)
    · exact .refl _ _
    · exact .refl _ _

theorem lapseCredit_effect (s : State) (l : Lane) (pos : Nat) : Effect [.gate l, .records] s (s.lapseCredit l pos) := by
  unfold State.lapseCredit
  split
  next => exact .refl _ _
  next c hc =>
    have hpos : pos < (s.gate l).credits.length := (List.getElem?_eq_some_iff.mp hc).1
    refine .ite (.refl _ _) (laneChange_effect s l _ ?_ fun hs => ?_)
    · exact (modGate_effect s l _ fun h => h.lapse hpos).step (appendUnreserved_effect _ _ _)
    · have hgate := (appendUnreserved_effect (s.modGate l fun p => { p with
        credits := p.credits.eraseIdx pos, stats := { p.stats with lapses := bump p.stats.lapses } }) .mandatory
        { JournalRecord.blank .creditLapsed (some l) with serial := some c.serial }).same (.gate l) (by simp)
      dsimp only [Part.Same] at hgate
      rw [hgate, State.modGate_gate]
      exact Passes.ready ⟨rfl, id, .inl⟩ hs

/-! ### The passage tracker -/

theorem findTailgate_effect (s : State) (l : Lane) : Effect [.gate l, .leaves l, .records] s (s.findTailgate l) := by
  unfold State.findTailgate
  split
  next => exact .refl _ _
  next x hx =>
    refine .ite (.refl _ _) ?_
    have hne : (s.gate l).passages ≠ [] := by rintro hnil; simp [hnil] at hx
    have hmark := modGate_effect s l (fun p => { p with passages := markTailgate p.passages }) fun h => by
      obtain ⟨hcredits, hpassages, haccount, hlatch⟩ := h
      refine ⟨hcredits, by simpa [markTailgate_length] using hpassages, haccount, fun _ hnil => hne ?_⟩
      exact markTailgate_eq_nil.mp hnil
    have hraise := (hmark.seq (appendUnreserved_effect _ .ordinary
      { JournalRecord.blank .tailgate (some l) with serial := x.credit })).step (raise_effect _ (.tailgate l)) (rs := [.gate l, .leaves l, .records])
    refine hraise.step (modGate_effect _ l _ fun h => ?_)
    obtain ⟨hcredits, hpassages, haccount, -⟩ := h
    refine ⟨hcredits, hpassages, haccount, fun _ hnil => hne ?_⟩
    have hgate := (appendUnreserved_effect (s.modGate l fun p => { p with passages := markTailgate p.passages }) .ordinary
      { JournalRecord.blank .tailgate (some l) with serial := x.credit }).same (.gate l) (by simp)
    dsimp only [Part.Same] at hgate
    simp only [State.raise_gate, hgate, State.modGate_gate] at hnil
    exact markTailgate_eq_nil.mp hnil

theorem findIntrusion_effect (s : State) (l : Lane) (seg : DetailName) : Effect [.gate l, .leaves l, .records] s (s.findIntrusion l seg) :=
  .ite (((modGate_effect s l (fun p => { p with intrusionOpen := true }) id).seq (appendUnreserved_effect _ _ _)).step
    (raise_effect _ _)) (.refl _ _)

theorem leavesOccupied_effect (s : State) (l : Lane) : Effect [.gate l, .leaves l, .records] s (s.leavesOccupied l) := by
  unfold State.leavesOccupied
  have htimer := modGate_effect s l (fun p => { p with obstruction := some p.config.obstruction }) id
  generalize s.modGate l (fun p => { p with obstruction := some p.config.obstruction }) = t at htimer ⊢
  have hstop : Effect [.gate l, .leaves l, .records] s t := htimer.mono (by simp)
  have hfree (hroom : (t.gate l).passages.length < 2) : Effect [.gate l, .leaves l, .records] s
      (t.modGate l fun p => { p with passages := p.passages ++ [⟨none, false, false⟩] }) :=
    hstop.step (modGate_effect t l _ fun h => h.startPassage _ rfl hroom)
  have hwatch := hstop.trans (Effect.ite (c := (t.gate l).passages = []) (findIntrusion_effect t l .segmentL) (findTailgate_effect t l))
  dsimp only
  split
  · split
    next hroom => exact hstop.step (modGate_effect t l _ fun h => h.startPassage _ (startOldest_length _) hroom.2)
    next => exact hstop
  · split
    · split
      next hroom => exact hfree hroom
      next => exact hstop
    · split
      next hroom => exact hfree hroom
      next => exact hstop
    · exact hwatch
    · exact hwatch
    · exact hstop
    · exact hstop

theorem leavesClear_effect (s : State) (l : Lane) : Effect [.gate l, .leaves l] s (s.leavesClear l) := by
  unfold State.leavesClear
  dsimp only
  have hend := modGate_effect s l (fun p => { p with obstruction := none, obstructionReported := false }) id
  exact (hend.trans (Effect.ite ((indicateObstruction_effect _ l false).mono (by simp)) (.refl _ _))).step
    (modGate_effect _ l _ fun h => h.markOrSettle)

theorem exitOccupied_effect (s : State) (l : Lane) : Effect [.gate l, .leaves l, .records] s (s.exitOccupied l) :=
  .ite (findIntrusion_effect s l .segmentX) ((modGate_effect s l _ CreditsSound.markOldest).mono (by simp))

theorem exitClear_effect (s : State) (l : Lane) : Effect [.gate l, .leaves l] s (s.exitClear l) := by
  refine modGate_effect s l _ fun h => ?_
  split
  · exact h
  · exact h.settle

theorem trackSegments_effect (s : State) (l : Lane) (b : Passages) : Effect [.gate l, .leaves l, .records] s (s.trackSegments l b) := by
  unfold State.trackSegments
  dsimp only
  have hleaves : Effect [.gate l, .leaves l, .records] s (if b.occ .leaves = (s.gate l).occ .leaves then s
      else if (s.gate l).occ .leaves then s.leavesOccupied l else s.leavesClear l) :=
    .ite (.refl _ _) (.ite (leavesOccupied_effect s l) ((leavesClear_effect s l).mono (by simp)))
  exact .ite hleaves (.ite (hleaves.trans (exitOccupied_effect _ l)) (hleaves.step (exitClear_effect _ l)))

/-- What the tracker makes of a controller, at beams that stay as they are. -/
structure Tracked (p q : Passages) : Prop extends Passes p q where
  occ : q.occ .leaves = p.occ .leaves

theorem Tracked.refl (p : Passages) : Tracked p p := ⟨⟨rfl, id, .inl⟩, rfl⟩

theorem Tracked.trans {p q r : Passages} (h : Tracked p q) (h' : Tracked q r) : Tracked p r where
  leaf := h'.leaf.trans h.leaf
  service hr := h.service (h'.service hr)
  passages hp := (h.passages hp).elim h'.passages fun hclear => .inr (h'.occ.trans hclear)
  occ := h'.occ.trans h.occ

theorem Passes.trans_tracked {b p q : Passages} (h : Passes b p) (h' : Tracked p q) : Passes b q where
  leaf := h'.leaf.trans h.leaf
  service hq := h.service (h'.service hq)
  passages hb := (h.passages hb).elim h'.passages fun hclear => .inr (h'.occ.trans hclear)

theorem settleOne_frame (p : Passages) (x : Passage) :
    (p.settleOne x).leaf = p.leaf ∧ (p.settleOne x).service = p.service ∧ (p.settleOne x).occ .leaves = p.occ .leaves := by
  unfold Passages.settleOne
  split
  · split <;> exact ⟨rfl, rfl, rfl⟩
  all_goals exact ⟨rfl, rfl, rfl⟩

theorem settle_frame (p : Passages) : p.settle.leaf = p.leaf ∧ p.settle.service = p.service ∧ p.settle.occ .leaves = p.occ .leaves := by
  have fold (xs : List Passage) (q : Passages) : (xs.foldl Passages.settleOne q).leaf = q.leaf
      ∧ (xs.foldl Passages.settleOne q).service = q.service ∧ (xs.foldl Passages.settleOne q).occ .leaves = q.occ .leaves := by
    induction xs generalizing q with
    | nil => exact ⟨rfl, rfl, rfl⟩
    | cons x xs ih =>
      obtain ⟨hleaf, hservice, hocc⟩ := settleOne_frame q x
      obtain ⟨ihleaf, ihservice, ihocc⟩ := ih (q.settleOne x)
      exact ⟨ihleaf.trans hleaf, ihservice.trans hservice, ihocc.trans hocc⟩
  exact fold p.passages p

/-- Passages settle behind a clear segment L. -/
theorem settle_tracked {p : Passages} (hclear : p.occ .leaves = false) : Tracked p p.settle := by
  obtain ⟨hleaf, hservice, hocc⟩ := settle_frame p
  exact ⟨⟨hleaf, fun h => hservice ▸ h, fun _ => .inr (hocc.trans hclear)⟩, hocc⟩

theorem markOldest_tracked (p : Passages) : Tracked p { p with passages := markOldest p.passages } := by
  refine ⟨⟨rfl, id, fun h => .inl fun hnil => h ?_⟩, rfl⟩
  exact List.length_eq_zero_iff.mp (by rw [← markOldest_length, show markOldest p.passages = [] from hnil]; rfl)

@[simp] theorem appendUnreserved_gate (s : State) (c : AdmissionClass) (r : JournalRecord) (l : Lane) :
    (s.appendUnreserved c r).gate l = s.gate l :=
  (appendUnreserved_effect s c r).same (.gate l) (by simp)

@[simp] theorem indicateObstruction_gate (s : State) (l k : Lane) (started : Bool) : (s.indicateObstruction l started).gate k = s.gate k :=
  (indicateObstruction_effect s l started).same (.gate k) (by simp)

theorem findTailgate_tracked (s : State) (l : Lane) : Tracked (s.gate l) ((s.findTailgate l).gate l) := by
  unfold State.findTailgate
  split
  · exact .refl _
  · split
    · exact .refl _
    · simp only [State.modGate_gate, State.raise_gate, appendUnreserved_gate]
      exact ⟨⟨rfl, id, fun h => .inl (mt markTailgate_eq_nil.mp h)⟩, rfl⟩

theorem findIntrusion_tracked (s : State) (l : Lane) (seg : DetailName) : Tracked (s.gate l) ((s.findIntrusion l seg).gate l) := by
  unfold State.findIntrusion
  dsimp only
  split
  · simp only [State.modGate_gate, State.raise_gate, appendUnreserved_gate]
    exact ⟨⟨rfl, id, .inl⟩, rfl⟩
  · exact .refl _

theorem startPassage_tracked (p : Passages) (cs : List Credit) (x : Passage) :
    Tracked p { p with credits := cs, passages := p.passages ++ [x] } := ⟨⟨rfl, id, fun _ => .inl (by simp)⟩, rfl⟩

theorem leavesOccupied_tracked (s : State) (l : Lane) : Tracked (s.gate l) ((s.leavesOccupied l).gate l) := by
  unfold State.leavesOccupied
  have htimer : Tracked (s.gate l) ((s.modGate l fun p => { p with obstruction := some p.config.obstruction }).gate l) := by
    rw [State.modGate_gate]
    exact ⟨⟨rfl, id, .inl⟩, rfl⟩
  generalize s.modGate l (fun p => { p with obstruction := some p.config.obstruction }) = t at htimer ⊢
  have hstart (cs : List Credit) (x : Passage) :
      Tracked (s.gate l) ((t.modGate l fun p => { p with passages := p.passages ++ [x] }).gate l) := by
    rw [State.modGate_gate]
    exact htimer.trans (startPassage_tracked _ _ x)
  have hwatch : Tracked (s.gate l) ((if (t.gate l).passages = [] then t.findIntrusion l .segmentL else t.findTailgate l).gate l) := by
    split
    · exact htimer.trans (findIntrusion_tracked t l _)
    · exact htimer.trans (findTailgate_tracked t l)
  dsimp only
  split
  · split
    · rw [State.modGate_gate]
      exact htimer.trans (startPassage_tracked _ _ _)
    · exact htimer
  · split
    · split
      · exact hstart [] _
      · exact htimer
    · split
      · exact hstart [] _
      · exact htimer
    · exact hwatch
    · exact hwatch
    · exact htimer
    · exact htimer

theorem leavesClear_tracked {s : State} {l : Lane} (hclear : (s.gate l).occ .leaves = false) :
    Tracked (s.gate l) ((s.leavesClear l).gate l) := by
  have hend : Tracked (s.gate l) { s.gate l with obstruction := none, obstructionReported := false } := ⟨⟨rfl, id, .inl⟩, rfl⟩
  have hgate : ((if (s.gate l).obstructionReported then (s.modGate l fun p => { p with obstruction := none, obstructionReported := false }).indicateObstruction l false
      else s.modGate l fun p => { p with obstruction := none, obstructionReported := false }).gate l)
      = { s.gate l with obstruction := none, obstructionReported := false } := by
    split <;> simp
  unfold State.leavesClear
  dsimp only
  rw [State.modGate_gate, hgate]
  split
  · exact hend.trans (markOldest_tracked _)
  · exact hend.trans (settle_tracked hclear)

theorem exitOccupied_tracked (s : State) (l : Lane) : Tracked (s.gate l) ((s.exitOccupied l).gate l) := by
  unfold State.exitOccupied
  split
  · exact findIntrusion_tracked s l _
  · rw [State.modGate_gate]
    exact markOldest_tracked _

theorem exitClear_tracked (s : State) (l : Lane) : Tracked (s.gate l) ((s.exitClear l).gate l) := by
  unfold State.exitClear
  rw [State.modGate_gate]
  split
  · exact .refl _
  next hclear => exact settle_tracked (by simpa using hclear)

theorem trackSegments_tracked (s : State) (l : Lane) (b : Passages) : Tracked (s.gate l) ((s.trackSegments l b).gate l) := by
  unfold State.trackSegments
  dsimp only
  have hleaves : Tracked (s.gate l) ((if b.occ .leaves = (s.gate l).occ .leaves then s
      else if (s.gate l).occ .leaves then s.leavesOccupied l else s.leavesClear l).gate l) := by
    split
    · exact .refl _
    · split
      · exact leavesOccupied_tracked s l
      next hclear => exact leavesClear_tracked (by simpa using hclear)
  split
  · exact hleaves
  · split
    · exact hleaves.trans (exitOccupied_tracked _ l)
    · exact hleaves.trans (exitClear_tracked _ l)

/-- A change of the beams or their reading, which the tracker, the leaf drive and the draining test take. -/
theorem beamChange_effect {s : State} {l : Lane} {f : Passages → Passages} (hf : CreditsSound (s.gate l) → CreditsSound (f (s.gate l)))
    (hpasses : Passes (s.gate l) (f (s.gate l))) : Effect [.gate l, .records] s (s.beamChange l f) := by
  refine laneChange_effect s l (fun s' => (s'.modGate l f).trackSegments l (s.gate l))
    ((modGate_effect s l f hf).step (trackSegments_effect (s.modGate l f) l (s.gate l))) fun hs => Passes.ready ?_ hs
  have htrack := trackSegments_tracked (s.modGate l f) l (s.gate l)
  rw [State.modGate_gate] at htrack
  exact hpasses.trans_tracked htrack

theorem modLimit_credits (p : Passages) (k : Limit) (f : Input → Input) (h : CreditsSound p) : CreditsSound (p.modLimit k f) := by
  cases k <;> exact h

theorem modLimit_leaves (p : Passages) (k : Limit) (f : Input → Input) (h : LeavesSound p) : LeavesSound (p.modLimit k f) := by
  cases k <;> exact h

theorem limitChange_effect (s : State) (l : Lane) (k : Limit) (asserted : Bool) :
    Effect [.gate l, .records] s (s.limitChange l k asserted) := by
  unfold State.limitChange
  dsimp only
  have hset := modGate_safe s l (fun p => p.modLimit k fun i => i.accept asserted) (modLimit_credits _ k _)
    fun hs => modLimit_leaves _ k _ hs.2
  generalize s.modGate l (fun p => p.modLimit k fun i => i.accept asserted) = t at hset ⊢
  exact .ite (hset.step (jam_effect _ l _)) (hset.step (putLeaves_safe (limitReact_leaf _ _ _ _) fun hs => limitReact_leaves hs.2))

theorem obstructionExpired_effect (s : State) (l : Lane) : Effect [.gate l] s (s.obstructionExpired l) := by
  unfold State.obstructionExpired
  split
  · exact .refl _ _
  · exact ((modGate_safe s l (fun p => { p with obstruction := none, obstructionReported := true }) id fun hs => hs.2).seq
      (raise_effect _ _)).step (indicateObstruction_effect _ _ _)

theorem travelExpired_effect (s : State) (l : Lane) : Effect [.gate l, .records] s (s.travelExpired l) := by
  unfold State.travelExpired
  split
  · exact jam_effect s l _
  · exact jam_effect s l _
  all_goals exact .refl _ _

/-- The end of a running close delay, which no JAMMED leaves have. -/
theorem closeDelayExpired_effect {s : State} {l : Lane} (hdelay : (s.gate l).leaf.closeDelay.isSome = true) :
    Effect [.gate l, .records] s (s.putLeaves l (s.gate l).enterClosing) := by
  refine putLeaves_safe (enterClosing_leaf _) fun ⟨_, _, hfault, hjammed, _⟩ => enterClosing_leaves fun hservice => ?_
  simp [hjammed (hfault hservice)] at hdelay

/-! ### LANE SERVICE and the EMERGENCY line -/

/-- The leaf drive can take leaves that a movement has put in place. -/
theorem putLeaves_ready {s : State} {l : Lane} {b : Passages} {r : Passages × Bool} (hr : r.1 = { s.gate l with leaf := r.1.leaf })
    (hocc : (s.gate l).occ .leaves = b.occ .leaves) (h : r.2 = false → LeavesSound r.1) : Ready b ((s.putLeaves l r).gate l) := by
  have ⟨hopening, hfault, hjammed, hclosing⟩ := putLeaves_leaves (s := s) (l := l) h
  refine ⟨hfault, hjammed, fun hstate => ?_, fun hstate hpaused => ?_⟩
  · rcases hopening hstate with hlet | hheld | hemergency
    · exact .inr (.inr (.inl hlet))
    · exact .inr (.inl (by simp [Passages.demand, hheld]))
    · exact .inr (.inl (by simp [Passages.demand, hemergency]))
  · unfold State.putLeaves at hstate hpaused hclosing
    dsimp only at hstate hpaused hclosing
    split at hstate
    · rw [jam_leaf] at hstate
      cases hstate
    next hlimits =>
      rw [if_neg hlimits] at hpaused hclosing
      have hclear := hclosing hstate hpaused
      rw [State.modGate_gate, hr] at hclear
      exact hocc.symm.trans hclear

theorem hostService_effect {s : State} {l : Lane} {v : Service} (hv : v ≠ .fault) : Effect [.gate l, .records] s (s.hostService l v) := by
  unfold State.hostService
  dsimp only
  have hset := ((modGate_effect s l (fun p => { p with faultCause := none }) id).step (setService_effect _ l v)
    (rs := [.gate l, .leaves l, .records]))
  have hgate : ((s.modGate l fun p => { p with faultCause := none }).setService l v).gate l
      = { s.gate l with faultCause := none, service := v } := by rw [setService_gate_self, State.modGate_gate]
  generalize (s.modGate l fun p => { p with faultCause := none }).setService l v = t at hset hgate ⊢
  have hmove : (if v = .heldOpen then (t.gate l).enterOpening else (t.gate l).enterClosing).1
      = { t.gate l with leaf := (if v = .heldOpen then (t.gate l).enterOpening else (t.gate l).enterClosing).1.leaf } := by
    split
    · exact enterOpening_leaf _
    · exact enterClosing_leaf _
  have hservice : (t.gate l).service ≠ .fault := by rw [hgate]; exact hv
  refine Effect.step (ps := [.gate l, .records]) ?_ (drainCheck_effect _ l)
  refine Effect.safe (l := l) (((Effect.ite (hset.trans (putLeaves_effect _ l _ hmove)) hset).trans (leafSettle_effect _ l _)).mono (by simp))
    fun hs => putLeaves_leaves (leafReact_leaves ?_)
  split
  · refine putLeaves_ready hmove (by rw [hgate]; rfl) fun hlimits => ?_
    by_cases hheld : v = .heldOpen
    · rw [if_pos hheld] at hlimits ⊢
      exact enterOpening_leaves hservice (.inl (by simp [Passages.demand, hgate, hheld])) hlimits
    · rw [if_neg hheld] at hlimits ⊢
      exact enterClosing_leaves hservice hlimits
  · rw [hgate]
    exact Passes.ready ⟨rfl, fun h => absurd h hv, .inl⟩ hs

theorem serviceIn_effect (s : State) (l : Lane) : Effect [.gate l, .records] s (s.serviceIn l).2 := by
  unfold State.serviceIn
  dsimp only
  split
  · exact .refl _ _
  · split
    · exact .refl _ _
    · split <;> first | exact .refl _ _ | exact hostService_effect nofun

theorem serviceOut_effect (s : State) (l : Lane) : Effect [.gate l, .records] s (s.serviceOut l).2 := by
  unfold State.serviceOut
  dsimp only
  split
  · exact .refl _ _
  · split <;> first | exact .refl _ _ | exact hostService_effect nofun

theorem serviceHoldOpen_effect (s : State) (l : Lane) : Effect [.gate l, .records] s (s.serviceHoldOpen l).2 := by
  unfold State.serviceHoldOpen
  dsimp only
  split
  · exact .refl _ _
  · split
    · exact .refl _ _
    · split <;> first | exact .refl _ _ | exact hostService_effect nofun

theorem emergencyLane_effect (s : State) (l : Lane) : Effect [.gate l, .records] s (s.emergencyLane l) := by
  unfold State.emergencyLane
  dsimp only
  have hopen := ((cancelCredits_effect s l .emergency).seq (modGate_effect _ l (fun p => { p.discard with faultCause := none })
    fun h => h.discard)).step (setService_effect _ l .emergencyOpen) (rs := [.gate l, .leaves l, .records])
  have hservice : ((((s.cancelCredits l .emergency).modGate l fun p => { p.discard with faultCause := none }).setService l
      .emergencyOpen).gate l).service = .emergencyOpen := by rw [setService_gate_self]
  generalize ((s.cancelCredits l .emergency).modGate l fun p => { p.discard with faultCause := none }).setService l
    .emergencyOpen = t at hopen hservice ⊢
  refine Effect.safe (l := l) (.ite (hopen.step (modGate_effect _ l _ id)) ((hopen.trans (putLeaves_effect _ l _ (enterOpening_leaf _))).mono (by simp)))
    fun _ => ?_
  split
  next hstate =>
    rw [State.modGate_gate]
    refine ⟨fun _ => .inr (.inr hservice), fun h => by simp [hservice] at h, fun h => ?_, fun h => ?_⟩
    all_goals rcases hstate with hstate | ⟨hstate, -⟩ <;> simp [hstate] at h
  next =>
    exact putLeaves_leaves (enterOpening_leaves (by simp [hservice]) (.inl (by simp [Passages.demand, hservice])))

end Sys2Proof.Machine

end

/-! ## What the tariff store's and the screening unit's operations may change -/

section

-- Proofs are checked in order: as one text the file would otherwise hold more waiting proofs than the check has memory for.
set_option Elab.async false

namespace Sys2Proof.Machine

/-- A change that keeps the fields every part looks at. -/
theorem Effect.unseen {s t : State} (hphase : t.phase = s.phase) (hlink : t.link = s.link) (hscreening : t.screening = s.screening)
    (hdoubt : t.doubt.header = s.doubt.header) (hjournal : t.journal = s.journal) (hlanes : t.lanes = s.lanes) : Effect [] s t :=
  .outside fun p => by cases p <;> simp [Part.Same, State.tap, State.gate, State.lane, *]

/-! ### The tariff store -/

theorem noteBank_effect (s : State) (i : AreaId) (t : Tally) : Effect [] s (s.noteBank i t) := by
  unfold State.noteBank
  exact .ite (noteFindings_effect _ _ _ _) ((noteFindings_effect _ _ _ _).step (.unseen rfl rfl rfl rfl rfl rfl))

theorem completeSwitch_effect (s : State) : Effect [.records] s s.completeSwitch := by
  unfold State.completeSwitch
  have hroles : Effect [] s { s with tariff := { s.tariff.setArea s.tariff.active { s.tariff.area s.tariff.active with version := none } with
      active := s.tariff.pendingId, usable := true, pending := .empty, effective := none, validation := .none } } :=
    .unseen rfl rfl rfl rfl rfl rfl
  exact (hroles.seq (appendUnreserved_effect _ _ _)).step (raise_effect _ _)

theorem trySwitch_effect (s : State) : Effect [.records] s s.trySwitch := .ite (completeSwitch_effect s) (.refl _ _)

theorem enterSwitching_effect (s : State) : Effect [.records] s s.enterSwitching := by
  unfold State.enterSwitching
  have hpending : Effect [] s { s with tariff := { s.tariff with pending := .switching } } := .unseen rfl rfl rfl rfl rfl rfl
  exact .ite (hpending.step (trySwitch_effect _)) (.refl _ _)

theorem storeAll_effect {α : Type} (s : State) (m : Memory) (xs : List α) : Effect [] s (s.storeAll m xs).2 := by
  cases xs with
  | nil => exact .refl _ _
  | cons x xs => exact store_effect s m x

theorem writePart_effect {α : Type} (s : State) (get : Bank → List (Stored α)) (put : Bank → List (Stored α) → Bank) (start : Nat)
    (xs : List α) : Effect [] s (s.writePart get put start xs) := by
  unfold State.writePart
  exact (storeAll_effect s .tariff xs).step (.unseen rfl rfl rfl rfl rfl rfl)

theorem writeItems_effect (s : State) (part : BankPart) (start : Nat) (items : List TariffItem) :
    Effect [] s (s.writeItems part start items) := by
  unfold State.writeItems
  split <;> exact writePart_effect s _ _ _ _

theorem clearPending_effect (s : State) (version : Nat) : Effect [] s (s.clearPending version) := by
  unfold State.clearPending
  exact (store_effect s .tariff 0).step (.unseen rfl rfl rfl rfl rfl rfl)

theorem closeBank_effect (s : State) : Effect [] s s.closeBank := by
  unfold State.closeBank
  dsimp only
  generalize readThroughTally _ = tally
  exact (noteFindings_effect s .tariff _ _).step (.unseen rfl rfl rfl rfl rfl rfl)

theorem readinessRead_effect (s : State) : Effect [] s s.readinessRead := by
  unfold State.readinessRead
  exact .ite (noteBank_effect _ _ _) (.refl _ _)

/-! ### The screening unit under updates of its collections -/

@[simp] theorem State.setSightings_screening (s : State) (xs : List (Stored Sighting)) :
    (s.setSightings xs).screening = { s.screening with sightings := xs } := rfl

@[simp] theorem State.setDenylist_screening (s : State) (xs : List (Stored DenyEntry)) :
    (s.setDenylist xs).screening = { s.screening with denylist := xs } := rfl

@[simp] theorem State.setSuspects_screening (s : State) (xs : List (Stored SuspectEntry)) :
    (s.setSuspects xs).screening = { s.screening with suspects := xs } := rfl

@[simp] theorem State.countScreen_screening (s : State) (f : ScreenCounters → ScreenCounters) :
    (s.countScreen f).screening = { s.screening with counters := f s.screening.counters } := rfl

@[simp] theorem State.discardDenylist_screening (s : State) :
    s.discardDenylist.screening = { s.screening with denylist := [], denyValid := false } := rfl

/-! ### The sighting table -/

theorem setSightings_effect (s : State) (xs : List (Stored Sighting)) : Effect [] s (s.setSightings xs) :=
  .outside fun p => by cases p <;> first | rfl | exact ⟨rfl, rfl, rfl⟩ | exact id

theorem countScreen_effect (s : State) (f : ScreenCounters → ScreenCounters) : Effect [] s (s.countScreen f) :=
  .outside fun p => by cases p <;> first | rfl | exact ⟨rfl, rfl, rfl⟩ | exact id

theorem lookupSighting_effect (s : State) (ser : Serial) : Effect [] s (s.lookupSighting ser).2 := by
  unfold State.lookupSighting
  split
  · exact .refl _ _
  · dsimp only
    split
    · exact (noteRead_effect _ _ _).step (setSightings_effect _ _)
    · exact noteRead_effect _ _ _

theorem makeSightingRoom_effect (s : State) : Effect [] s s.makeSightingRoom := by
  unfold State.makeSightingRoom
  dsimp only
  have hscan := (noteFindings_effect s .sighting (evictScan s.pinned s.screening.sightings).tally.corrected
    (evictScan s.pinned s.screening.sightings).tally.uncorrected).step
    (setSightings_effect _ (evictScan s.pinned s.screening.sightings).left) (rs := [])
  exact .ite (.refl _ _) (.ite (hscan.step (countScreen_effect _ _)) hscan)

theorem insertSighting_effect (s : State) (x : Sighting) : Effect [] s (s.insertSighting x) := by
  unfold State.insertSighting
  exact ((makeSightingRoom_effect s).seq (store_effect _ .sighting x)).step (setSightings_effect _ _)

theorem replaceSighting_effect (s : State) (x : Sighting) : Effect [] s (s.replaceSighting x) := by
  unfold State.replaceSighting
  exact (store_effect s .sighting x).step (setSightings_effect _ _)

theorem cardUpdate_effect (s : State) (l : Lane) (ser : Serial) (counter : Nat) (purse : Int) (trip : Trip) :
    Effect [] s (s.cardUpdate l ser counter purse trip) := by
  unfold State.cardUpdate
  dsimp only
  have hlook := lookupSighting_effect s ser
  split
  · exact hlook.step (insertSighting_effect _ _)
  · exact hlook.step (.ite (countScreen_effect _ _) (replaceSighting_effect _ _) (ps := []))

/-! ### The denylist and the suspect list -/

/-- Lists that lose entries stay sound. -/
theorem ListsSound.of_sublist {s t : State} (hdeny : t.screening.denylist.Sublist s.screening.denylist)
    (hsuspects : t.screening.suspects.Sublist s.screening.suspects)
    (hvalid : t.screening.denyValid = false → t.screening.denylist = []) (h : ListsSound s) : ListsSound t := by
  obtain ⟨hsorted, hroom, -, hnodup, hplaces, hapart⟩ := h
  exact ⟨hsorted.sublist (hdeny.map _), hdeny.length_le.trans hroom, hvalid, hnodup.sublist (hsuspects.map _),
    hsuspects.length_le.trans hplaces, fun x hx y hy => hapart x (hdeny.subset hx) y (hsuspects.subset hy)⟩

theorem setSuspects_same (s : State) (xs : List (Stored SuspectEntry)) (p : Part) (hp : p ≠ .lists) : p.Same s (s.setSuspects xs) := by
  cases p <;> first | rfl | exact absurd rfl hp | exact id

theorem setDenylist_same (s : State) (xs : List (Stored DenyEntry)) (p : Part) (hp : p ≠ .lists) : p.Same s (s.setDenylist xs) := by
  cases p <;> first | rfl | exact absurd rfl hp | exact id

/-- A suspect list that loses entries. -/
theorem setSuspects_effect {s : State} {xs : List (Stored SuspectEntry)} (hxs : xs.Sublist s.screening.suspects) :
    Effect [.lists] s (s.setSuspects xs) :=
  .lists_of (setSuspects_same s xs) fun h => ListsSound.of_sublist (s := s) (.refl _) hxs h.2.2.1 h

/-- A denylist that loses entries. -/
theorem setDenylist_effect {s : State} {xs : List (Stored DenyEntry)} (hxs : xs.Sublist s.screening.denylist) :
    Effect [.lists] s (s.setDenylist xs) :=
  .lists_of (setDenylist_same s xs) fun h => ListsSound.of_sublist (s := s) hxs (.refl _)
    (fun hinvalid => List.sublist_nil.mp ((h.2.2.1 hinvalid) ▸ hxs)) h

theorem discardDenylist_effect (s : State) : Effect [.lists] s s.discardDenylist :=
  .lists_of (fun p hp => by cases p <;> first | rfl | exact absurd rfl hp | exact id)
    (ListsSound.of_sublist (List.nil_sublist _) (.refl _) fun _ => rfl)

theorem lookupDeny_effect (s : State) (ser : Serial) : Effect [.lists] s (s.lookupDeny ser).2 := by
  unfold State.lookupDeny
  split
  · exact .refl _ _
  · dsimp only
    split
    · exact (noteRead_effect _ _ _).step (discardDenylist_effect _)
    · exact (noteRead_effect _ _ _).mono (by simp)

theorem lookupSuspect_effect (s : State) (ser : Serial) : Effect [.lists] s (s.lookupSuspect ser).2 := by
  unfold State.lookupSuspect
  split
  · exact .refl _ _
  · dsimp only
    split
    · refine (noteRead_effect _ _ _).step (setSuspects_effect ?_)
      rw [State.noteRead_screening]
      exact List.filter_sublist
    · exact (noteRead_effect _ _ _).mono (by simp)

/-- A denylist lookup that returns none leaves a list without the serial. -/
theorem lookupDeny_absent {s : State} {ser : Serial} (h : (s.lookupDeny ser).1.isSome = false) :
    ∀ x ∈ (s.lookupDeny ser).2.screening.denylist, x.val.serial ≠ ser := by
  unfold State.lookupDeny at h ⊢
  split
  next hfind => simpa using hfind
  next e hfind =>
    simp only [hfind] at h
    dsimp only
    split
    · simp
    next hbits => rw [if_neg hbits] at h; simp at h

/-- A suspect list lookup that returns none leaves a list without the serial. -/
theorem lookupSuspect_absent {s : State} {ser : Serial} (h : (s.lookupSuspect ser).1.isSome = false) :
    ∀ x ∈ (s.lookupSuspect ser).2.screening.suspects, x.val.serial ≠ ser := by
  unfold State.lookupSuspect at h ⊢
  split
  next hfind => simpa using hfind
  next e hfind =>
    simp only [hfind] at h
    dsimp only
    split
    · simp [withoutSuspect]
    next hbits => rw [if_neg hbits] at h; simp at h

theorem lookupSuspect_denylist (s : State) (ser : Serial) :
    (s.lookupSuspect ser).2.screening.denylist = s.screening.denylist
      ∧ (s.lookupSuspect ser).2.screening.denyValid = s.screening.denyValid := by
  unfold State.lookupSuspect
  split
  · exact ⟨rfl, rfl⟩
  · dsimp only
    split <;> simp

/-- A new suspect entry of a serial that stands in neither list. -/
theorem addSuspect_effect {s : State} {x : SuspectEntry} (hdeny : ∀ y ∈ s.screening.denylist, y.val.serial ≠ x.serial)
    (hsuspects : ∀ y ∈ s.screening.suspects, y.val.serial ≠ x.serial) : Effect [.lists] s (s.addSuspect x) := by
  unfold State.addSuspect
  dsimp only
  have hval := store_val s .lists x
  have hscreening := s.store_screening .lists x
  have hstore := store_effect s .lists x
  generalize s.store .lists x = r at hval hscreening hstore ⊢
  obtain ⟨item, t⟩ := r
  dsimp only at *
  have hadd (xs : List (Stored SuspectEntry)) (hxs : xs.Sublist t.screening.suspects) (hroom : xs.length < 512) :
      Effect [.lists] t (t.setSuspects (xs ++ [item])) := by
    refine .lists_of (setSuspects_same t _) fun ⟨hsorted, hplaces, hvalid, hnodup, _, hapart⟩ => ?_
    refine ⟨hsorted, hplaces, hvalid, ?_, by simp; omega, fun y hy z hz => ?_⟩
    · have hnew : x.serial ∉ xs.map fun y => y.val.serial := by
        rintro hmem
        obtain ⟨y, hy, hserial⟩ := List.mem_map.mp hmem
        exact hsuspects y (hscreening ▸ hxs.subset hy) hserial
      rw [State.setSuspects_screening, List.map_append, List.map_singleton, hval]
      exact (hnodup.sublist (hxs.map _)).append (List.nodup_singleton _) (List.disjoint_singleton.mpr hnew)
    · rcases List.mem_append.mp hz with hold | hnew
      · exact hapart y hy z (hxs.subset hold)
      · rw [List.mem_singleton.mp hnew, hval]
        exact hdeny y (by rwa [← hscreening])
  split
  next hroom => exact hstore.step (hadd t.screening.suspects (.refl _) hroom)
  next hfull =>
    refine Effect.step (hstore.seq (qs := [.lists]) (.lists_of (setSuspects_same t _) fun h => ?_)) (countScreen_effect _ _)
    have hplaces : t.screening.suspects.length ≤ 512 := h.2.2.2.2.1
    exact (hadd (t.screening.suspects.drop 1) (List.drop_sublist 1 _) (by simp; omega)).lists h

theorem enterSuspect_effect (s : State) (ser : Serial) (reason : SuspectReason) (foundAt : Source) :
    Effect [.lists] s (s.enterSuspect ser reason foundAt) := by
  unfold State.enterSuspect
  dsimp only
  have hdeny := lookupDeny_effect s ser
  have hsuspect := lookupSuspect_effect (s.lookupDeny ser).2 ser
  split
  next => exact hdeny
  next hlisted =>
    split
    next => exact hdeny.trans hsuspect
    next hheld =>
      refine (hdeny.trans hsuspect).trans (addSuspect_effect (fun y hy => ?_) fun y hy => ?_)
      · rw [(lookupSuspect_denylist _ ser).1] at hy
        exact lookupDeny_absent (by simpa using hlisted) y hy
      · exact lookupSuspect_absent (by simpa using hheld) y hy

/-! ### Screening a card -/

theorem checkBlocked_effect (s : State) (q : ScreenRequest) : Effect [.records] s (s.checkBlocked q).2 := by
  unfold State.checkBlocked
  split
  · exact (countScreen_effect _ _).step (.ite (appendUnreserved_effect _ _ _) (.refl [.records] _))
  · exact .refl _ _

theorem checkDenylist_effect (s : State) (q : ScreenRequest) : Effect [.lists, .records] s (s.checkDenylist q).2 := by
  unfold State.checkDenylist
  split
  · exact .refl _ _
  · dsimp only
    have hlook := (lookupDeny_effect s q.card.serial).mono (qs := [.lists, .records]) (by simp)
    split
    · exact hlook
    · exact ((hlook.seq (countScreen_effect _ _)).seq (appendUnreserved_effect _ _ _)).step (raise_effect _ _)

theorem checkSuspect_effect (s : State) (q : ScreenRequest) : Effect [.lists, .records] s (s.checkSuspect q).2 := by
  unfold State.checkSuspect
  dsimp only
  have hlook := (lookupSuspect_effect s q.card.serial).mono (qs := [.lists, .records]) (by simp)
  split
  · exact hlook
  · exact (hlook.seq (countScreen_effect _ _)).step
      (.ite ((appendUnreserved_effect _ _ _).step (raise_effect _ _)) (.refl [.records] _))

theorem findClone_effect (s : State) (q : ScreenRequest) (e : Sighting) (reason : SuspectReason) :
    Effect [.lists, .records] s (s.findClone q e reason).2 :=
  ((enterSuspect_effect s q.card.serial reason (.lane q.lane)).seq (appendUnreserved_effect _ _ _)).step (raise_effect _ _)

theorem checkSighting_effect (s : State) (q : ScreenRequest) : Effect [.lists, .records] s (s.checkSighting q).2 := by
  unfold State.checkSighting
  dsimp only
  have hlook := (lookupSighting_effect s q.card.serial).mono (qs := [.lists, .records]) (by simp)
  have hfind {t : State} (ht : Effect [.lists, .records] s t) (f : ScreenCounters → ScreenCounters) (e : Sighting)
      (reason : SuspectReason) : Effect [.lists, .records] s ((t.countScreen f).findClone q e reason).2 :=
    (ht.seq (countScreen_effect t f)).step (findClone_effect _ q e reason)
  split
  · exact hlook
  · split
    · exact hfind hlook _ _ _
    · split
      · exact hfind hlook _ _ _
      · split
        · exact hfind (hlook.step (noteBank_effect _ _ _)) _ _ _
        · exact hlook.step (noteBank_effect _ _ _)

theorem checkImage_effect (s : State) (q : ScreenRequest) : Effect [] s (s.checkImage q).2 := by
  unfold State.checkImage
  split
  · dsimp only
    exact countScreen_effect s _
  · split <;> (dsimp only; exact countScreen_effect s _)

theorem runChecks_effect (s : State) (q : ScreenRequest) : Effect [.lists, .records] s (s.runChecks q).2 := by
  unfold State.runChecks
  have h1 := (checkBlocked_effect s q).mono (qs := [.lists, .records]) (by simp)
  split
  next heq => rwa [heq] at h1
  next s1 heq =>
    rw [heq] at h1
    have h2 := h1.trans (checkDenylist_effect s1 q)
    split
    next heq => rwa [heq] at h2
    next s2 heq =>
      rw [heq] at h2
      have h3 := h2.trans (checkSuspect_effect s2 q)
      split
      next heq => rwa [heq] at h3
      next s3 heq =>
        rw [heq] at h3
        have h4 := h3.trans (checkSighting_effect s3 q)
        split
        next heq => rwa [heq] at h4
        next s4 heq =>
          rw [heq] at h4
          exact h4.step (checkImage_effect s4 q)

theorem screen_effect (s : State) (q : ScreenRequest) : Effect [.lists, .records] s (s.screen q).2.2 := by
  unfold State.screen
  have hrun := (countScreen_effect s fun c => { c with screened := bump c.screened }).step (runChecks_effect _ q)
    (rs := [.lists, .records])
  exact .ite (hrun.step (countScreen_effect _ _)) hrun

/-! ### Feeds and the host's requests on the lists -/

theorem feedConflict_effect (s : State) (x : FeedItem) (e : Sighting) (reason : SuspectReason) :
    Effect [.lists, .records] s (s.feedConflict x e reason) :=
  ((enterSuspect_effect s x.serial reason .feed).seq (appendUnreserved_effect _ _ _)).step (raise_effect _ _)

theorem applyFeedItem_effect (s : State) (x : FeedItem) : Effect [.lists, .records] s (s.applyFeedItem x).2.2 := by
  unfold State.applyFeedItem
  dsimp only
  have hlook := (lookupSighting_effect s x.serial).mono (qs := [.lists, .records]) (by simp)
  split
  · exact hlook.step (insertSighting_effect _ _)
  · dsimp only
    split
    · exact hlook
    · exact hlook.step (replaceSighting_effect _ _)
    · exact hlook
    · exact hlook.trans (feedConflict_effect _ _ _ _)

theorem applyFeed_effect (s : State) (items : List FeedItem) (n : FeedCounts) :
    Effect [.lists, .records] s (s.applyFeed items n).2 := by
  induction items generalizing s n with
  | nil => exact .refl _ _
  | cons x xs ih => exact (applyFeedItem_effect s x).trans (ih _ _)

theorem insertDeny_perm (x : Stored DenyEntry) (xs : List (Stored DenyEntry)) : (insertDeny x xs).Perm (x :: xs) := by
  induction xs with
  | nil => exact .refl _
  | cons y ys ih =>
    unfold insertDeny
    split
    · exact .refl _
    · exact (ih.cons y).trans (.swap x y ys)

/-- An entry of a new serial stands at its place in ascending order (R30). -/
theorem insertDeny_sorted {x : Stored DenyEntry} {xs : List (Stored DenyEntry)}
    (hsorted : (xs.map fun y => y.val.serial.toNat).Pairwise (· < ·)) (hnew : ∀ y ∈ xs, y.val.serial ≠ x.val.serial) :
    ((insertDeny x xs).map fun y => y.val.serial.toNat).Pairwise (· < ·) := by
  induction xs with
  | nil => simp [insertDeny]
  | cons y ys ih =>
    rw [List.map_cons, List.pairwise_cons] at hsorted
    obtain ⟨hhead, htail⟩ := hsorted
    unfold insertDeny
    split
    next hlt =>
      rw [List.map_cons, List.map_cons, List.pairwise_cons, List.pairwise_cons]
      refine ⟨fun n hn => ?_, hhead, htail⟩
      rcases List.mem_cons.mp hn with rfl | hn
      · exact hlt
      · exact hlt.trans (hhead n hn)
    next hge =>
      rw [List.map_cons, List.pairwise_cons]
      refine ⟨fun n hn => ?_, ih htail fun z hz => hnew z (List.mem_cons_of_mem _ hz)⟩
      have hne : y.val.serial.toNat ≠ x.val.serial.toNat := mt BitVec.eq_of_toNat_eq (hnew y (List.mem_cons_self ..))
      rcases List.mem_cons.mp (((insertDeny_perm x ys).map _).mem_iff.mp hn) with rfl | hn
      · omega
      · exact hhead n hn

/-- A new entry, inserted at its place and taken out of the suspect list. -/
theorem addDeny_effect {s : State} {x : DenyEntry} (hvalid : s.screening.denyValid = true)
    (hroom : s.screening.denylist.length < 8192) (hnew : ∀ y ∈ s.screening.denylist, y.val.serial ≠ x.serial) :
    Effect [.lists] s (s.addDeny x).2 := by
  unfold State.addDeny
  dsimp only
  have hval := store_val s .lists x
  have hscreening := s.store_screening .lists x
  have hstore := store_effect s .lists x
  generalize s.store .lists x = r at hval hscreening hstore ⊢
  obtain ⟨item, t⟩ := r
  dsimp only at *
  refine hstore.step (.lists_of (t := if ((t.setDenylist (insertDeny item t.screening.denylist)).lookupSuspect x.serial).1.isSome = true
    then _ else _) (fun p hp => ?_) fun h => ?_)
  · have hlook := (setDenylist_same t _ p hp).trans
      ((lookupSuspect_effect (t.setDenylist (insertDeny item t.screening.denylist)) x.serial).same p (by simpa using hp))
    split
    · exact hlook.trans (setSuspects_same _ _ p hp)
    · exact hlook
  · obtain ⟨hsorted, -, -, hnodup, hplaces, hapart⟩ := h
    have hperm := insertDeny_perm item t.screening.denylist
    have hdeny : ((t.setDenylist (insertDeny item t.screening.denylist)).lookupSuspect x.serial).2.screening.denylist
        = insertDeny item t.screening.denylist := (lookupSuspect_denylist _ _).1
    have hok : ((t.setDenylist (insertDeny item t.screening.denylist)).lookupSuspect x.serial).2.screening.denyValid = true :=
      (lookupSuspect_denylist _ _).2.trans (by simpa [hscreening] using hvalid)
    have hsub : ((t.setDenylist (insertDeny item t.screening.denylist)).lookupSuspect x.serial).2.screening.suspects.Sublist
        t.screening.suspects := by
      unfold State.lookupSuspect
      split
      · exact .refl _
      · dsimp only
        split
        · simp only [State.setSuspects, State.noteRead_screening]
          exact List.filter_sublist
        · simp [State.setDenylist]
    have habsent := lookupSuspect_absent (s := t.setDenylist (insertDeny item t.screening.denylist)) (ser := x.serial)
    generalize (t.setDenylist (insertDeny item t.screening.denylist)).lookupSuspect x.serial = r at hdeny hok hsub habsent ⊢
    obtain ⟨held, u⟩ := r
    dsimp only at *
    have sound (xs : List (Stored SuspectEntry)) (hxs : xs.Sublist u.screening.suspects)
        (hgone : ∀ y ∈ xs, y.val.serial ≠ x.serial) : ListsSound (u.setSuspects xs) := by
      have hxs' := hxs.trans hsub
      refine ⟨?_, ?_, fun hinvalid => ?_, hnodup.sublist (hxs'.map _), hxs'.length_le.trans hplaces, fun y hy z hz => ?_⟩
      · simp only [State.setSuspects, hdeny]
        refine insertDeny_sorted hsorted fun y hy => ?_
        rw [hval]
        exact hnew y (by simpa [hscreening] using hy)
      · have hlength := hperm.length_eq
        simp only [State.setSuspects, hdeny]
        rw [hlength, List.length_cons, hscreening]
        omega
      · simp only [State.setSuspects, hok] at hinvalid
        cases hinvalid
      · simp only [State.setSuspects, hdeny, hperm.mem_iff, List.mem_cons] at hy
        rcases hy with rfl | hy
        · rw [hval]
          exact (hgone z hz).symm
        · exact hapart y hy z (hxs'.subset hz)
    split
    next => exact sound _ List.filter_sublist (by simp [withoutSuspect])
    next hheld => exact sound u.screening.suspects (.refl _) (habsent (by simpa using hheld))

theorem updateDeny_effect (s : State) (x : DenyEntry) : Effect [.lists] s (s.updateDeny x) := by
  unfold State.updateDeny
  dsimp only
  have hval := store_val s .lists x
  have hstore := store_effect s .lists x
  generalize s.store .lists x = r at hval hstore ⊢
  obtain ⟨item, t⟩ := r
  dsimp only at *
  refine hstore.step (.lists_of (setDenylist_same t _) fun ⟨hsorted, hroom, hvalid, hnodup, hplaces, hapart⟩ => ?_)
  have hserial (e : Stored DenyEntry) : (if e.val.serial = x.serial then item else e).val.serial = e.val.serial := by
    split
    next h => rw [hval, h]
    next => rfl
  refine ⟨?_, by simpa [State.setDenylist] using hroom, fun h => by simp [State.setDenylist, hvalid h], hnodup, hplaces, fun y hy z hz => ?_⟩
  · simpa [State.setDenylist, Function.comp_def, hserial] using hsorted
  · obtain ⟨e, he, rfl⟩ := List.mem_map.mp hy
    rw [hserial]
    exact hapart e he z hz

theorem takeDenyItems_effect (s : State) (items : List DenyItem) (n : DenyCounts) :
    Effect [.lists] s (s.takeDenyItems items n).2 := by
  induction items generalizing s n with
  | nil => exact .refl _ _
  | cons x xs ih =>
    unfold State.takeDenyItems
    dsimp only
    have hlook := lookupDeny_effect s x.serial
    split
    next => exact hlook
    next hvalid =>
      split
      next => exact (hlook.trans (updateDeny_effect _ _)).trans (ih _ _)
      next hheld =>
        split
        next hroom =>
          refine (hlook.trans (addDeny_effect (by simpa using hvalid) hroom ?_)).trans (ih _ _)
          exact lookupDeny_absent (by simpa using hheld)
        next => exact hlook

/-- A denylist whose damage a lookup has found is empty. -/
theorem lookupDeny_lost {s : State} {ser : Serial} (hs : s.screening.denyValid = true)
    (h : (s.lookupDeny ser).2.screening.denyValid = false) : (s.lookupDeny ser).2.screening.denylist = [] := by
  unfold State.lookupDeny at h ⊢
  split at h
  next => rw [hs] at h; cases h
  next =>
    dsimp only at h ⊢
    split at h
    next hbits => simp [hbits]
    next => simp [hs] at h

theorem updateDeny_valid (s : State) (x : DenyEntry) : (s.updateDeny x).screening.denyValid = s.screening.denyValid := by
  simp [State.updateDeny]

theorem addDeny_valid (s : State) (x : DenyEntry) : (s.addDeny x).2.screening.denyValid = s.screening.denyValid := by
  unfold State.addDeny
  dsimp only
  split
  · rw [State.setSuspects_screening]
    exact (lookupSuspect_denylist _ _).2.trans (by simp)
  · exact (lookupSuspect_denylist _ _).2.trans (by simp)

/-- A DENY ADD that ends on a damaged list leaves it empty (R33). -/
theorem takeDenyItems_lost {s : State} (hs : s.screening.denyValid = true) (items : List DenyItem) (n : DenyCounts)
    (h : (s.takeDenyItems items n).1 = none) : (s.takeDenyItems items n).2.screening.denylist = [] := by
  induction items generalizing s n with
  | nil => cases h
  | cons x xs ih =>
    unfold State.takeDenyItems at h ⊢
    dsimp only at h ⊢
    have hlost := lookupDeny_lost (ser := x.serial) hs
    split at h
    next hvalid =>
      rw [if_pos hvalid]
      exact hlost (by simpa using hvalid)
    next hvalid =>
      rw [if_neg hvalid]
      have hvalid' : (s.lookupDeny x.serial).2.screening.denyValid = true := by simpa using hvalid
      split at h
      next hheld =>
        rw [if_pos hheld]
        exact ih ((updateDeny_valid _ _).trans hvalid') _ h
      next hheld =>
        rw [if_neg hheld]
        split at h
        next hroom =>
          rw [if_pos hroom]
          exact ih ((addDeny_valid _ _).trans hvalid') _ h
        next => cases h

theorem removeDenySerials_effect (s : State) (xs : List Serial) (r n : Nat) :
    Effect [.lists] s (s.removeDenySerials xs r n).2 := by
  induction xs generalizing s r n with
  | nil => exact .refl _ _
  | cons x xs ih =>
    unfold State.removeDenySerials
    dsimp only
    have hlook := lookupDeny_effect s x
    split
    · exact hlook
    · split
      · exact (hlook.trans (setDenylist_effect List.filter_sublist)).trans (ih _ _ _)
      · exact hlook.trans (ih _ _ _)

theorem readSuspects_left (n : Nat) (xs : List (Stored SuspectEntry)) : (readSuspects n xs).left.Sublist xs := by
  induction xs generalizing n with
  | nil => cases n <;> exact .refl _
  | cons x xs ih =>
    cases n with
    | zero => exact .refl _
    | succ n =>
      unfold readSuspects
      split
      · exact (ih n).cons_cons x
      · exact (ih n).cons_cons x
      · exact (ih (n + 1)).cons x

theorem suspectPage_effect (s : State) (position count : Nat) : Effect [.lists] s (s.suspectPage position count).2 := by
  unfold State.suspectPage
  refine (setSuspects_effect ?_).step (noteFindings_effect _ _ _ _)
  have h := (readSuspects_left count (s.screening.suspects.drop position)).append_left (s.screening.suspects.take position)
  rwa [List.take_append_drop] at h

end Sys2Proof.Machine

end

/-! ## What the operations of a transaction may change -/

section

-- Proofs are checked in order: as one text the file would otherwise hold more waiting proofs than the check has memory for.
set_option Elab.async false

namespace Sys2Proof.Machine

/-! ### The end of a transaction -/

/-- The parts a lane's transaction can change before its COMMIT and at its end. -/
def endParts (l : Lane) : List Part := [.tap l, .gate l, .records]

/-- The parts a lane's transaction can change before its COMMIT. -/
def beforeParts (l : Lane) : List Part := [.tap l, .gate l, .records, .reservation l, .lists]

/-- The parts a lane's transaction can change. -/
def tapParts (l : Lane) : List Part := [.tap l, .gate l, .records, .reservation l, .lists, .header l]

theorem endParts_subset_before (l : Lane) : endParts l ⊆ beforeParts l := by simp [endParts, beforeParts]

theorem beforeParts_subset (l : Lane) : beforeParts l ⊆ tapParts l := by simp [beforeParts, tapParts]

theorem endParts_subset (l : Lane) : endParts l ⊆ tapParts l := by simp [endParts, tapParts]

theorem Effect.inBefore {ps : List Part} {l : Lane} {s t : State} (h : Effect ps s t) (hps : ps ⊆ beforeParts l := by simp [beforeParts]) :
    Effect (beforeParts l) s t := h.mono hps

theorem Effect.inTap {ps : List Part} {l : Lane} {s t : State} (h : Effect ps s t) (hps : ps ⊆ tapParts l := by simp [tapParts]) :
    Effect (tapParts l) s t := h.mono hps

theorem Effect.inEnd {ps : List Part} {l : Lane} {s t : State} (h : Effect ps s t) (hps : ps ⊆ endParts l := by simp [endParts]) :
    Effect (endParts l) s t := h.mono hps

theorem countResult_credits (p : Passages) (code : ResultCode) (h : CreditsSound p) :
    CreditsSound { p with stats := p.stats.countResult code } := by
  unfold Stats.countResult
  split <;> exact h

theorem endTap_effect (s : State) (l : Lane) (code : ResultCode) (charge : Option Nat) (purse : Option Int) :
    Effect (endParts l) s (s.endTap l code charge purse) := by
  unfold State.endTap
  dsimp only
  have hcount := (takeResult_effect s l code charge purse).seq
    (modGate_safe _ l (fun p => { p with stats := p.stats.countResult code }) (countResult_credits _ code) fun hs => hs.2)
  have hend := (hcount.seq (modTap_effect _ l (fun t => t.ended code) (.inr rfl))).inEnd (l := l)
  generalize (((s.takeResult l code charge purse).modGate l fun p => { p with stats := p.stats.countResult code }).modTap l
    fun t => t.ended code) = t at hend ⊢
  exact (hend.trans (Effect.ite (trySwitch_effect _).inEnd (.refl _ _))).trans (drainCheck_effect _ l).inEnd

theorem endUnchanged_effect (s : State) (l : Lane) (code : ResultCode) : Effect (endParts l) s (s.endUnchanged l code) :=
  endTap_effect s l code _ _

theorem abortTap_effect (s : State) (l : Lane) (code : ResultCode) : Effect (beforeParts l) s (s.abortTap l code) :=
  (releaseReservation_effect s l).step (endUnchanged_effect _ l code) (by simp [beforeParts]) (endParts_subset_before l)

/-! ### The in-doubt list -/

theorem setDoubt_effect (s : State) (xs : List (Stored DoubtEntry)) : Effect [] s (s.setDoubt xs) :=
  .unseen rfl rfl rfl rfl rfl rfl

theorem setHeader_effect (s : State) (l : Lane) (k : Option ChangeKind) : Effect [.header l] s (s.setHeader l k) where
  same p hp := by
    cases p
    case header m => exact PerLane.get_set_other _ (by rintro rfl; simp at hp) _
    all_goals simp [Part.Same]
  room := id
  credits _ := id
  lists := id
  cards := id
  queue := id

theorem recordDamagedEntry_effect (s : State) : Effect [.records] s s.recordDamagedEntry := appendUnreserved_effect _ _ _

theorem removeDoubt_effect (s : State) (ser : Serial) : Effect [] s (s.removeDoubt ser) := setDoubt_effect _ _

theorem abandon_effect (s : State) (e : DoubtEntry) : Effect [.records] s (s.abandon e) :=
  ((removeDoubt_effect s e.serial).seq (appendUnreserved_effect _ _ _)).step (raise_effect _ _)

/-- A damaged entry is read, removed and recorded (R115). -/
theorem loseEntry_effect (s : State) (i : Integrity) (ser : Serial) :
    Effect [.records] s (((s.noteRead .lists i).removeDoubt ser).recordDamagedEntry) :=
  ((noteRead_effect s .lists i).seq (removeDoubt_effect _ ser)).step (recordDamagedEntry_effect _)

theorem abandonOldest_effect (s : State) (es : List (Stored DoubtEntry)) : Effect [.records] s (s.abandonOldest es) := by
  induction es generalizing s with
  | nil => exact .refl _ _
  | cons e es ih =>
    unfold State.abandonOldest
    dsimp only
    split
    · exact (loseEntry_effect s e.bits e.val.serial).trans (ih _)
    · split
      · exact (noteRead_effect _ _ _).step (abandon_effect _ _)
      · exact (noteRead_effect _ _ _).step (ih _)

theorem makeDoubtRoom_effect (s : State) : Effect [.records] s s.makeDoubtRoom := .ite (.refl _ _) (abandonOldest_effect _ _)

theorem addDoubt_effect (s : State) (e : DoubtEntry) : Effect [] s (s.addDoubt e) := by
  unfold State.addDoubt
  exact (store_effect s .lists e).step (setDoubt_effect _ _)

theorem writeProvisional_effect (s : State) (l : Lane) (ser : Serial) (w : CommitWork) :
    Effect [.records, .header l] s (s.writeProvisional l ser w) :=
  ((makeDoubtRoom_effect s).seq (addDoubt_effect _ _)).step (setHeader_effect _ l _)

theorem readProvisional_effect (s : State) (l : Lane) : Effect [.records] s (s.readProvisional l).2 := by
  unfold State.readProvisional
  split
  · exact .refl _ _
  · dsimp only
    split
    · exact loseEntry_effect _ _ _
    · exact (noteRead_effect _ _ _).mono (by simp)

theorem removeProvisional_effect (s : State) (l : Lane) : Effect [] s (s.removeProvisional l) := setDoubt_effect _ _

/-! ### The three outcomes of a COMMIT -/

theorem settleCredit_effect (s : State) (l : Lane) (ser : Serial) (code : ResultCode) (charge : Nat) (purse : Int) :
    Effect (endParts l) s (s.settleCredit l ser code charge purse) :=
  .ite (endTap_effect _ _ _ _ _) ((grantCredit_effect s l ser).inEnd.trans (endTap_effect _ _ _ _ _))

theorem settleConfirmed_effect (s : State) (l : Lane) (ser : Serial) (w : CommitWork) :
    Effect (endParts l) s (s.settleConfirmed l ser w) := by
  unfold State.settleConfirmed
  split
  · exact settleCredit_effect _ _ _ _ _ _
  · exact endTap_effect _ _ _ _ _
  · exact endTap_effect _ _ _ _ _

/-- The entry and the mark of a settled commit go (R103, R106). -/
theorem settleEntry_effect (s : State) (l : Lane) :
    Effect [.records, .header l] s (((s.readProvisional l).2.removeProvisional l).setHeader l none) :=
  ((readProvisional_effect s l).seq (removeProvisional_effect _ l)).step (setHeader_effect _ l none)

theorem confirm_effect (s : State) (l : Lane) (w : CommitWork) (counter : Nat) : Effect (tapParts l) s (s.confirm l w counter) :=
  (((settleEntry_effect s l).seq (appendReserved_effect _ l _ _)).seq (cardUpdate_effect _ l _ _ _ _)).step
    (settleConfirmed_effect _ l _ w) (by simp [tapParts]) (endParts_subset l)

theorem refuse_effect (s : State) (l : Lane) (w : CommitWork) (exhausted : Bool) : Effect (tapParts l) s (s.refuse l w exhausted) :=
  ((settleEntry_effect s l).seq (releaseReservation_effect _ l)).step (endUnchanged_effect _ l _)
    (by simp [tapParts]) (endParts_subset l)

theorem openProvisional_effect (s : State) (l : Lane) (e : DoubtEntry) : Effect [] s (s.openProvisional l e) := by
  unfold State.openProvisional
  exact (store_effect s .lists e).step (setDoubt_effect _ _)

theorem tearEntry_effect (s : State) (l : Lane) (ser : Serial) (w : CommitWork) (record : JournalRecord) :
    Effect [.records, .reservation l] s (s.tearEntry l ser w record) := by
  unfold State.tearEntry
  dsimp only
  have hread := readProvisional_effect s l
  split
  · exact (hread.seq (appendReserved_effect _ l _ _)).step (openProvisional_effect _ _ _)
  · exact ((hread.seq (makeDoubtRoom_effect _)).seq (appendReserved_effect _ l _ _)).step (addDoubt_effect _ _)

theorem tear_effect (s : State) (l : Lane) (w : CommitWork) (bad : Bool) : Effect (tapParts l) s (s.tear l w bad) :=
  ((tearEntry_effect s l _ w _).seq (setHeader_effect _ l none)).step (endUnchanged_effect _ l .inDoubt)
    (by simp [tapParts]) (endParts_subset l)

/-! ### Resolution -/

theorem lookupDoubt_effect (s : State) (ser : Serial) (es : List (Stored DoubtEntry)) :
    Effect [.records] s (s.lookupDoubt ser es).2 := by
  induction es generalizing s with
  | nil => exact .refl _ _
  | cons e es ih =>
    unfold State.lookupDoubt
    dsimp only
    split
    · split
      · exact (loseEntry_effect s e.bits ser).trans (ih _)
      · exact (noteRead_effect _ _ _).mono (by simp)
    · exact ih _

theorem resolve_effect (s : State) (l : Lane) (c : CardImage) (e : DoubtEntry) : Effect [.records] s (s.resolve l c e) := by
  unfold State.resolve
  have hrecord := (removeDoubt_effect s e.serial).step (appendUnreserved_effect _ .mandatory
    { JournalRecord.blank (findingKind (findingOf c e)) (some l) with serial := some c.serial, counter := some c.counter, detail := some (.named (changeDetail e.change)), reference := e.sequence })
    (rs := [.records])
  exact .ite hrecord (hrecord.step (cardUpdate_effect _ _ _ _ _ _))

theorem readWindow_effect (s : State) (i : AreaId) : Effect [] s (s.readWindow i).2 := by
  unfold State.readWindow
  dsimp only
  split
  · exact noteBank_effect _ _ _
  · exact (noteBank_effect _ _ _).step (.unseen rfl rfl rfl rfl rfl rfl)

theorem testResume_effect (s : State) (l : Lane) (e : DoubtEntry) : Effect [] s (s.testResume l e).2 := by
  unfold State.testResume
  split
  · split
    · exact .refl _ _
    · exact readWindow_effect _ _
  · exact .refl _ _

theorem resolutionStep_effect (s : State) (l : Lane) (c : CardImage) : Effect (endParts l) s (s.resolutionStep l c) := by
  unfold State.resolutionStep
  dsimp only
  have hlook := lookupDoubt_effect s c.serial s.doubt.entries
  have goOn {t : State} (h : Effect [.records] s t) : Effect (endParts l) s (t.modTap l fun t => { t with stage := some .screening }) :=
    (h.seq (modTap_effect t l _ (.inl rfl))).inEnd
  split
  · exact goOn hlook
  · split
    next e _ _ =>
      have hresume := (hlook.trans (resolve_effect _ l c e)).step (testResume_effect _ l e) (rs := [.records])
      split
      · exact hresume.inEnd.trans (settleCredit_effect _ _ _ _ _ _)
      · exact goOn hresume
    next e _ _ => exact goOn (hlook.trans (resolve_effect _ l c e))

/-! ### The card dialogue -/

theorem handExchange_effect (s : State) (l : Lane) (e : Exchange) : Effect [.tap l] s (s.handExchange l e) := by
  unfold State.handExchange
  exact modTap_effect s l _ (.inl rfl)

theorem endExchange_effect (s : State) (l : Lane) : Effect [.tap l] s (s.endExchange l) := modTap_effect s l _ (.inl rfl)

theorem setField_effect (s : State) (l : Lane) (present : Bool) : Effect [.tap l] s (s.setField l present) :=
  modTap_effect s l _ (.inl rfl)

theorem exchangeFails_effect (s : State) (l : Lane) : Effect (tapParts l) s (s.exchangeFails l) := by
  unfold State.exchangeFails
  dsimp only
  have hend := (endUnchanged_effect s l .tapAgain).mono (endParts_subset l)
  split
  · exact hend
  · exact hend
  · exact hend
  · split
    · exact tear_effect _ _ _ _
    · exact .refl _ _
  all_goals exact .refl _ _

theorem exchangeTimeout_effect (s : State) (l : Lane) : Effect (tapParts l) s (s.exchangeTimeout l) :=
  .ite (exchangeFails_effect s l) (.refl _ _)

theorem admission_effect (s : State) (l : Lane) : Effect [] s (s.admission l).2 := by
  unfold State.admission
  dsimp only
  split
  · exact .refl _ _
  · split
    · exact .refl _ _
    · exact readinessRead_effect s

theorem startTap_effect (s : State) (l : Lane) : Effect [.tap l] s (s.startTap l) :=
  (modTap_effect s l _ (.inl rfl)).trans (handExchange_effect _ l _)

theorem tryTap_effect (s : State) (l : Lane) : Effect (endParts l) s (s.tryTap l) := by
  unfold State.tryTap
  dsimp only
  have hadmit := (admission_effect s l).inEnd (l := l)
  exact .ite (hadmit.trans (endUnchanged_effect _ _ _)) (.ite (hadmit.trans (endUnchanged_effect _ _ _))
    (hadmit.trans (startTap_effect _ l).inEnd))

theorem cardPresent_effect (s : State) (l : Lane) : Effect (endParts l) s (s.cardPresent l) := by
  unfold State.cardPresent
  have hfield := (setField_effect s l true).inEnd (l := l)
  exact .ite (hfield.trans (tryTap_effect _ l)) hfield

theorem multipleCards_effect (s : State) (l : Lane) : Effect (beforeParts l) s (s.multipleCards l) := by
  unfold State.multipleCards
  dsimp only
  have hfield := (setField_effect s l true).inBefore (l := l)
  have habort := hfield.trans (abortTap_effect _ l .multipleCards)
  split
  · exact hfield
  · split
    · exact (hfield.trans (admission_effect _ l).inBefore).trans ((endUnchanged_effect _ l _).mono (endParts_subset_before l))
    · exact habort
    · exact habort
    · exact habort
    · exact habort
    all_goals exact hfield

theorem fieldEmpty_effect (s : State) (l : Lane) : Effect (tapParts l) s (s.fieldEmpty l) := by
  unfold State.fieldEmpty
  dsimp only
  have hfield := (setField_effect s l false).inTap (l := l)
  have habort := hfield.trans ((abortTap_effect _ l .tapAgain).mono (beforeParts_subset l))
  split
  · exact hfield
  · split
    · exact hfield
    · exact habort
    · exact habort
    · exact habort
    · exact habort
    · exact hfield.trans (exchangeFails_effect _ l)
    · exact hfield.trans (modTap_effect _ l _ (.inl rfl)).inTap

/-- A serial that no other lane holds goes in flight at a lane (R12). -/
theorem lockCard_effect {s : State} {l : Lane} {ser : Serial} (hfree : s.lockedElsewhere l ser = false) :
    Effect [.tap l] s (s.modTap l fun t => { t with inFlight := some ser }) := by
  refine modTap_effect_of fun hcards k m x hk hm => ?_
  have hother (j : Lane) (hj : j ≠ l) : (s.tap j).inFlight ≠ some ser := by
    simp only [State.lockedElsewhere, List.any_eq_false, Bool.and_eq_true, bne_iff_ne, beq_iff_eq, not_and] at hfree
    exact hfree j (by fin_cases j <;> simp [allLanes]) hj
  by_cases hkl : k = l <;> by_cases hml : m = l
  · rw [hkl, hml]
  · subst hkl
    rw [State.modTap_tap] at hk
    rw [State.modTap_tap_other s hml] at hm
    exact absurd (hm.trans hk.symm) (hother m hml)
  · subst hml
    rw [State.modTap_tap] at hm
    rw [State.modTap_tap_other s hkl] at hk
    exact absurd (hk.trans hm.symm) (hother k hkl)
  · rw [State.modTap_tap_other s hkl] at hk
    rw [State.modTap_tap_other s hml] at hm
    exact hcards k m x hk hm

theorem startAuthenticate_effect (s : State) (l : Lane) (k : Key) (ser : Serial) :
    Effect [.tap l] s (s.startAuthenticate l k ser) := by
  unfold State.startAuthenticate
  have hdraw : Effect [] s { s with draws := s.draws + 1 } := .unseen rfl rfl rfl rfl rfl rfl
  exact (hdraw.seq (modTap_effect _ l _ (.inl rfl))).step (handExchange_effect _ l _)

theorem identified_effect (s : State) (l : Lane) (a : IdentifyAnswer) : Effect (endParts l) s (s.identified l a) := by
  unfold State.identified
  dsimp only
  have hknown := ((endExchange_effect s l).trans (modTap_effect _ l (fun t => { t with ident := some a }) (.inl rfl))).inEnd (l := l)
  split
  · exact hknown.trans (endUnchanged_effect _ _ _)
  · split
    next => exact hknown.trans (endUnchanged_effect _ _ _)
    next hfree =>
      have hlocked := hknown.trans (lockCard_effect (by simpa using hfree)).inEnd
      split
      · exact hlocked.trans (endUnchanged_effect _ _ _)
      · split
        · exact hlocked.trans (endUnchanged_effect _ _ _)
        · exact hlocked.trans (startAuthenticate_effect _ l _ _).inEnd

theorem authFailed_effect (s : State) (l : Lane) (what : DetailName) : Effect (endParts l) s (s.authFailed l what) :=
  (appendUnreserved_effect s _ _).inEnd.trans (endUnchanged_effect _ _ _)

theorem authenticated_effect (s : State) (l : Lane) (response : Check) : Effect (endParts l) s (s.authenticated l response) := by
  unfold State.authenticated
  dsimp only
  have hended := (endExchange_effect s l).inEnd (l := l)
  exact .ite (hended.trans ((modTap_effect _ l _ (.inl rfl)).trans (handExchange_effect _ l _)).inEnd)
    (hended.trans (authFailed_effect _ l _))

theorem imageRead_effect (s : State) (l : Lane) (r : RawImage) (proof : Check) : Effect (endParts l) s (s.imageRead l r proof) := by
  unfold State.imageRead
  dsimp only
  have hended := (endExchange_effect s l).inEnd (l := l)
  have htaken := hended.trans (modTap_effect _ l (fun t => { t with
    phase := .evaluating, image := some (decodeImage r), stage := some .resolution }) (.inl rfl)).inEnd
  exact .ite (hended.trans (authFailed_effect _ l _)) (.ite (hended.trans (endUnchanged_effect _ _ _))
    (.ite htaken (htaken.trans (endUnchanged_effect _ _ _))))

/-! ### Evaluation and the commit point -/

theorem commitDue_effect (s : State) (l : Lane) (w : CommitWork) : Effect (endParts l) s (s.commitDue l w) :=
  .ite (modTap_effect s l _ (.inl rfl)).inEnd (endUnchanged_effect _ _ _)

theorem passback_effect (s : State) (kind : TxKind) (bank : AreaId) (w : Written) : Effect [] s (s.passback kind bank w).2 := by
  unfold State.passback
  split
  · exact .refl _ _
  · exact readWindow_effect s bank

theorem emergencyScreened_effect (s : State) (l : Lane) (bank : AreaId) (c : CardImage) (a : ScreenAnswer) :
    Effect (endParts l) s (s.emergencyScreened l bank c a) :=
  .ite (commitDue_effect _ _ _) (endUnchanged_effect _ _ _)

theorem gateScreened_effect (s : State) (l : Lane) (kind : TxKind) (bank : AreaId) (c : CardImage) (a : ScreenAnswer) :
    Effect (endParts l) s (s.gateScreened l kind bank c a) := by
  unfold State.gateScreened
  split
  · exact endUnchanged_effect _ _ _
  · exact commitDue_effect _ _ _
  · have hpass := (passback_effect s kind bank c.w).inEnd (l := l)
    dsimp only
    exact .ite (hpass.trans (endUnchanged_effect _ _ _)) (hpass.trans (modTap_effect _ l _ (.inl rfl)).inEnd)

theorem screeningStep_effect (s : State) (l : Lane) (kind : TxKind) (bank : AreaId) (c : CardImage) :
    Effect (beforeParts l) s (s.screeningStep l kind bank c) := by
  unfold State.screeningStep
  dsimp only
  have hflag := ((screen_effect s ⟨l, kind, bank, c⟩).seq (modTap_effect _ l
    (fun t => { t with flags := withUnchecked t.flags (s.screen ⟨l, kind, bank, c⟩).2.1 }) (.inl rfl))).inBefore (l := l)
  exact .ite (hflag.trans ((emergencyScreened_effect _ _ _ _ _).mono (endParts_subset_before l)))
    (hflag.trans ((gateScreened_effect _ _ _ _ _ _).mono (endParts_subset_before l)))

theorem fareStep_effect (s : State) (l : Lane) (kind : TxKind) (bank : AreaId) (c : CardImage) :
    Effect (endParts l) s (s.fareStep l kind bank c) := by
  unfold State.fareStep
  dsimp only
  generalize (s.tariff.area bank).bank.fare (kind == .exit) s.settings.station s.clock.time c = r
  have hread := ((noteBank_effect s bank r.tally).trans
    (Effect.ite (c := r.val.2 = true) (raise_effect _ .tariffRuleOverrun) (.refl _ _))).inEnd (l := l)
  split
  · exact hread.trans (endUnchanged_effect _ _ _)
  · exact (hread.trans (modTap_effect _ l _ (.inl rfl)).inEnd).trans (commitDue_effect _ _ _)

theorem sendCommit_effect (s : State) (l : Lane) (w : CommitWork) : Effect (tapParts l) s (s.sendCommit l w) :=
  ((writeProvisional_effect s l _ w).seq (modTap_effect _ l _ (.inl rfl))).step (handExchange_effect _ l _)
    (by simp [tapParts]) (by simp [tapParts])

theorem reservationStep_effect (s : State) (l : Lane) (w : CommitWork) : Effect (tapParts l) s (s.reservationStep l w) := by
  unfold State.reservationStep
  have hplace := (reserve_effect s l (changeClass w.change)).inTap (l := l)
  exact .ite ((endUnchanged_effect _ _ _).mono (endParts_subset l))
    (.ite (hplace.trans (sendCommit_effect _ l w)) (hplace.trans ((endUnchanged_effect _ _ _).mono (endParts_subset l))))

theorem receipt_effect (s : State) (l : Lane) (w : CommitWork) (counter : Nat) (proof : Check) :
    Effect (tapParts l) s (s.receipt l w counter proof) := by
  unfold State.receipt
  have hended := (endExchange_effect s l).inTap (l := l)
  exact .ite (hended.trans (confirm_effect _ l w counter)) (hended.trans (tear_effect _ l w true))

theorem emergencyTap_effect (s : State) (l : Lane) : Effect (beforeParts l) s (s.emergencyTap l) :=
  .ite (abortTap_effect s l .tapAgain) (.refl _ _)

theorem waitLane_effect (s : State) (l : Lane) : Effect (beforeParts l) s (s.waitLane l) :=
  .ite (abortTap_effect s l .tapAgain) (.refl _ _)

end Sys2Proof.Machine

end

/-! ## What every command keeps -/

section

-- Proofs are checked in order: as one text the file would otherwise hold more waiting proofs than the check has memory for.
set_option Elab.async false

namespace Sys2Proof.Machine

/-! ### Places promised -/

/-- A lane marked PROVISIONAL is in COMMITTING with its reservation (R99, R195). -/
def PromiseAt (s : State) (l : Lane) : Prop :=
  (s.doubt.header.get l).isSome = true → (s.tap l).phase = .committing ∧ (s.journal.reservations.get l).isSome = true

theorem outstanding_eq (j : Journal) : j.outstanding = allLanes.countP fun l => (j.reservations.get l).isSome := by
  simp [Journal.outstanding, allLanes, PerLane.toList, PerLane.get, List.countP_cons]

theorem taken_le_owes (s : State) : s.journal.taken ≤ Doubt.owes s := by
  rw [Journal.taken, outstanding_eq, Doubt.owes]
  exact Nat.add_le_add_left (List.countP_mono_left fun l _ h => by simp_all) _

/-- Once every mark of the LISTS header has its reservation, the places owed are the places taken. -/
theorem owes_eq_taken {s : State} (h : ∀ l, (s.doubt.header.get l).isSome = true → (s.journal.reservations.get l).isSome = true) :
    Doubt.owes s = s.journal.taken := by
  rw [Journal.taken, outstanding_eq, Doubt.owes]
  congr 1
  refine List.countP_congr fun l _ => ?_
  have := h l
  simp only [Bool.or_eq_true]
  tauto

theorem placesSound_running {s : State} (hrunning : s.phase = .running) :
    PlacesSound s ↔ s.journal.taken ≤ 2048 ∧ ∀ l, PromiseAt s l := by
  refine ⟨fun ⟨howes, hpromise⟩ => ⟨(taken_le_owes s).trans howes, fun l => hpromise hrunning l⟩, fun ⟨htaken, hpromise⟩ => ⟨?_, fun _ => hpromise⟩⟩
  rwa [owes_eq_taken fun l hl => (hpromise l hl).2]

theorem owes_mono {s t : State} (hrecords : t.journal.records.length ≤ s.journal.records.length)
    (hlanes : ∀ l, (t.journal.reservations.get l).isSome = true ∨ (t.doubt.header.get l).isSome = true →
      (s.journal.reservations.get l).isSome = true ∨ (s.doubt.header.get l).isSome = true) : Doubt.owes t ≤ Doubt.owes s :=
  Nat.add_le_add hrecords (List.countP_mono_left fun l _ h => by simpa using hlanes l (by simpa using h))

/-! ### Kept by every command -/

/-- What every command keeps of the credits, the lists, the serials in flight and the receive queue. -/
structure Held (s t : State) : Prop where
  credits (l : Lane) : CreditsSound (s.gate l) → CreditsSound (t.gate l)
  lists : ListsSound s → ListsSound t
  cards : OneLanePerCard s → OneLanePerCard t
  queue : s.link.queue.length ≤ 4 → t.link.queue.length ≤ 4

theorem Held.trans {s t u : State} (h : Held s t) (h' : Held t u) : Held s u :=
  ⟨fun l => h'.credits l ∘ h.credits l, h'.lists ∘ h.lists, h'.cards ∘ h.cards, h'.queue ∘ h.queue⟩

/-- What every command keeps. -/
structure Kept (s t : State) : Prop extends Held s t where
  places : PlacesSound s → PlacesSound t
  leaves : (∀ l, CreditsSound (s.gate l)) → (s.phase = .running → ∀ l, LeavesSound (s.gate l)) →
    t.phase = .running → ∀ l, LeavesSound (t.gate l)

theorem Kept.refl (s : State) : Kept s s := ⟨⟨fun _ => id, id, id, id⟩, id, fun _ => id⟩

theorem Kept.trans {s t u : State} (h : Kept s t) (h' : Kept t u) : Kept s u :=
  ⟨h.toHeld.trans h'.toHeld, h'.places ∘ h.places, fun hc hs => h'.leaves (fun l => h.credits l (hc l)) (h.leaves hc hs)⟩

theorem Effect.held {ps : List Part} {s t : State} (h : Effect ps s t) : Held s t := ⟨h.credits, h.lists, h.cards, h.queue⟩

/-- An operation that keeps the phase, the safety of every lane's leaves and the places promised. -/
theorem Effect.kept {ps : List Part} {s t : State} (h : Effect ps s t) (places : PlacesSound s → PlacesSound t)
    (hphase : Part.phase ∉ ps) (hleaves : ∀ l, Part.leaves l ∉ ps) : Kept s t :=
  ⟨h.held, places, fun hc hs ht l => (h.same (.leaves l) (hleaves l) ⟨hc l, hs ((h.same .phase hphase).symm.trans ht) l⟩).2⟩

theorem Kept.ite {s t u : State} {c : Prop} [Decidable c] (ht : c → Kept s t) (hu : ¬c → Kept s u) : Kept s (if c then t else u) := by
  split
  next h => exact ht h
  next h => exact hu h

/-- A command in service that a condition turns into nothing. -/
theorem Kept.when {s t : State} {c : Prop} [Decidable c] (ht : c → Kept s t) : Kept s (if c then t else s) :=
  .ite ht fun _ => .refl s

/-- The parts that no promise of a place rests on. -/
def quietParts : List Part := [.link, .lists, .records] ++ allLanes.map .gate

theorem mem_allLanes (l : Lane) : l ∈ allLanes := by
  fin_cases l <;> simp [allLanes]

theorem gate_mem_quietParts (l : Lane) : Part.gate l ∈ quietParts := by
  simp [quietParts, mem_allLanes]

theorem Effect.inQuiet {ps : List Part} {s t : State} (h : Effect ps s t)
    (hps : ps ⊆ quietParts := by simp [quietParts, mem_allLanes]) : Effect quietParts s t := h.mono hps

/-- A command that no promise rests on, in service or taking no record. -/
theorem Effect.quiet_kept {s t : State} (h : Effect quietParts s t)
    (hrecords : s.phase = .running ∨ t.journal.records = s.journal.records) : Kept s t := by
  refine h.kept (fun hs => ?_) (by simp [quietParts]) (by simp [quietParts])
  have hphase : t.phase = s.phase := h.same .phase (by simp [quietParts])
  have hheader (l : Lane) : t.doubt.header.get l = s.doubt.header.get l := h.same (.header l) (by simp [quietParts])
  have hreserved (l : Lane) : t.journal.reservations.get l = s.journal.reservations.get l :=
    h.same (.reservation l) (by simp [quietParts])
  have htap (l : Lane) : t.tap l = s.tap l := h.same (.tap l) (by simp [quietParts])
  rcases hrecords with hrunning | hrecords
  · obtain ⟨htaken, hpromise⟩ := (placesSound_running hrunning).mp hs
    refine (placesSound_running (hphase.trans hrunning)).mpr ⟨h.room htaken, fun l => ?_⟩
    unfold PromiseAt
    rw [hheader, hreserved, htap]
    exact hpromise l
  · obtain ⟨howes, hpromise⟩ := hs
    refine ⟨(owes_mono (by rw [hrecords]) fun l hl => ?_).trans howes, fun hrunning l hl => ?_⟩
    · rwa [hheader, hreserved] at hl
    · rw [hreserved, htap]
      rw [hheader] at hl
      exact hpromise (hphase ▸ hrunning) l hl

/-- A step of a lane's transaction that keeps the lane's promise. -/
structure Transact (l : Lane) (s t : State) : Prop where
  effect : Effect (tapParts l) s t
  promise : PromiseAt s l → PromiseAt t l

theorem Transact.refl (l : Lane) (s : State) : Transact l s s := ⟨.refl _ _, id⟩

theorem Transact.places {l : Lane} {s t : State} (h : Transact l s t) (hrunning : s.phase = .running) (hs : PlacesSound s) :
    PlacesSound t := by
  obtain ⟨htaken, hpromise⟩ := (placesSound_running hrunning).mp hs
  have hphase : t.phase = s.phase := h.effect.same .phase (by simp [tapParts])
  refine (placesSound_running (hphase.trans hrunning)).mpr ⟨h.effect.room htaken, fun k => ?_⟩
  by_cases hkl : k = l
  · rw [hkl]
    exact h.promise (hpromise l)
  · have hheader : t.doubt.header.get k = s.doubt.header.get k := h.effect.same (.header k) (by simpa [tapParts] using hkl)
    have hreserved : t.journal.reservations.get k = s.journal.reservations.get k :=
      h.effect.same (.reservation k) (by simpa [tapParts] using hkl)
    have htap : t.tap k = s.tap k := h.effect.same (.tap k) (by simpa [tapParts] using hkl)
    unfold PromiseAt
    rw [hheader, hreserved, htap]
    exact hpromise k

theorem Transact.kept {l : Lane} {s t : State} (h : Transact l s t) (hrunning : s.phase = .running) : Kept s t :=
  h.effect.kept (h.places hrunning) (by simp [tapParts]) (by simp [tapParts])

/-- A transaction that has not sent its COMMIT has promised nothing. -/
theorem Effect.beforeCommit {l : Lane} {s t : State} (h : Effect (beforeParts l) s t) (hphase : (s.tap l).phase ≠ .committing) :
    Transact l s t where
  effect := h.mono (beforeParts_subset l)
  promise hs ht := by
    have hheader : t.doubt.header.get l = s.doubt.header.get l := h.same (.header l) (by simp [beforeParts])
    exact absurd (hs (hheader ▸ ht)).1 hphase

/-- A commit that is settled promises nothing more. -/
theorem Effect.settled {l : Lane} {s t : State} (h : Effect (tapParts l) s t) (hheader : t.doubt.header.get l = none) :
    Transact l s t where
  effect := h
  promise _ ht := by simp [hheader] at ht

/-! ### The steps of a transaction -/

theorem setHeader_get (s : State) (l : Lane) (k : Option ChangeKind) : (s.setHeader l k).doubt.header.get l = k :=
  PerLane.get_set_self _ _ _

/-- A mark that has been cleared stays cleared. -/
theorem Effect.cleared {ps : List Part} {s t : State} {l : Lane} (h : Effect ps (s.setHeader l none) t) (hps : Part.header l ∉ ps) :
    t.doubt.header.get l = none :=
  (show t.doubt.header.get l = (s.setHeader l none).doubt.header.get l from h.same _ hps).trans (setHeader_get s l none)

theorem confirm_transact (s : State) (l : Lane) (w : CommitWork) (counter : Nat) : Transact l s (s.confirm l w counter) := by
  refine (confirm_effect s l w counter).settled ?_
  exact Effect.cleared ((((appendReserved_effect (((s.readProvisional l).2.removeProvisional l).setHeader l none) l (changeClass w.change)
    (confirmedRecord l (s.tap l) w counter)).seq (cardUpdate_effect _ l ((s.tap l).inFlight.getD 0) counter w.values.purse w.values.trip)).seq
    (settleConfirmed_effect _ l ((s.tap l).inFlight.getD 0) w))) (by simp [endParts])

theorem refuse_transact (s : State) (l : Lane) (w : CommitWork) (exhausted : Bool) : Transact l s (s.refuse l w exhausted) := by
  refine (refuse_effect s l w exhausted).settled ?_
  exact Effect.cleared (((releaseReservation_effect (((s.readProvisional l).2.removeProvisional l).setHeader l none) l).seq
    (endUnchanged_effect _ l (refusedResult exhausted w.change)))) (by simp [endParts])

theorem tear_transact (s : State) (l : Lane) (w : CommitWork) (bad : Bool) : Transact l s (s.tear l w bad) := by
  refine (tear_effect s l w bad).settled ?_
  exact Effect.cleared ((endUnchanged_effect ((s.tearEntry l ((s.tap l).inFlight.getD 0) w (tornRecord l (s.tap l) w bad)).setHeader l none)
    l .inDoubt)) (by simp [endParts])

theorem Transact.trans_before {ps : List Part} {l : Lane} {s t u : State} (h : Effect ps s t)
    (hps : ps ⊆ [.tap l]) (hphase : (t.tap l).phase = (s.tap l).phase) (h' : Transact l t u) : Transact l s u where
  effect := (h.mono (List.Subset.trans hps (by simp [tapParts]))).trans h'.effect
  promise hs hu := by
    have hheader : t.doubt.header.get l = s.doubt.header.get l :=
      h.same (.header l) fun hmem => by simpa using hps hmem
    have hreserved : t.journal.reservations.get l = s.journal.reservations.get l :=
      h.same (.reservation l) fun hmem => by simpa using hps hmem
    refine h'.promise (fun ht => ?_) hu
    rw [hphase, hreserved]
    exact hs (hheader ▸ ht)

theorem exchangeFails_transact (s : State) (l : Lane) : Transact l s (s.exchangeFails l) := by
  unfold State.exchangeFails
  dsimp only
  have hend (h : (s.tap l).phase ≠ .committing) : Transact l s (s.endUnchanged l .tapAgain) :=
    ((endUnchanged_effect s l .tapAgain).mono (endParts_subset_before l)).beforeCommit h
  split
  next h => exact hend (by simp [h])
  next h => exact hend (by simp [h])
  next h => exact hend (by simp [h])
  next =>
    split
    · exact tear_transact s l _ false
    · exact .refl l s
  all_goals exact .refl l s

theorem setField_phase' (s : State) (l : Lane) (present : Bool) : ((s.setField l present).tap l).phase = (s.tap l).phase := by
  simp [State.setField]

theorem setField_transact (s : State) (l : Lane) (present : Bool) : Transact l s (s.setField l present) :=
  .trans_before (setField_effect s l present) (by simp) (setField_phase' s l present) (.refl l _)

/-- A report of the field, and what it starts or ends at a lane whose transaction has not sent its COMMIT. -/
theorem Transact.report {l : Lane} {s t : State} (present : Bool) (h : Transact l (s.setField l present) t) : Transact l s t :=
  .trans_before (setField_effect s l present) (by simp) (setField_phase' s l present) h

theorem abortTap_transact {s : State} {l : Lane} (code : ResultCode) (h : (s.tap l).phase ≠ .committing) :
    Transact l s (s.abortTap l code) := (abortTap_effect s l code).beforeCommit h

theorem cardPresent_transact (s : State) (l : Lane) : Transact l s (s.cardPresent l) := by
  refine .report true ?_
  dsimp only [State.cardPresent]
  split
  next h => exact ((tryTap_effect _ l).mono (endParts_subset_before l)).beforeCommit (by simp [h.2])
  next => exact .refl l _

theorem multipleCards_transact (s : State) (l : Lane) : Transact l s (s.multipleCards l) := by
  refine .report true ?_
  dsimp only [State.multipleCards]
  split
  · exact .refl l _
  · split
    next h =>
      exact ((admission_effect _ l).inBefore.trans ((endUnchanged_effect _ l _).mono (endParts_subset_before l))).beforeCommit
        (by simp [h])
    next h => exact abortTap_transact _ (by simp [h])
    next h => exact abortTap_transact _ (by simp [h])
    next h => exact abortTap_transact _ (by simp [h])
    next h => exact abortTap_transact _ (by simp [h])
    all_goals exact .refl l _

theorem fieldEmpty_transact (s : State) (l : Lane) : Transact l s (s.fieldEmpty l) := by
  refine .report false ?_
  dsimp only [State.fieldEmpty]
  split
  · exact .refl l _
  · split
    · exact .refl l _
    next h => exact abortTap_transact _ (by simp [h])
    next h => exact abortTap_transact _ (by simp [h])
    next h => exact abortTap_transact _ (by simp [h])
    next h => exact abortTap_transact _ (by simp [h])
    · exact exchangeFails_transact _ l
    next h => exact (modTap_effect _ l _ (.inl rfl)).inBefore.beforeCommit (by simp [h])

/-- An answer of the port: as the answer awaited, or as one of another type (R4). -/
theorem takeAnswer_kept (s : State) (l : Lane) (phase : TapPhase) (f : Exchange → Bool) {act : State}
    (hact : (s.tap l).phase = phase → Transact l s act) : Kept s (s.takeAnswer l phase f act) := by
  unfold State.takeAnswer
  refine .ite (fun _ => .refl s) fun hphase => ?_
  have hrunning : s.phase = .running := by simpa using hphase
  refine .ite (fun hawaits => (hact ?_).kept hrunning) fun _ => (exchangeFails_transact s l).kept hrunning
  unfold Tap.awaits at hawaits
  simp_all

theorem takeCommitAnswer_kept (s : State) (l : Lane) {f : CommitWork → State} (hf : ∀ w, Transact l s (f w)) :
    Kept s (s.takeCommitAnswer l f) := by
  unfold State.takeCommitAnswer
  split
  · exact .ite (fun _ => .refl s) fun hphase => (exchangeFails_transact s l).kept (by simpa using hphase)
  · exact takeAnswer_kept s l _ _ fun _ => hf _

theorem whenAwaited_kept (s : State) (l : Lane) (stage : EvalStage) {f : TxKind → AreaId → CardImage → State}
    (hf : ∀ k i c, (s.tap l).phase = .evaluating → Transact l s (f k i c)) : Kept s (s.whenAwaited l stage f) := by
  unfold State.whenAwaited
  refine .when fun ⟨hrunning, hphase, _⟩ => ?_
  split
  · exact (hf _ _ _ hphase).kept hrunning
  · exact .refl s

/-- The entry is written and COMMIT handed to the port against a reservation just made (R21, R99). -/
theorem sendCommit_promise {s : State} {l : Lane} {w : CommitWork} (h : (s.journal.reservations.get l).isSome = true) :
    PromiseAt (s.sendCommit l w) l := fun _ => by
  have hreserved := ((writeProvisional_effect s l ((s.tap l).inFlight.getD 0) w).seq (modTap_effect _ l
    (fun t => { t with phase := .committing, stage := none }) (.inl rfl))).seq (handExchange_effect _ l
    (.commit w.counterBefore w.values (((s.tap l).proof (.commitProof ((s.tap l).inFlight.getD 0) w.counterBefore w.values)).getD 0)))
  refine ⟨by simp [State.sendCommit, State.handExchange], ?_⟩
  have hsame : (s.sendCommit l w).journal.reservations.get l = s.journal.reservations.get l :=
    hreserved.same (.reservation l) (by simp)
  rwa [hsame]

theorem reserve_get {s : State} {l : Lane} {c : AdmissionClass} (h : (s.reserve l c).1 = true) :
    ((s.reserve l c).2.journal.reservations.get l).isSome = true := by
  unfold State.reserve at h ⊢
  dsimp only at h ⊢
  split
  next hroom =>
    have hnote := (noteClosing_effect { s with journal := { s.journal with
      reservations := s.journal.reservations.set l (some c) } } s.journal.taken).same (.reservation l) (by simp)
    dsimp only [Part.Same] at hnote
    rw [hnote]
    simp
  next hroom => rw [if_neg hroom] at h; cases h

theorem reservationStep_transact {s : State} {l : Lane} (w : CommitWork) (hphase : (s.tap l).phase = .evaluating) :
    Transact l s (s.reservationStep l w) := by
  have heffect := reservationStep_effect s l w
  have hne : (s.tap l).phase ≠ .committing := by simp [hphase]
  have hplace := (reserve_effect s l (changeClass w.change)).inBefore (l := l)
  unfold State.reservationStep at heffect ⊢
  dsimp only at heffect ⊢
  split
  next => exact ((endUnchanged_effect s l .notAvailable).mono (endParts_subset_before l)).beforeCommit hne
  next hallowed =>
    rw [if_neg hallowed] at heffect
    split
    next hplaced =>
      rw [if_pos hplaced] at heffect
      exact ⟨heffect, fun _ => sendCommit_promise (reserve_get hplaced)⟩
    next => exact (hplace.trans ((endUnchanged_effect _ l _).mono (endParts_subset_before l))).beforeCommit hne

theorem endExchange_phase' (s : State) (l : Lane) : ((s.endExchange l).tap l).phase = (s.tap l).phase := by
  simp [State.endExchange]

theorem receipt_transact (s : State) (l : Lane) (w : CommitWork) (counter : Nat) (proof : Check) :
    Transact l s (s.receipt l w counter proof) := by
  refine .trans_before (endExchange_effect s l) (by simp) (endExchange_phase' s l) ?_
  dsimp only [State.receipt]
  split
  · exact confirm_transact _ l w counter
  · exact tear_transact _ l w true

theorem refused_transact (s : State) (l : Lane) (w : CommitWork) (exhausted : Bool) :
    Transact l s ((s.endExchange l).refuse l w exhausted) :=
  .trans_before (endExchange_effect s l) (by simp) (endExchange_phase' s l) (refuse_transact _ l w exhausted)

theorem emergencyTap_transact (s : State) (l : Lane) : Transact l s (s.emergencyTap l) := by
  unfold State.emergencyTap
  split
  next h => exact abortTap_transact _ fun hphase => by simp [hphase, beforeCommit] at h
  next => exact .refl l s

theorem waitLane_transact (s : State) (l : Lane) : Transact l s (s.waitLane l) := by
  unfold State.waitLane
  split
  next h => exact abortTap_transact _ fun hphase => by simp [hphase, beforeCommit] at h
  next => exact .refl l s

/-! ### The host link -/

theorem modLink_effect (s : State) (f : Link → Link) (hf : s.link.queue.length ≤ 4 → (f s.link).queue.length ≤ 4) :
    Effect [.link] s (s.modLink f) :=
  .link_of (fun p hp => by cases p <;> first | exact absurd rfl hp | simp [Part.Same]) hf

theorem addReply_effect (s : State) (r : Reply) : Effect [.link] s (s.addReply r) := modLink_effect s _ id

theorem markAnswered_length (qs : List QueuedRequest) : (markAnswered qs).length = qs.length := by
  induction qs with
  | nil => rfl
  | cons q qs ih =>
    unfold markAnswered
    split <;> simp [ih]

theorem markQueue_effect (s : State) : Effect [.link] s (s.modLink fun k => { k with queue := markAnswered k.queue }) :=
  modLink_effect s _ fun h => by simpa [markAnswered_length] using h

theorem answerRequest_effect (s : State) (kind : Byte) (c : Instr) (a : Answer) (beginsWait : Bool) :
    Effect [.link] s (s.answerRequest kind c a beginsWait) := by
  unfold State.answerRequest
  split
  · exact .ite ((markQueue_effect s).trans (addReply_effect _ _)) (addReply_effect _ _)
  · exact addReply_effect _ _

/-- A host request whose block changes nothing that a promise rests on. -/
theorem hostServe_kept (s : State) (kind : Byte) (c : Instr) {work : State → Answer × State}
    (hwork : Effect quietParts s (work s).2) : Kept s (s.hostServe kind c work) := by
  unfold State.hostServe
  split
  next hrunning =>
    refine .when fun _ => ?_
    exact (hwork.trans (answerRequest_effect _ kind c _ false).inQuiet).quiet_kept (.inl hrunning)
  · exact (addReply_effect s _).inQuiet.quiet_kept (.inr rfl)
  all_goals exact .refl s

theorem serveStarting_effect (s : State) : Effect [.link] s s.serveStarting := by
  unfold State.serveStarting
  split
  · exact .ite (.refl _ _) ((markQueue_effect s).trans (addReply_effect _ _))
  · exact .refl _ _

theorem offerRequest_effect (s : State) (kind tag : Byte) (body : List Byte) : Effect [.link] s (s.offerRequest kind tag body) := by
  unfold State.offerRequest
  split
  · exact .refl _ _
  · split
    next hroom => exact (modLink_effect s _ fun _ => by simpa using hroom).trans (serveStarting_effect _)
    next => exact (modLink_effect s _ id).step (raise_effect _ _)

theorem discardFrame_effect (s : State) (f : LinkCounters → LinkCounters) : Effect [.link] s (s.discardFrame f) :=
  ((modLink_effect s _ id).trans (modLink_effect _ _ id)).step (raise_effect _ _)

theorem rxByte_effect (s : State) (b : Byte) : Effect [.link] s (s.rxByte b) := by
  unfold State.rxByte
  have hreceive (r : Receiver) : Effect [.link] s (s.setReceiver r) := modLink_effect s _ id
  split
  · exact .ite (hreceive _) (.refl _ _)
  · dsimp only
    refine .ite (discardFrame_effect s _) (.ite ?_ (hreceive _))
    unfold State.frameWhole
    exact .ite (((hreceive _).trans (modLink_effect _ _ id)).trans (offerRequest_effect _ _ _ _)) (discardFrame_effect s _)

theorem rxBytes_effect (s : State) (bs : List Byte) : Effect [.link] s (s.rxBytes bs) := .foldl rxByte_effect s bs

theorem gapTimeout_effect (s : State) : Effect [.link] s s.gapTimeout := by
  unfold State.gapTimeout
  split
  · exact .refl _ _
  · exact discardFrame_effect s _

/-- A step of the host link. -/
theorem Effect.link_kept {s t : State} (h : Effect [.link] s t) : Kept s t :=
  h.inQuiet.quiet_kept (.inr (h.same .records (by simp)))

end Sys2Proof.Machine

end

/-! ## The properties that every step keeps: places, lists, locks and the receive queue -/

section

-- Proofs are checked in order: as one text the file would otherwise hold more waiting proofs than the check has memory for.
set_option Elab.async false

namespace Sys2Proof.Machine

/-- A step that keeps everything and stays in service. -/
structure Serves (s t : State) : Prop where
  kept : Kept s t
  running : t.phase = .running

theorem Serves.foldl {α : Type} {f : State → α → State} (hf : ∀ s x, s.phase = .running → Serves s (f s x)) {s : State}
    (hs : s.phase = .running) (xs : List α) : Serves s (xs.foldl f s) := by
  induction xs generalizing s with
  | nil => exact ⟨.refl s, hs⟩
  | cons x xs ih =>
    have hstep := hf s x hs
    have hrest := ih hstep.running
    exact ⟨hstep.kept.trans hrest.kept, hrest.running⟩

theorem Transact.serves {l : Lane} {s t : State} (h : Transact l s t) (hs : s.phase = .running) : Serves s t :=
  ⟨h.kept hs, (show t.phase = s.phase from h.effect.same .phase (by simp [tapParts])).trans hs⟩

theorem Effect.serves {s t : State} (h : Effect quietParts s t) (hs : s.phase = .running) : Serves s t :=
  ⟨h.quiet_kept (.inl hs), (show t.phase = s.phase from h.same .phase (by simp [quietParts])).trans hs⟩

theorem Effect.inQuiet_of_gate {ps : List Part} {l : Lane} {s t : State} (h : Effect ps s t)
    (hps : ps ⊆ [.gate l, .records, .lists]) : Effect quietParts s t :=
  h.mono fun p hp => by
    rcases List.mem_cons.mp (hps hp) with rfl | hp
    · exact gate_mem_quietParts l
    · revert hp
      simp only [List.mem_cons, List.not_mem_nil, or_false]
      rintro (rfl | rfl) <;> simp [quietParts]

/-- A command of a lane in service, which no promise rests on. -/
theorem lane_kept {s t : State} {l : Lane} (hrunning : s.phase = .running) (h : Effect [.gate l, .records] s t) : Kept s t :=
  (h.inQuiet_of_gate (l := l) (by simp)).quiet_kept (.inl hrunning)

/-- A change that no part sees. -/
theorem Effect.unseen_kept {s t : State} (h : Effect [] s t) : Kept s t :=
  (h.mono (List.nil_subset _)).quiet_kept (.inr (h.same .records (by simp)))

/-! ### Resets -/

theorem credits_cleared (p : Passages) (hcredits : p.credits = []) (hpassages : p.passages = []) (hlatch : p.latch = false)
    (hstats : p.stats = Stats.zero) : CreditsSound p := by
  unfold CreditsSound
  rw [hcredits, hpassages, hlatch, hstats]
  simp [Stats.zero]

theorem resetFalls_kept (s : State) (cause : ResetCause) {phase : PartPhase} (hphase : phase ≠ .running) :
    Kept s (s.resetFalls cause phase) where
  credits l _ := by
    have hgate : (s.resetFalls cause phase).gate l = (s.gate l).atReset := by simp [State.resetFalls, State.gate, State.lane, LaneUnit.atReset]
    rw [hgate]
    exact credits_cleared _ rfl rfl rfl rfl
  lists := ListsSound.congr ⟨rfl, rfl, rfl⟩
  cards _ k l ser hk _ := by
    have htap : (s.resetFalls cause phase).tap k = Tap.cleared := by simp [State.resetFalls, State.tap, State.lane, LaneUnit.atReset]
    rw [htap] at hk
    cases hk
  queue _ := by simp [State.resetFalls, Link.cleared]
  places hs := by
    refine ⟨(owes_mono (s := s) (t := s.resetFalls cause phase) (le_refl _) fun l hl => ?_).trans hs.1,
      fun hrunning => absurd hrunning hphase⟩
    exact .inr (by simpa [State.resetFalls] using hl)
  leaves _ _ hrunning := absurd hrunning hphase

theorem phaseAfterReset_ne (s : State) : s.phaseAfterReset ≠ .running := by
  unfold State.phaseAfterReset
  split <;> simp

theorem clearRetained_tap (s : State) (l : Lane) : s.clearRetained.tap l = s.tap l := by
  simp [State.clearRetained, State.tap, State.lane]

theorem clearRetained_gate (s : State) (l : Lane) : s.clearRetained.gate l = (s.gate l).unconfigured := by
  simp [State.clearRetained, State.gate, State.lane]

theorem clearRetained_kept {s : State} (hphase : s.phase ≠ .running) : Kept s s.clearRetained where
  credits l hs := by
    rw [clearRetained_gate]
    exact hs
  lists := ListsSound.of_sublist (List.nil_sublist _) (List.nil_sublist _) fun _ => rfl
  cards hs := OneLanePerCard.of_inFlight (fun l _ hl => by rwa [clearRetained_tap] at hl) hs
  queue := id
  places hs := by
    refine ⟨(owes_mono (s := s) (t := s.clearRetained) (by simp [State.clearRetained, Journal.cleared]) fun l hl => ?_).trans hs.1, fun _ l hl => ?_⟩
    · exact .inl (by simpa [State.clearRetained, Doubt.cleared] using hl)
    · simp [State.clearRetained, Doubt.cleared] at hl
  leaves _ _ hrunning := absurd hrunning hphase

theorem retention_kept (s : State) (r : Retention) : Kept s { s with retention := r } :=
  Effect.unseen_kept (.unseen rfl rfl rfl rfl rfl rfl)

/-! ### Start-up -/

theorem retentionCheck_kept {s : State} (hphase : s.phase ≠ .running) : Kept s s.retentionCheck.2 := by
  unfold State.retentionCheck
  split
  · exact .refl s
  · exact (clearRetained_kept hphase).trans (retention_kept _ _)

/-- The parts that the conversion of PROVISIONAL entries changes. -/
def convertParts : List Part := [.records] ++ allLanes.map .reservation

theorem Effect.inConvert {ps : List Part} {l : Lane} {s t : State} (h : Effect ps s t) (hps : ps ⊆ [.records, .reservation l]) :
    Effect convertParts s t :=
  h.mono fun p hp => by
    have hmem := hps hp
    simp only [List.mem_cons, List.not_mem_nil, or_false] at hmem
    rcases hmem with rfl | rfl <;> simp [convertParts, mem_allLanes]

theorem convertEntry_effect (s : State) (e : DoubtEntry) : Effect [.records, .reservation e.lane] s (s.convertEntry e) := by
  unfold State.convertEntry
  exact ((appendReserved_effect s e.lane _ _).seq (store_effect _ .lists _)).step (setDoubt_effect _ _)

theorem convertEntries_effect (s : State) (es : List (Stored DoubtEntry)) : Effect convertParts s (s.convertEntries es) := by
  induction es generalizing s with
  | nil => exact .refl _ _
  | cons e es ih =>
    unfold State.convertEntries
    dsimp only
    have hread := noteRead_effect s .lists e.bits
    split
    · exact ((loseEntry_effect s e.bits e.val.serial).inConvert (l := 0) (by simp)).trans (ih _)
    · split
      · exact (hread.inConvert (l := 0) (by simp)).trans (ih _)
      · exact ((hread.seq (convertEntry_effect _ e.val)).inConvert (l := e.val.lane) (by simp)).trans (ih _)

theorem consumeLeftover_effect (s : State) (l : Lane) : Effect convertParts s (s.consumeLeftover l) := by
  unfold State.consumeLeftover
  split
  · exact .refl _ _
  · exact (appendReserved_effect s l _ _).inConvert (l := l) (by simp)

theorem switchAtStart_effect (s : State) : Effect [.records] s s.switchAtStart := .ite (completeSwitch_effect s) (.refl _ _)

/-- The inputs sampled and the service state of a lane coming up. -/
def State.sampled (s : State) (l : Lane) : State :=
  (s.modGate l Passages.sample).setService l (if s.emergency.accepted then .emergencyOpen else .closed)

theorem bringUpLane_eq (s : State) (l : Lane) :
    s.bringUpLane l = (((s.sampled l).putLeaves l ((s.sampled l).gate l).startUpLeaves).composeAndSend l) := rfl

theorem sampled_service (s : State) (l : Lane) : ((s.sampled l).gate l).service ≠ .fault := by
  rw [State.sampled, setService_gate_self]
  dsimp only
  split <;> simp

theorem sampled_effect (s : State) (l : Lane) : Effect [.gate l, .leaves l] s (s.sampled l) :=
  (modGate_effect s l Passages.sample id).trans (setService_effect _ l _)

theorem bringUpLane_effect (s : State) (l : Lane) : Effect [.gate l, .records] s (s.bringUpLane l) := by
  rw [bringUpLane_eq]
  have hmove := (sampled_effect s l).step (putLeaves_effect _ l _ (startUpLeaves_leaf _)) (rs := [.leaves l, .gate l, .records])
  exact (hmove.safe fun _ => putLeaves_leaves (startUpLeaves_leaves (sampled_service s l))).step (composeAndSend_effect _ l)

/-- A lane that has come up has safe leaves. -/
theorem bringUpLane_leaves (s : State) (l : Lane) : LeavesSound ((s.bringUpLane l).gate l) := by
  have hcompose := (composeAndSend_effect ((s.sampled l).putLeaves l ((s.sampled l).gate l).startUpLeaves) l).same (.gate l) (by simp)
  dsimp only [Part.Same] at hcompose
  rw [bringUpLane_eq, hcompose]
  exact putLeaves_leaves (startUpLeaves_leaves (sampled_service s l))

theorem bringUpLanes_effect (s : State) : Effect quietParts s s.bringUpLanes := by
  have hsample : Effect [] s { s with emergency := s.emergency.accept s.emergency.high } := .unseen rfl rfl rfl rfl rfl rfl
  exact hsample.inQuiet.trans (.foldl (fun s l => (bringUpLane_effect s l).inQuiet_of_gate (l := l) (by simp)) _ allLanes)

theorem bringUpLanes_leaves (s : State) (l : Lane) : LeavesSound (s.bringUpLanes.gate l) := by
  have fold (ls : List Lane) (t : State) (h : l ∈ ls ∨ LeavesSound (t.gate l)) : LeavesSound ((ls.foldl State.bringUpLane t).gate l) := by
    induction ls generalizing t with
    | nil => exact h.resolve_left (by simp)
    | cons k ls ih =>
      refine ih _ ?_
      by_cases hkl : k = l
      · exact .inr (hkl ▸ bringUpLane_leaves t k)
      · have hother : (t.bringUpLane k).gate l = t.gate l := (bringUpLane_effect t k).same (.gate l) (by simpa using Ne.symm hkl)
        rw [hother]
        exact h.imp (fun hmem => (List.mem_cons.mp hmem).resolve_left (Ne.symm hkl)) id
  exact fold allLanes _ (.inl (mem_allLanes l))

/-- The parts that the soundness of credits, lists, serials in flight and receive queue does not rest on. -/
def bookParts : List Part := [.phase, .records] ++ allLanes.map .header ++ allLanes.map .reservation

theorem Held.of_same {s t : State} (h : ∀ p : Part, p ∉ bookParts → p.Same s t) : Held s t where
  credits l hs := (show t.gate l = s.gate l from h (.gate l) (by simp [bookParts])) ▸ hs
  lists := ListsSound.congr (h .lists (by simp [bookParts]))
  cards := OneLanePerCard.of_inFlight fun l _ hl => (show t.tap l = s.tap l from h (.tap l) (by simp [bookParts])) ▸ hl
  queue hs := (show t.link = s.link from h .link (by simp [bookParts])) ▸ hs

theorem rebuildReservations_taken {s : State} (h : PlacesSound s) : s.rebuildReservations.journal.taken ≤ 2048 := by
  refine le_trans ?_ h.1
  rw [Journal.taken, outstanding_eq]
  refine Nat.add_le_add (le_refl _) (List.countP_mono_left fun l _ hl => ?_)
  have hl' : (s.doubt.header.get l).isSome = true := by simpa [State.rebuildReservations] using hl
  simp [hl']

theorem rebuildReservations_held (s : State) : Held s s.rebuildReservations :=
  .of_same fun p hp => by
    cases p
    case reservation l => simp [bookParts, mem_allLanes] at hp
    all_goals first | rfl | exact ⟨rfl, rfl, rfl⟩ | exact id

/-- The state with every mark of the LISTS header cleared. -/
def State.unmarked (s : State) : State := { s with doubt := { s.doubt with header := .all none } }

theorem unmarked_held (s : State) : Held s s.unmarked :=
  .of_same fun p hp => by
    cases p
    case header l => simp [bookParts, mem_allLanes] at hp
    all_goals first | rfl | exact ⟨rfl, rfl, rfl⟩ | exact id

theorem finishStartUp_held (s : State) (result : RetentionResult) : Held s (s.finishStartUp result) :=
  .of_same fun p hp => by
    cases p
    case phase => simp [bookParts] at hp
    all_goals simp [Part.Same, State.finishStartUp, State.tap, State.gate, State.lane]

/-- Step 3 of start-up but for the marks of the LISTS header. -/
def State.convertMarked (s : State) : State :=
  allLanes.foldl State.consumeLeftover (s.rebuildReservations.convertEntries s.rebuildReservations.doubt.entries)

theorem convertProvisional_eq (s : State) : s.convertProvisional = s.convertMarked.unmarked := rfl

theorem convertMarked_effect (s : State) : Effect convertParts s.rebuildReservations s.convertMarked :=
  (convertEntries_effect _ _).trans (.foldl consumeLeftover_effect _ allLanes)

/-- Steps 4 and 5 of start-up. -/
theorem bringUp_effect (s : State) : Effect quietParts s s.switchAtStart.bringUpLanes :=
  (switchAtStart_effect s).inQuiet.trans (bringUpLanes_effect _)

/-- Start-up ends with no lane marked and the places that the rebuilt reservations had. -/
theorem places_of_unmarked {s t u : State} (hrebuilt : s.journal.taken ≤ 2048) (hconverted : Effect convertParts s t)
    (hup : Effect quietParts t.unmarked u) : PlacesSound u := by
  have hheader (l : Lane) : u.doubt.header.get l = none :=
    (show u.doubt.header.get l = t.unmarked.doubt.header.get l from hup.same (.header l) (by simp [quietParts])).trans
      (PerLane.get_all none l)
  refine ⟨?_, fun _ l hl => by simp [hheader] at hl⟩
  rw [owes_eq_taken fun l hl => by simp [hheader] at hl]
  exact hup.room (hconverted.room hrebuilt)

theorem finishStartUp_places {s : State} (result : RetentionResult) (hs : PlacesSound s)
    (hunmarked : ∀ l, s.doubt.header.get l = none) : PlacesSound (s.finishStartUp result) :=
  ⟨hs.1, fun _ l hl => by simp [State.finishStartUp, hunmarked] at hl⟩

theorem finishStartUp_gate (s : State) (result : RetentionResult) (l : Lane) : (s.finishStartUp result).gate l = s.gate l := by
  simp [State.finishStartUp, State.gate, State.lane]

theorem startUp_kept {s : State} (hphase : s.phase ≠ .running) : Kept s s.startUp := by
  refine (retentionCheck_kept hphase).trans ?_
  unfold State.startUp
  obtain ⟨result, r⟩ := s.retentionCheck
  dsimp only
  rw [convertProvisional_eq]
  have hconverted := convertMarked_effect r
  have hup := bringUp_effect r.convertMarked.unmarked
  have hfinish := finishStartUp_held r.convertMarked.unmarked.switchAtStart.bringUpLanes result
  have hunmarked := (unmarked_held r.convertMarked)
  have hheader (l : Lane) : r.convertMarked.unmarked.switchAtStart.bringUpLanes.doubt.header.get l = none :=
    (show _ = r.convertMarked.unmarked.doubt.header.get l from hup.same (.header l) (by simp [quietParts])).trans
      (PerLane.get_all none l)
  have hheld := (((rebuildReservations_held r).trans hconverted.held).trans hunmarked).trans (hup.held.trans hfinish)
  refine ⟨hheld, fun hs => finishStartUp_places result (places_of_unmarked (rebuildReservations_taken hs) hconverted hup) hheader,
    fun _ _ _ l => ?_⟩
  rw [finishStartUp_gate]
  exact bringUpLanes_leaves _ l

/-! ### The commands -/

theorem lineAsserted_kept (s : State) : Kept s s.lineAsserted := by
  unfold State.lineAsserted
  have hline : Kept s { s with resetLine := true } := Effect.unseen_kept (.unseen rfl rfl rfl rfl rfl rfl)
  exact .ite (fun _ => hline) fun _ => hline.trans (resetFalls_kept _ _ (by simp))

theorem endWait_kept (s : State) : Kept s s.endWait := .when fun _ => resetFalls_kept _ _ (phaseAfterReset_ne s)

theorem beginWait_kept {s : State} (hs : s.phase = .running) : Kept s s.beginWait := by
  unfold State.beginWait
  have hmark := (modLink_effect s (fun k => { k with reset := .waiting }) id).inQuiet.serves hs
  exact (hmark.kept.trans (Serves.foldl (fun s l hs => (waitLane_transact s l).serves hs) hmark.running allLanes).kept).trans (endWait_kept _)

theorem replySent_kept (s : State) : Kept s s.replySent := by
  unfold State.replySent
  split
  next => exact .refl s
  next r rs _ =>
    have hsent : Effect [.link] s (s.modLink fun k => { k with replies := rs, queue := if r.holdsPlace then k.queue.drop 1 else k.queue }) :=
      modLink_effect s _ fun h => by
        dsimp only
        split
        · simp; omega
        · exact h
    exact .ite (fun h => hsent.link_kept.trans (beginWait_kept h.1)) fun _ => hsent.link_kept.trans (serveStarting_effect _).link_kept

theorem emergencyAsserted_kept {s : State} (hs : s.phase = .running) : Kept s s.emergencyAsserted := by
  unfold State.emergencyAsserted
  have hline : Effect [] s { s with emergency := ⟨true, true, none⟩ } := .unseen rfl rfl rfl rfl rfl rfl
  have hraise := (hline.trans (raise_effect _ .emergency)).inQuiet.serves hs
  refine hraise.kept.trans (Serves.foldl (fun s l hs => ?_) hraise.running allLanes).kept
  have hopen := ((emergencyLane_effect s l).inQuiet_of_gate (l := l) (by simp)).serves hs
  have htap := (emergencyTap_transact (s.emergencyLane l) l).serves hopen.running
  exact ⟨hopen.kept.trans htap.kept, htap.running⟩

theorem acceptReset_kept (s : State) : Kept s s.acceptReset :=
  ((answerRequest_effect s _ _ _ _).trans (modLink_effect _ _ id)).link_kept

/-- A level change of a lane's input changes nothing that is kept. -/
theorem level_kept (s : State) (l : Lane) {f : Passages → Passages} (hcredits : CreditsSound (s.gate l) → CreditsSound (f (s.gate l)))
    (hleaves : GateSound (s.gate l) → LeavesSound (f (s.gate l))) : Kept s (s.modGate l f) :=
  ((modGate_safe s l f hcredits hleaves).inQuiet_of_gate (l := l) (by simp)).quiet_kept (.inr rfl)

theorem laneService_effect (s : State) (lane : Byte) {f : State → Lane → Option Reason × State}
    (hf : ∀ l, Effect [.gate l, .records] s (f s l).2) : Effect quietParts s (s.laneService lane f).2 := by
  unfold State.laneService
  split
  · exact .refl _ _
  next l _ =>
    have h := (hf l).inQuiet_of_gate (l := l) (by simp)
    dsimp only
    split <;> exact h

theorem applyConfig_credits {p : Passages} (c : LaneConfig) (h : CreditsSound p) : CreditsSound (p.applyConfig c) := h

theorem configureLane_effect (s : State) (lane : Byte) (x : LaneSettings) : Effect quietParts s (s.configureLane lane x).2 := by
  unfold State.configureLane
  split
  · exact .refl _ _
  next l _ =>
    split
    · exact .refl _ _
    · split
      · exact .refl _ _
      · split
        · exact .refl _ _
        · exact (beamChange_effect (applyConfig_credits _) ⟨rfl, id, .inl⟩).inQuiet_of_gate (l := l) (by simp)

theorem timeLeft_effect (s : State) (duration : Option Nat) : Effect [] s (s.timeLeft duration).2 := .unseen rfl rfl rfl rfl rfl rfl

theorem creditsBytes_effect (s : State) (cs : List Credit) : Effect [] s (s.creditsBytes cs).2 := by
  induction cs generalizing s with
  | nil => exact .refl _ _
  | cons c cs ih => exact (timeLeft_effect s (c.lapse.map (· * 1000))).trans (ih _)

theorem laneBytes_effect (s : State) (l : Lane) : Effect [] s (s.laneBytes l).2 :=
  (creditsBytes_effect s _).trans (timeLeft_effect _ (s.ind l).holdTimer)

theorem status_effect (s : State) (selector lane : Byte) : Effect [] s (s.status selector lane).2 := by
  unfold State.status
  split
  · exact .refl _ _
  · split
    · exact .refl _ _
    · split
      · exact .refl _ _
      · split
        · split
          · exact laneBytes_effect s _
          · exact .refl _ _
        · exact .refl _ _

theorem setTime_effect (s : State) (time : Nat) : Effect [.records] s (s.setTime time).2 := by
  unfold State.setTime
  dsimp only
  have hset : Effect [.records] s { s with clock := ⟨time, true⟩ } := Effect.mono (.unseen rfl rfl rfl rfl rfl rfl) (List.nil_subset _)
  refine (hset.trans (Effect.ite ?_ (.refl _ _))).trans (enterSwitching_effect _)
  exact (appendUnreserved_effect _ _ _).step (raise_effect _ _)

theorem loadKey_effect (s : State) (slot version : Nat) (wrapped : BitVec 256) : Effect [] s (s.loadKey slot version wrapped).2 := by
  unfold State.loadKey
  split
  · exact .refl _ _
  · split
    · exact .refl _ _
    · exact .unseen rfl rfl rfl rfl rfl rfl

theorem beginTariff_effect (s : State) (version : Nat) : Effect [] s (s.beginTariff version).2 := by
  unfold State.beginTariff
  (repeat' split) <;> first | exact .refl _ _ | exact clearPending_effect s version

theorem writeTariff_effect (s : State) (part : Byte) (start : Nat) (items : List TariffItem) :
    Effect [] s (s.writeTariff part start items).2 := by
  unfold State.writeTariff
  (repeat' split) <;> first | exact .refl _ _ | exact writeItems_effect s _ _ _

theorem closeTariff_effect (s : State) : Effect [] s s.closeTariff.2 := by
  unfold State.closeTariff
  split
  · exact .refl _ _
  · exact closeBank_effect s

theorem activateTariff_effect (s : State) (time : Nat) : Effect [.records] s (s.activateTariff time).2 := by
  unfold State.activateTariff
  have hschedule : Effect [] s { s with tariff := { s.tariff with pending := .scheduled, effective := some time } } :=
    .unseen rfl rfl rfl rfl rfl rfl
  split
  · exact .refl _ _
  · split
    · exact hschedule.step (enterSwitching_effect _)
    · exact .refl _ _

theorem addDenyItems_effect (s : State) (items : List DenyItem) : Effect [.lists] s (s.addDenyItems items).2 := by
  unfold State.addDenyItems
  split
  · exact .refl _ _
  · split
    next => exact .refl _ _
    next hvalid =>
      have htake := takeDenyItems_effect s items ⟨0, 0, 0, 0⟩
      have hlost := takeDenyItems_lost (by simpa using hvalid) items ⟨0, 0, 0, 0⟩
      dsimp only
      split
      next => exact htake
      next hnone =>
        refine .lists_of (fun p hp => (htake.same p (by simpa using hp)).trans (setSuspects_same _ _ p hp)) fun h => ?_
        obtain ⟨-, -, -, hnodup, hplaces, -⟩ := h
        have hempty := hlost hnone
        unfold ListsSound
        simp [hempty, hnodup, hplaces]

theorem removeDeny_effect (s : State) (serials : List Serial) : Effect [.lists] s (s.removeDeny serials).2 := by
  unfold State.removeDeny
  split
  · exact .refl _ _
  · split
    · exact .refl _ _
    · have h := removeDenySerials_effect s serials 0 0
      dsimp only
      split <;> exact h

theorem clearDeny_effect (s : State) : Effect [.lists] s s.clearDeny :=
  .lists_of (fun p hp => by cases p <;> first | rfl | exact absurd rfl hp | exact id)
    (ListsSound.of_sublist (List.nil_sublist _) (.refl _) fun h => by simp [State.clearDeny] at h)

theorem readSuspectPage_effect (s : State) (position count : Nat) : Effect [.lists] s (s.readSuspectPage position count).2 := by
  unfold State.readSuspectPage
  split
  · exact .refl _ _
  · exact suspectPage_effect s position count

theorem clearSuspect_effect (s : State) (ser : Serial) : Effect [.lists] s (s.clearSuspect ser).2 := by
  unfold State.clearSuspect
  have h := lookupSuspect_effect s ser
  dsimp only
  split
  · exact h.trans (setSuspects_effect List.filter_sublist)
  · exact h

theorem feed_effect (s : State) (items : List FeedItem) : Effect [.lists, .records] s (s.feed items).2 := by
  unfold State.feed
  split
  · exact .refl _ _
  · split
    · exact .refl _ _
    · dsimp only
      exact (applyFeed_effect s items ⟨0, 0, 0, 0, 0⟩).step (countScreen_effect _ _)

end Sys2Proof.Machine

end

/-! ## What every step keeps (O57, O58, O59) -/

section

-- Proofs are checked in order: as one text the file would otherwise hold more waiting proofs than the check has memory for.
set_option Elab.async false

namespace Sys2Proof.Machine

/-! ### The requests that touch the books alone -/

theorem setStation_effect (s : State) (station network skew timeout : Nat) : Effect [] s (s.setStation station network skew timeout).2 :=
  .unseen rfl rfl rfl rfl rfl rfl

theorem journalRead_effect (s : State) (start count : Nat) : Effect [] s (s.journalRead start count).2 := by
  unfold State.journalRead
  split
  · exact .refl _ _
  · exact noteFindings_effect _ _ _ _

theorem release_records (j : Journal) (upto : Nat) :
    (j.release upto).2.records.length ≤ j.records.length ∧ (j.release upto).2.reservations = j.reservations := by
  unfold Journal.release
  split <;> simp [Journal.free]

theorem journalRelease_effect (s : State) (upto : Nat) : Effect [.records] s (s.journalRelease upto).2 := by
  unfold State.journalRelease
  split
  · exact .refl _ _
  · obtain ⟨hrecords, hreservations⟩ := release_records s.journal upto
    refine .journal (l := 0) (by simp) (fun p hp => ?_) fun hroom => ?_
    · cases p
      case records => simp at hp
      case reservation l => simp [Part.Same, hreservations]
      all_goals simp [Part.Same, State.tap, State.gate, State.lane]
    · simp only [Journal.taken, Journal.held, Journal.outstanding, hreservations] at hroom ⊢
      omega

theorem takeEvents_effect (s : State) : Effect [] s s.takeEvents.2 := .unseen rfl rfl rfl rfl rfl rfl

theorem enableEvents_effect (s : State) (flags : BitVec 32) : Effect [] s (s.enableEvents flags).2 := .unseen rfl rfl rfl rfl rfl rfl

theorem writeTemplate_effect (s : State) (number : Byte) (cells : List RawCell) (slots : List RawSlot) :
    Effect [] s (s.writeTemplate number cells slots).2 := by
  unfold State.writeTemplate
  split
  · dsimp only
    have hput (t : State) (display : Display) : Effect [] t { t with display := display } := .unseen rfl rfl rfl rfl rfl rfl
    exact ((store_effect s .templates (templateOf cells slots)).trans (hput _ _)).trans (recompose_effect _ _)
  · exact .refl _ _

theorem mapItems_effect (s : State) (items : List (Byte × Byte)) : Effect [] s (s.mapItems items) := by
  induction items generalizing s with
  | nil => exact .refl _ _
  | cons x xs ih =>
    unfold State.mapItems
    have hput (t : State) (display : Display) : Effect [] t { t with display := display } := .unseen rfl rfl rfl rfl rfl rfl
    exact ((store_effect s .templates x.2.toNat).trans (hput _ _)).trans (ih _)

theorem mapResults_effect (s : State) (items : List (Byte × Byte)) : Effect [] s (s.mapResults items).2 := by
  unfold State.mapResults
  split
  · exact .refl _ _
  · dsimp only
    exact (mapItems_effect s items).trans (recompose_effect _ _)

theorem eccCounts_effect (s : State) (clear : Byte) : Effect [] s (s.eccCounts clear).2 := by
  unfold State.eccCounts
  split
  · exact .refl _ _
  · split
    · exact .unseen rfl rfl rfl rfl rfl rfl
    · exact .refl _ _

theorem inject_effect (s : State) (memory kind : Byte) : Effect [] s (s.inject memory kind).2 := by
  unfold State.inject
  split
  · exact .unseen rfl rfl rfl rfl rfl rfl
  · exact .refl _ _

/-! ### Commands of the clock, the supply and the RESET input -/

theorem tick_kept (s : State) : Kept s s.tick := by
  unfold State.tick
  have hclock (clock : Clock) : Kept s { s with clock := clock } := Effect.unseen_kept (.unseen rfl rfl rfl rfl rfl rfl)
  refine (hclock _).trans (Kept.when fun hrunning => ?_)
  exact (enterSwitching_effect _).inQuiet.quiet_kept (.inl hrunning)

theorem lineReleased_kept (s : State) :
    Kept s { s with resetLine := false, phase := if s.phase = .held then .startUp else s.phase } where
  credits _ := id
  lists := id
  cards := id
  queue := id
  places hs := ⟨hs.1, fun hrunning => hs.2 (by
    dsimp only at hrunning
    split at hrunning
    · cases hrunning
    · exact hrunning)⟩
  leaves _ hs hrunning := hs (by
    dsimp only at hrunning
    split at hrunning
    · cases hrunning
    · exact hrunning)

theorem loseRetention_kept {s : State} (hphase : s.phase ≠ .running) : Kept s s.loseRetention :=
  (clearRetained_kept hphase).trans (retention_kept _ _)

/-! ### The dispatch -/

/-- A step of a transaction that takes place in service alone. -/
theorem Transact.inService {l : Lane} {s t : State} (h : Transact l s t) : Kept s (if s.phase = .running then t else s) :=
  .when h.kept

/-- A change of a tap controller alone, out of service. -/
theorem tap_kept {s t : State} {l : Lane} (h : Effect [.tap l] s t) (hphase : s.phase ≠ .running) : Kept s t := by
  have hsame : t.phase = s.phase := h.same .phase (by simp)
  refine h.kept (fun hs => ⟨?_, fun hrunning => absurd (hsame ▸ hrunning) hphase⟩) (by simp) (by simp)
  have hrecords : t.journal.records = s.journal.records := h.same .records (by simp)
  refine (owes_mono (by rw [hrecords]) fun k hk => ?_).trans hs.1
  rwa [show t.journal.reservations.get k = _ from h.same (.reservation k) (by simp),
    show t.doubt.header.get k = _ from h.same (.header k) (by simp)] at hk

/-- A report of the field, taken in service as a step of the transaction and out of it as the field state alone. -/
theorem report_kept {s t : State} {l : Lane} (present : Bool) (hfield : s.phase ≠ .running → t = s.setField l present)
    (hrunning : Transact l s t) : Kept s (if s.tapsUp then t else s) :=
  .when fun _ => by
    by_cases h : s.phase = .running
    · exact hrunning.kept h
    · rw [hfield h]
      exact tap_kept (setField_effect s l present) h

/-- A step of a transaction that has not sent its COMMIT. -/
theorem Effect.dialogue {l : Lane} {s t : State} (h : Effect (endParts l) s t) (hphase : (s.tap l).phase ≠ .committing) :
    Transact l s t := (h.mono (endParts_subset_before l)).beforeCommit hphase

theorem exchangeTimeout_transact (s : State) (l : Lane) : Transact l s (s.exchangeTimeout l) := by
  unfold State.exchangeTimeout
  split
  · exact exchangeFails_transact s l
  · exact .refl l s

theorem reservationRequest_kept (s : State) (l : Lane) : ∃ t, execReservationRequest l s = .next t ∧ Kept s t := by
  refine ⟨_, rfl, ?_⟩
  split
  · exact .refl s
  · exact whenAwaited_kept s l _ fun _ _ _ h => reservationStep_transact _ h

theorem inputLevel_accepted (s : State) (i : Input) (high : Bool) (time : Nat) : (s.inputLevel i high time).accepted = i.accepted := by
  unfold State.inputLevel Input.levelChange
  split
  · split <;> rfl
  · rfl

theorem get_setBeam_self {α : Type} (p : PerBeam α) (b : Beam) (x : α) : (p.set b x).get b = x := by
  fin_cases b <;> rfl

theorem get_setBeam_other {α : Type} (p : PerBeam α) {b k : Beam} (h : k ≠ b) (x : α) : (p.set b x).get k = p.get k := by
  fin_cases b <;> fin_cases k <;> first | rfl | exact absurd rfl h

/-- A beam whose input keeps its accepted state reads as before. -/
theorem occ_setBeam {p : Passages} {b : Beam} {i : Input} (h : i.accepted = (p.beams.get b).accepted) (g : Segment) :
    Passages.occ { p with beams := p.beams.set b i } g = p.occ g := by
  have hbeam (k : Beam) : Passages.beamReads { p with beams := p.beams.set b i } k = p.beamReads k := by
    unfold Passages.beamReads
    by_cases hkb : k = b
    · subst hkb
      rw [get_setBeam_self, h]
    · rw [get_setBeam_other _ hkb]
  cases g <;> simp [Passages.occ, hbeam]

theorem beamLevel_kept (s : State) (l : Lane) (b : Beam) (high : Bool) : Kept s (s.modGate l fun p =>
    { p with beams := p.beams.set b (s.inputLevel (p.beams.get b) high p.config.debounce) }) := by
  refine level_kept s l id fun ⟨_, hopening, hfault, hjammed, hclosing⟩ => ⟨hopening, hfault, hjammed, fun hstate hpaused => ?_⟩
  rw [occ_setBeam (inputLevel_accepted s _ high _)]
  exact hclosing hstate hpaused

theorem emergencyLine_effect (s : State) (i : Input) : Effect [] s { s with emergency := i } := .unseen rfl rfl rfl rfl rfl rfl

theorem exec_kept (i : Instr) (s : State) : ∃ t, exec i s = .next t ∧ Kept s t := by
  cases i with
  | statusGet selector lane => exact ⟨_, rfl, hostServe_kept s _ _ (status_effect s selector lane).inQuiet⟩
  | timeSet time => exact ⟨_, rfl, hostServe_kept s _ _ (setTime_effect s _).inQuiet⟩
  | timeGet => exact ⟨_, rfl, hostServe_kept s _ _ (.refl _ _)⟩
  | stationSet station network skew timeout => exact ⟨_, rfl, hostServe_kept s _ _ (setStation_effect s _ _ _ _).inQuiet⟩
  | laneConfig lane settings => exact ⟨_, rfl, hostServe_kept s _ _ (configureLane_effect s lane settings)⟩
  | laneServiceIn lane => exact ⟨_, rfl, hostServe_kept s _ _ (laneService_effect s lane (serviceIn_effect s))⟩
  | laneServiceOut lane => exact ⟨_, rfl, hostServe_kept s _ _ (laneService_effect s lane (serviceOut_effect s))⟩
  | laneServiceHoldOpen lane => exact ⟨_, rfl, hostServe_kept s _ _ (laneService_effect s lane (serviceHoldOpen_effect s))⟩
  | tariffBegin version => exact ⟨_, rfl, hostServe_kept s _ _ (beginTariff_effect s _).inQuiet⟩
  | tariffWrite part start items => exact ⟨_, rfl, hostServe_kept s _ _ (writeTariff_effect s part _ items).inQuiet⟩
  | tariffClose => exact ⟨_, rfl, hostServe_kept s _ _ (closeTariff_effect s).inQuiet⟩
  | tariffActivate time => exact ⟨_, rfl, hostServe_kept s _ _ (activateTariff_effect s _).inQuiet⟩
  | tariffStatus => exact ⟨_, rfl, hostServe_kept s _ _ (.refl _ _)⟩
  | keyLoad slot version wrapped => exact ⟨_, rfl, hostServe_kept s _ _ (loadKey_effect s _ _ _).inQuiet⟩
  | denyAdd items => exact ⟨_, rfl, hostServe_kept s _ _ (addDenyItems_effect s items).inQuiet⟩
  | denyRemove serials => exact ⟨_, rfl, hostServe_kept s _ _ (removeDeny_effect s serials).inQuiet⟩
  | denyClear => exact ⟨_, rfl, hostServe_kept s _ _ (clearDeny_effect s).inQuiet⟩
  | suspectRead position count => exact ⟨_, rfl, hostServe_kept s _ _ (readSuspectPage_effect s _ _).inQuiet⟩
  | suspectClear serial => exact ⟨_, rfl, hostServe_kept s _ _ (clearSuspect_effect s serial).inQuiet⟩
  | feedSightings items => exact ⟨_, rfl, hostServe_kept s _ _ (feed_effect s items).inQuiet⟩
  | journalRead start count => exact ⟨_, rfl, hostServe_kept s _ _ (journalRead_effect s _ _).inQuiet⟩
  | journalRelease upto => exact ⟨_, rfl, hostServe_kept s _ _ (journalRelease_effect s _).inQuiet⟩
  | eventsPeek => exact ⟨_, rfl, hostServe_kept s _ _ (.refl _ _)⟩
  | eventsTake => exact ⟨_, rfl, hostServe_kept s _ _ (takeEvents_effect s).inQuiet⟩
  | eventsEnable flags => exact ⟨_, rfl, hostServe_kept s _ _ (enableEvents_effect s flags).inQuiet⟩
  | templateWrite number cells slots => exact ⟨_, rfl, hostServe_kept s _ _ (writeTemplate_effect s number cells slots).inQuiet⟩
  | resultMap items => exact ⟨_, rfl, hostServe_kept s _ _ (mapResults_effect s items).inQuiet⟩
  | eccCounts clear => exact ⟨_, rfl, hostServe_kept s _ _ (eccCounts_effect s clear).inQuiet⟩
  | eccInject memory kind => exact ⟨_, rfl, hostServe_kept s _ _ (inject_effect s memory kind).inQuiet⟩
  | reset => exact ⟨_, rfl, .ite (fun _ => acceptReset_kept s) fun _ => hostServe_kept s _ _ (.refl _ _)⟩
  | unknownKind kind body => exact ⟨_, rfl, hostServe_kept s _ _ (.refl _ _)⟩
  | frameReceived bytes => exact ⟨_, rfl, .when fun _ => (rxBytes_effect s bytes).link_kept⟩
  | interByteGapTimeout => exact ⟨_, rfl, .when fun _ => (gapTimeout_effect s).link_kept⟩
  | replySent => exact ⟨_, rfl, .when fun _ => replySent_kept s⟩
  | resetCommandWaitEnd => exact ⟨_, rfl, .when fun _ => endWait_kept s⟩
  | cardPresent lane =>
    exact ⟨_, rfl, report_kept true (fun h => by simp [State.cardPresent, State.setField, h]) (cardPresent_transact s lane)⟩
  | multipleCards lane =>
    exact ⟨_, rfl, report_kept true (fun h => by simp [State.multipleCards, State.setField, h]) (multipleCards_transact s lane)⟩
  | fieldEmpty lane =>
    exact ⟨_, rfl, report_kept false (fun h => by simp [State.fieldEmpty, State.setField, h]) (fieldEmpty_transact s lane)⟩
  | noAnswer lane => exact ⟨_, rfl, (exchangeFails_transact s lane).inService⟩
  | exchangeTimeout lane => exact ⟨_, rfl, (exchangeTimeout_transact s lane).inService⟩
  | wrongTypeAnswer lane => exact ⟨_, rfl, (exchangeFails_transact s lane).inService⟩
  | identifyAnswer lane answer =>
    exact ⟨_, rfl, takeAnswer_kept s lane _ _ fun h => (identified_effect s lane _).dialogue (by simp [h])⟩
  | authenticateAnswer lane response =>
    exact ⟨_, rfl, takeAnswer_kept s lane _ _ fun h => (authenticated_effect s lane response).dialogue (by simp [h])⟩
  | readAnswer lane image proof =>
    exact ⟨_, rfl, takeAnswer_kept s lane _ _ fun h => (imageRead_effect s lane _ _).dialogue (by simp [h])⟩
  | resolutionLookup lane =>
    exact ⟨_, rfl, whenAwaited_kept s lane _ fun _ _ c h => (resolutionStep_effect s lane c).dialogue (by simp [h])⟩
  | screeningRequest lane =>
    exact ⟨_, rfl, whenAwaited_kept s lane _ fun k i c h => (screeningStep_effect s lane k i c).beforeCommit (by simp [h])⟩
  | fareRequest lane =>
    exact ⟨_, rfl, whenAwaited_kept s lane _ fun k i c h => (fareStep_effect s lane k i c).dialogue (by simp [h])⟩
  | reservationRequest lane => exact reservationRequest_kept s lane
  | receipt lane counter proof => exact ⟨_, rfl, takeCommitAnswer_kept s lane fun w => receipt_transact s lane w counter.toNat proof⟩
  | refusedCounter lane => exact ⟨_, rfl, takeCommitAnswer_kept s lane fun w => refused_transact s lane w false⟩
  | refusedExhausted lane => exact ⟨_, rfl, takeCommitAnswer_kept s lane fun w => refused_transact s lane w true⟩
  | cardUpdate lane serial counter purse trip =>
    exact ⟨_, rfl, .when fun hrunning => (cardUpdate_effect s lane serial _ purse trip).inQuiet.quiet_kept (.inl hrunning)⟩
  | recordAppend cls record =>
    exact ⟨_, rfl, .when fun hrunning => (appendUnreserved_effect s cls record).inQuiet.quiet_kept (.inl hrunning)⟩
  | creditGrant lane serial => exact ⟨_, rfl, .when fun hrunning => lane_kept hrunning (grantCredit_effect s lane serial)⟩
  | clockTick => exact ⟨_, rfl, tick_kept s⟩
  | beamLevelChange lane beam high => exact ⟨_, rfl, beamLevel_kept s lane beam high⟩
  | beamDebounceExpiry lane beam =>
    exact ⟨_, rfl, .when fun h => lane_kept h.1 (beamChange_effect (fun hs => hs) ⟨rfl, id, .inl⟩)⟩
  | limitLevelChange lane limit high =>
    exact ⟨_, rfl, level_kept s lane (modLimit_credits _ limit _) fun hs => modLimit_leaves _ limit _ hs.2⟩
  | limitDebounceExpiry lane limit => exact ⟨_, rfl, .when fun h => lane_kept h.1 (limitChange_effect s lane limit _)⟩
  | emergencyLevelChange asserted => exact ⟨_, rfl, Effect.unseen_kept (.unseen rfl rfl rfl rfl rfl rfl)⟩
  | emergencyAssert => exact ⟨_, rfl, .when fun h => emergencyAsserted_kept h.1⟩
  | emergencyReleaseLine =>
    exact ⟨_, rfl, .when fun _ => ((emergencyLine_effect s _).trans (raise_effect _ .emergency)).unseen_kept⟩
  | creditLapse lane position => exact ⟨_, rfl, .when fun h => lane_kept h (lapseCredit_effect s lane _)⟩
  | closeDelayExpiry lane => exact ⟨_, rfl, .when fun h => lane_kept h.1 (closeDelayExpired_effect h.2)⟩
  | startPhaseExpiry lane => exact ⟨_, rfl, .when fun _ => level_kept s lane id fun hs => hs.2⟩
  | leafTravelTimeout lane => exact ⟨_, rfl, .when fun h => lane_kept h.1 (travelExpired_effect s lane)⟩
  | obstructionTimerExpiry lane =>
    exact ⟨_, rfl, .when fun h => lane_kept h (l := lane) ((obstructionExpired_effect s lane).mono (by simp))⟩
  | indicatorResult lane code charge purse => exact ⟨_, rfl, .when fun _ => (takeResult_effect s lane code charge purse).unseen_kept⟩
  | indicatorStateChange lane state => exact ⟨_, rfl, .when fun _ => (indicateService_effect s lane state).unseen_kept⟩
  | indicatorObstruction lane started => exact ⟨_, rfl, .when fun _ => (indicateObstruction_effect s lane started).unseen_kept⟩
  | indicatorHoldExpiry lane => exact ⟨_, rfl, .when fun _ => (holdExpired_effect s lane).unseen_kept⟩
  | displaySendComplete lane => exact ⟨_, rfl, (modInd_effect s lane Indicator.sendComplete).unseen_kept⟩
  | powerOn => exact ⟨_, rfl, resetFalls_kept s _ (phaseAfterReset_ne s)⟩
  | resetLineAssert => exact ⟨_, rfl, .ite (fun _ => .refl s) fun _ => lineAsserted_kept s⟩
  | resetLineRelease => exact ⟨_, rfl, lineReleased_kept s⟩
  | settleIntervalExpiry => exact ⟨_, rfl, .when fun h => startUp_kept (by simp [h])⟩
  | syncReceived byte => exact ⟨_, rfl, .when fun _ => (rxByte_effect s byte).link_kept⟩
  | lenReceived high low => exact ⟨_, rfl, .when fun _ => (rxBytes_effect s [high, low]).link_kept⟩
  | mainSupplyLoss => exact ⟨_, rfl, resetFalls_kept s _ (by simp)⟩
  | retentionDomainLoss => exact ⟨_, rfl, .when fun h => loseRetention_kept (by simp [h])⟩

/-- The queue's front is taken before its command is executed. -/
theorem takeFront_kept (s : State) (rest : List Instr) : Kept s { s with pending := rest } :=
  Effect.unseen_kept (.unseen rfl rfl rfl rfl rfl rfl)

theorem step_kept {s t : State} (h : step s = .next t) : Kept s t := by
  unfold step at h
  split at h
  · cases h
    exact .refl _
  next c rest _ =>
    obtain ⟨u, hu, hkept⟩ := exec_kept c { s with pending := rest }
    rw [hu] at h
    cases h
    exact (takeFront_kept s rest).trans hkept

/-- Leaves are driven open for someone let in, or in a lane held open. -/
theorem letIn_of_openAt {p : Passages} {duty : Nat} (hsound : LeavesSound p) (h : p.drive = .openAt duty) :
    p.letIn = true ∨ p.service = .heldOpen ∨ p.service = .emergencyOpen := by
  unfold Passages.drive at h
  dsimp only at h
  split at h
  · cases h
  next hstate => exact hsound.1 hstate
  · split at h
    next hheld => exact demand_cases (Bool.and_eq_true_iff.mp hheld).1
    · cases h
  · split at h <;> cases h
  · cases h

/-- Settles O57: every operation keeps the places taken within the journal, and a lane's mark comes and goes with its COMMIT. -/
theorem everyStepKeepsTheJournalsPromises : Obligations.EveryStepKeepsTheJournalsPromises :=
  fun _ _ hs h => (step_kept h).places hs

/-- Settles O58: each list, lock and queue operation keeps its order, its bound and its serials apart. -/
theorem everyStepKeepsTheListsSound : Obligations.EveryStepKeepsTheListsSound :=
  fun _ _ hcards hlists hqueue h => ⟨(step_kept h).cards hcards, (step_kept h).lists hlists, (step_kept h).queue hqueue⟩

/-- Settles O59: what the leaf drive makes of a change is safe whenever the tracker settles passages behind a clear segment L alone. -/
theorem everyStepKeepsTheLanesSafe : Obligations.EveryStepKeepsTheLanesSafe := by
  intro s t hleaves hcredits h
  have hkept := step_kept h
  have hsafe := hkept.leaves hcredits hleaves
  refine ⟨hsafe, fun l => hkept.credits l (hcredits l), fun l duty hopen => ?_⟩
  unfold State.driveOutput at hopen
  split at hopen
  next hrunning => exact letIn_of_openAt (hsafe hrunning l) hopen
  next => cases hopen

end Sys2Proof.Machine

end

/-! ## The words of the statements as operations: one lane's unit replaced, records admitted -/

section

-- Proofs are checked in order: as one text the file would otherwise hold more waiting proofs than the check has memory for.
set_option Elab.async false

namespace Sys2Proof.Machine

/-! ### A lane's unit replaced -/

theorem modTap_eq (s : State) (l : Lane) (f : Tap → Tap) : s.modTap l f = s.withTap l (f (s.tap l)) := rfl

theorem modGate_eq (s : State) (l : Lane) (f : Passages → Passages) : s.modGate l f = s.withGate l (f (s.gate l)) := rfl

theorem modInd_eq (s : State) (l : Lane) (f : Indicator → Indicator) : s.modInd l f = s.withInd l (f (s.ind l)) := rfl

theorem setField_eq (s : State) (l : Lane) (present : Bool) : s.setField l present = s.withField l present := rfl

theorem withField_eq (s : State) (l : Lane) (present : Bool) :
    s.withField l present = s.withTap l { s.tap l with present := present } := rfl

@[simp] theorem withTap_pending (s : State) (l : Lane) (t : Tap) : (s.withTap l t).pending = s.pending := rfl
@[simp] theorem withTap_phase (s : State) (l : Lane) (t : Tap) : (s.withTap l t).phase = s.phase := rfl
@[simp] theorem withTap_cause (s : State) (l : Lane) (t : Tap) : (s.withTap l t).cause = s.cause := rfl
@[simp] theorem withTap_report (s : State) (l : Lane) (t : Tap) : (s.withTap l t).report = s.report := rfl
@[simp] theorem withTap_resetLine (s : State) (l : Lane) (t : Tap) : (s.withTap l t).resetLine = s.resetLine := rfl
@[simp] theorem withTap_emergency (s : State) (l : Lane) (t : Tap) : (s.withTap l t).emergency = s.emergency := rfl
@[simp] theorem withTap_link (s : State) (l : Lane) (t : Tap) : (s.withTap l t).link = s.link := rfl
@[simp] theorem withTap_events (s : State) (l : Lane) (t : Tap) : (s.withTap l t).events = s.events := rfl
@[simp] theorem withTap_clock (s : State) (l : Lane) (t : Tap) : (s.withTap l t).clock = s.clock := rfl
@[simp] theorem withTap_settings (s : State) (l : Lane) (t : Tap) : (s.withTap l t).settings = s.settings := rfl
@[simp] theorem withTap_keys (s : State) (l : Lane) (t : Tap) : (s.withTap l t).keys = s.keys := rfl
@[simp] theorem withTap_tariff (s : State) (l : Lane) (t : Tap) : (s.withTap l t).tariff = s.tariff := rfl
@[simp] theorem withTap_screening (s : State) (l : Lane) (t : Tap) : (s.withTap l t).screening = s.screening := rfl
@[simp] theorem withTap_doubt (s : State) (l : Lane) (t : Tap) : (s.withTap l t).doubt = s.doubt := rfl
@[simp] theorem withTap_journal (s : State) (l : Lane) (t : Tap) : (s.withTap l t).journal = s.journal := rfl
@[simp] theorem withTap_display (s : State) (l : Lane) (t : Tap) : (s.withTap l t).display = s.display := rfl
@[simp] theorem withTap_ecc (s : State) (l : Lane) (t : Tap) : (s.withTap l t).ecc = s.ecc := rfl
@[simp] theorem withTap_retention (s : State) (l : Lane) (t : Tap) : (s.withTap l t).retention = s.retention := rfl
@[simp] theorem withTap_draws (s : State) (l : Lane) (t : Tap) : (s.withTap l t).draws = s.draws := rfl

@[simp] theorem withGate_pending (s : State) (l : Lane) (p : Passages) : (s.withGate l p).pending = s.pending := rfl
@[simp] theorem withGate_phase (s : State) (l : Lane) (p : Passages) : (s.withGate l p).phase = s.phase := rfl
@[simp] theorem withGate_cause (s : State) (l : Lane) (p : Passages) : (s.withGate l p).cause = s.cause := rfl
@[simp] theorem withGate_report (s : State) (l : Lane) (p : Passages) : (s.withGate l p).report = s.report := rfl
@[simp] theorem withGate_resetLine (s : State) (l : Lane) (p : Passages) : (s.withGate l p).resetLine = s.resetLine := rfl
@[simp] theorem withGate_emergency (s : State) (l : Lane) (p : Passages) : (s.withGate l p).emergency = s.emergency := rfl
@[simp] theorem withGate_link (s : State) (l : Lane) (p : Passages) : (s.withGate l p).link = s.link := rfl
@[simp] theorem withGate_events (s : State) (l : Lane) (p : Passages) : (s.withGate l p).events = s.events := rfl
@[simp] theorem withGate_clock (s : State) (l : Lane) (p : Passages) : (s.withGate l p).clock = s.clock := rfl
@[simp] theorem withGate_settings (s : State) (l : Lane) (p : Passages) : (s.withGate l p).settings = s.settings := rfl
@[simp] theorem withGate_keys (s : State) (l : Lane) (p : Passages) : (s.withGate l p).keys = s.keys := rfl
@[simp] theorem withGate_tariff (s : State) (l : Lane) (p : Passages) : (s.withGate l p).tariff = s.tariff := rfl
@[simp] theorem withGate_screening (s : State) (l : Lane) (p : Passages) : (s.withGate l p).screening = s.screening := rfl
@[simp] theorem withGate_doubt (s : State) (l : Lane) (p : Passages) : (s.withGate l p).doubt = s.doubt := rfl
@[simp] theorem withGate_journal (s : State) (l : Lane) (p : Passages) : (s.withGate l p).journal = s.journal := rfl
@[simp] theorem withGate_display (s : State) (l : Lane) (p : Passages) : (s.withGate l p).display = s.display := rfl
@[simp] theorem withGate_ecc (s : State) (l : Lane) (p : Passages) : (s.withGate l p).ecc = s.ecc := rfl
@[simp] theorem withGate_retention (s : State) (l : Lane) (p : Passages) : (s.withGate l p).retention = s.retention := rfl
@[simp] theorem withGate_draws (s : State) (l : Lane) (p : Passages) : (s.withGate l p).draws = s.draws := rfl

@[simp] theorem withInd_pending (s : State) (l : Lane) (i : Indicator) : (s.withInd l i).pending = s.pending := rfl
@[simp] theorem withInd_phase (s : State) (l : Lane) (i : Indicator) : (s.withInd l i).phase = s.phase := rfl
@[simp] theorem withInd_cause (s : State) (l : Lane) (i : Indicator) : (s.withInd l i).cause = s.cause := rfl
@[simp] theorem withInd_report (s : State) (l : Lane) (i : Indicator) : (s.withInd l i).report = s.report := rfl
@[simp] theorem withInd_resetLine (s : State) (l : Lane) (i : Indicator) : (s.withInd l i).resetLine = s.resetLine := rfl
@[simp] theorem withInd_emergency (s : State) (l : Lane) (i : Indicator) : (s.withInd l i).emergency = s.emergency := rfl
@[simp] theorem withInd_link (s : State) (l : Lane) (i : Indicator) : (s.withInd l i).link = s.link := rfl
@[simp] theorem withInd_events (s : State) (l : Lane) (i : Indicator) : (s.withInd l i).events = s.events := rfl
@[simp] theorem withInd_clock (s : State) (l : Lane) (i : Indicator) : (s.withInd l i).clock = s.clock := rfl
@[simp] theorem withInd_settings (s : State) (l : Lane) (i : Indicator) : (s.withInd l i).settings = s.settings := rfl
@[simp] theorem withInd_keys (s : State) (l : Lane) (i : Indicator) : (s.withInd l i).keys = s.keys := rfl
@[simp] theorem withInd_tariff (s : State) (l : Lane) (i : Indicator) : (s.withInd l i).tariff = s.tariff := rfl
@[simp] theorem withInd_screening (s : State) (l : Lane) (i : Indicator) : (s.withInd l i).screening = s.screening := rfl
@[simp] theorem withInd_doubt (s : State) (l : Lane) (i : Indicator) : (s.withInd l i).doubt = s.doubt := rfl
@[simp] theorem withInd_journal (s : State) (l : Lane) (i : Indicator) : (s.withInd l i).journal = s.journal := rfl
@[simp] theorem withInd_display (s : State) (l : Lane) (i : Indicator) : (s.withInd l i).display = s.display := rfl
@[simp] theorem withInd_ecc (s : State) (l : Lane) (i : Indicator) : (s.withInd l i).ecc = s.ecc := rfl
@[simp] theorem withInd_retention (s : State) (l : Lane) (i : Indicator) : (s.withInd l i).retention = s.retention := rfl
@[simp] theorem withInd_draws (s : State) (l : Lane) (i : Indicator) : (s.withInd l i).draws = s.draws := rfl
@[simp] theorem withTap_tap (s : State) (l : Lane) (t : Tap) : (s.withTap l t).tap l = t := by
  simp [State.withTap, State.tap, State.lane]

@[simp] theorem withTap_gate (s : State) (l k : Lane) (t : Tap) : (s.withTap l t).gate k = s.gate k :=
  State.modTap_gate s l k fun _ => t

@[simp] theorem withTap_ind (s : State) (l k : Lane) (t : Tap) : (s.withTap l t).ind k = s.ind k :=
  State.modTap_ind s l k fun _ => t

theorem withTap_tap_other (s : State) {l k : Lane} (h : k ≠ l) (t : Tap) : (s.withTap l t).tap k = s.tap k :=
  State.modTap_tap_other s h fun _ => t

@[simp] theorem withTap_withTap (s : State) (l : Lane) (t t' : Tap) : (s.withTap l t).withTap l t' = s.withTap l t' := by
  simp [State.withTap, State.lane]

@[simp] theorem withGate_gate (s : State) (l : Lane) (p : Passages) : (s.withGate l p).gate l = p := by
  simp [State.withGate, State.gate, State.lane]

@[simp] theorem withGate_tap (s : State) (l k : Lane) (p : Passages) : (s.withGate l p).tap k = s.tap k :=
  State.modGate_tap s l k fun _ => p

@[simp] theorem withGate_ind (s : State) (l k : Lane) (p : Passages) : (s.withGate l p).ind k = s.ind k :=
  State.modGate_ind s l k fun _ => p

@[simp] theorem withGate_withGate (s : State) (l : Lane) (p p' : Passages) : (s.withGate l p).withGate l p' = s.withGate l p' := by
  simp [State.withGate, State.lane]

@[simp] theorem withInd_ind (s : State) (l : Lane) (i : Indicator) : (s.withInd l i).ind l = i := by
  simp [State.withInd, State.ind, State.lane]

@[simp] theorem withInd_tap (s : State) (l k : Lane) (i : Indicator) : (s.withInd l i).tap k = s.tap k :=
  State.modInd_tap s l k fun _ => i

@[simp] theorem withInd_gate (s : State) (l k : Lane) (i : Indicator) : (s.withInd l i).gate k = s.gate k :=
  State.modInd_gate s l k fun _ => i

@[simp] theorem withInd_withInd (s : State) (l : Lane) (i i' : Indicator) : (s.withInd l i).withInd l i' = s.withInd l i' := by
  simp [State.withInd, State.lane]

/-- Replacing a lane's unit by itself changes nothing. -/
theorem lane_self (s : State) (l : Lane) : { s with lanes := s.lanes.set l (s.lane l) } = s := by
  simp [State.lane]

theorem withTap_self {s : State} {l : Lane} {t : Tap} (h : t = s.tap l) : s.withTap l t = s := by
  subst h
  exact lane_self s l

theorem withGate_self {s : State} {l : Lane} {p : Passages} (h : p = s.gate l) : s.withGate l p = s := by
  subst h
  exact lane_self s l

theorem withInd_self {s : State} {l : Lane} {i : Indicator} (h : i = s.ind l) : s.withInd l i = s := by
  subst h
  exact lane_self s l

theorem withGate_withTap (s : State) (l : Lane) (p : Passages) (t : Tap) :
    (s.withGate l p).withTap l t = (s.withTap l t).withGate l p := by
  simp [State.withTap, State.withGate, State.lane]

/-! ### Results -/

theorem endUnchanged_eq (s : State) (l : Lane) (code : ResultCode) : s.endUnchanged l code = s.endTap l code none (purseRead s l) := rfl

/-- The purse as read depends on the image held alone. -/
theorem purseRead_congr {s t : State} {l : Lane} (h : (t.tap l).image = (s.tap l).image) : purseRead t l = purseRead s l := by
  rw [purseRead, purseRead, h]

/-! ### Readiness and usable banks -/

theorem toBind_eq (s : State) : s.tariff.toBind = bankToBind s := by
  simp only [bankToBind, TariffStore.toBind, TariffStore.pendingId]
  cases s.tariff.active <;> rfl

theorem zoneEntry_eq (s : State) :
    zoneEntry s = ((s.tariff.area (bankToBind s)).bank.stations[s.settings.station]?).getD (.fresh none) := by
  unfold zoneEntry
  cases bankToBind s <;> rfl

theorem pendingId_ne (t : TariffStore) : t.pendingId ≠ t.active := by
  unfold TariffStore.pendingId
  cases t.active <;> simp [otherArea]

theorem isUsable_toBind (t : TariffStore) :
    t.isUsable t.toBind = true ↔ t.pending = .switching ∨ (t.activeVersion.isSome = true ∧ t.usable = true) := by
  unfold TariffStore.isUsable TariffStore.toBind
  by_cases h : t.pending = .switching
  · simp [h, pendingId_ne]
  · simp [h]

theorem isUsable_iff (s : State) (i : AreaId) : s.tariff.isUsable i = true ↔ BankUsable s i := by
  unfold TariffStore.isUsable BankUsable TariffStore.activeVersion
  split
  next h => simp [h]
  next h => simp

/-! ### Records and places -/

theorem armed_none {s : State} {m : Memory} (h : Disarmed s m) {α : Type} (x : α) : s.store m x = (⟨x, .clean⟩, s) := by
  unfold Disarmed at h
  unfold State.store
  simp [h]

theorem appendRecord_withRecord {s : State} (r : JournalRecord) (harmed : Disarmed s .journal) (hhigh : s.journal.held + 1 ≠ 1536) :
    s.appendRecord r = s.withRecord r := by
  unfold State.appendRecord
  rw [armed_none harmed]
  have hheld : ¬(s.withRecord r).journal.held = 1536 := by
    simpa [State.withRecord, Journal.held] using hhigh
  exact if_neg hheld

/-- With room left a record is appended in either class, with no event (R125, R126). -/
theorem appendUnreserved_room {s : State} (h : HasRoom s) (c : AdmissionClass) (r : JournalRecord) :
    s.appendUnreserved c r = s.withRecord r := by
  obtain ⟨hroom, hhigh, harmed⟩ := h
  have hlimit : 1984 ≤ classLimit c := by cases c <;> decide
  have hbefore : s.journal.taken < classLimit c := by unfold Journal.taken; omega
  have hafter : ¬(s.journal.taken < 1984 ∧ 1984 ≤ (s.withRecord r).journal.taken) := by
    rw [← appendRecord_withRecord r harmed hhigh, appendRecord_taken]
    unfold Journal.taken
    omega
  unfold State.appendUnreserved
  dsimp only
  rw [if_pos hbefore, appendRecord_withRecord r harmed hhigh]
  exact if_neg hafter

end Sys2Proof.Machine

end

/-! ## Chapter 1: reports of the reader port and the card dialogue -/

section

-- Proofs are checked in order: as one text the file would otherwise hold more waiting proofs than the check has memory for.
set_option Elab.async false

namespace Sys2Proof.Machine

/-- Settles O1. -/
theorem stepRunsTheFrontCommand : Obligations.StepRunsTheFrontCommand := fun _ _ _ => rfl

/-! ### Reports in QUIET and in IDLE -/

theorem setField_tap (s : State) (l : Lane) (present : Bool) : (s.setField l present).tap l = { s.tap l with present := present } :=
  State.modTap_tap s l _

/-- A card reported to a lane in service that is not in IDLE sets the field state alone. -/
theorem cardPresent_field {s : State} {l : Lane} (hidle : (s.tap l).phase ≠ .idle) : s.cardPresent l = s.setField l true := by
  unfold State.cardPresent
  simp [setField_tap, hidle]

/-- An answer or its loss does nothing where no exchange is awaited. -/
theorem exchangeFails_discarded {s : State} {l : Lane} (h : (s.tap l).phase = .idle ∨ (s.tap l).phase = .evaluating ∨ (s.tap l).phase = .quiet) :
    s.exchangeFails l = s := by
  unfold State.exchangeFails
  rcases h with h | h | h <;> simp [h]

/-- An answer taken where it is not awaited counts as one of another type. -/
theorem takeAnswer_other {s : State} {l : Lane} {phase : TapPhase} {f : Exchange → Bool} {act : State} (hrunning : s.phase = .running)
    (h : (s.tap l).phase ≠ phase) : s.takeAnswer l phase f act = s.exchangeFails l := by
  unfold State.takeAnswer Tap.awaits State.wrongAnswer
  simp [hrunning, h]

theorem takeCommitAnswer_other {s : State} {l : Lane} {f : CommitWork → State} (hrunning : s.phase = .running)
    (h : (s.tap l).phase ≠ .committing) : s.takeCommitAnswer l f = s.exchangeFails l := by
  unfold State.takeCommitAnswer
  split
  · simp [hrunning, State.wrongAnswer]
  · exact takeAnswer_other hrunning h

theorem next_if_running {s t : State} (hrunning : s.phase = .running) : (if s.phase = .running then t else s) = t := if_pos hrunning

theorem tapsUp_running {s : State} (hrunning : s.phase = .running) : s.tapsUp = true := by simp [State.tapsUp, hrunning]

/-- Settles O3: in QUIET every report but FIELD_EMPTY leaves the phase, and every answer is one that is not awaited. -/
theorem quietWaitsForAnEmptyField : Obligations.QuietWaitsForAnEmptyField := by
  intro s l hrunning hquiet
  have htaps := tapsUp_running hrunning
  have hdiscarded : s.exchangeFails l = s := exchangeFails_discarded (.inr (.inr hquiet))
  refine ⟨?_, ?_, ?_, fun a x p i q n c hc => ?_⟩
  · have hempty : s.fieldEmpty l = s.withTap l { s.tap l with present := false, phase := .idle } := by
      unfold State.fieldEmpty
      simp [hrunning, hquiet, setField_eq, withField_eq, modTap_eq]
    simp [exec, execFieldEmpty, htaps, hempty]
  · simp [exec, execCardPresent, htaps, cardPresent_field, hquiet, setField_eq]
  · have hmultiple : s.multipleCards l = s.withField l true := by
      unfold State.multipleCards
      simp [hrunning, hquiet, setField_eq, withField_eq]
    simp [exec, execMultipleCards, htaps, hmultiple]
  · simp only [List.mem_cons, List.not_mem_nil, or_false] at hc
    rcases hc with rfl | rfl | rfl | rfl | rfl | rfl | rfl | rfl | rfl
    · simp [exec, execNoAnswer, hdiscarded]
    · simp [exec, execWrongTypeAnswer, State.wrongAnswer, hdiscarded]
    · simp [exec, execIdentifyAnswer, takeAnswer_other hrunning, hquiet, hdiscarded]
    · simp [exec, execAuthenticateAnswer, takeAnswer_other hrunning, hquiet, hdiscarded]
    · simp [exec, execReadAnswer, takeAnswer_other hrunning, hquiet, hdiscarded]
    · simp [exec, execReceipt, takeCommitAnswer_other hrunning, hquiet, hdiscarded]
    · simp [exec, execRefusedCounter, takeCommitAnswer_other hrunning, hquiet, hdiscarded]
    · simp [exec, execRefusedExhausted, takeCommitAnswer_other hrunning, hquiet, hdiscarded]
    · simp [exec, execExchangeTimeout, State.exchangeTimeout, hdiscarded]

/-! ### Readiness -/

theorem readiness_ready_iff {s : State} (hentry : (zoneEntry s).bits ≠ .double) (ordinary : Bool) :
    s.readiness ordinary = .ready ↔ s.clock.timeSet = true ∧ s.settings.isSet = true
      ∧ (s.tariff.pending = .switching ∨ (s.tariff.activeVersion.isSome = true ∧ s.tariff.usable = true))
      ∧ (zoneEntry s).val.isSome = true ∧ (ordinary = true → s.journal.held + s.journal.outstanding < 1984) := by
  have hzone := zoneEntry_eq s
  rw [← toBind_eq] at hzone
  unfold State.readiness
  dsimp only
  rw [← hzone, ← isUsable_toBind]
  cases s.clock.timeSet <;> cases s.settings.isSet <;> cases s.tariff.isUsable s.tariff.toBind <;> simp [hentry]
  have hopen : s.journal.isOpen = true ↔ s.journal.held + s.journal.outstanding < 1984 := decide_eq_true_iff
  cases (zoneEntry s).val <;> cases ordinary <;> simp [hopen]

/-- The entry that readiness reads is undamaged: its read changes nothing. -/
theorem readinessRead_clean {s : State} (hentry : (zoneEntry s).bits = .clean) : s.readinessRead = s := by
  have hzone := zoneEntry_eq s
  rw [← toBind_eq] at hzone
  unfold State.readinessRead
  dsimp only
  split
  · have hread : readAt none (s.tariff.area s.tariff.toBind).bank.stations s.settings.station = .ret (zoneEntry s).val := by
      unfold readAt
      rw [← hzone]
      exact readItem_clean none hentry
    rw [hread]
    simp [State.noteBank, State.noteFindings, Rd.ret]
  · rfl

theorem admission_iff {s : State} {l : Lane} (hentry : (zoneEntry s).bits ≠ .double) : (s.admission l).1 = true ↔ TakesTaps s l := by
  unfold State.admission TakesTaps ReadyFor
  dsimp only
  by_cases hin : (s.gate l).service = .inService
  · by_cases hwait : s.link.reset = .waiting <;> simp [hin, hwait, readiness_ready_iff hentry]
  · by_cases hemergency : (s.gate l).service = .emergencyOpen
    · by_cases hwait : s.link.reset = .waiting <;> simp [hemergency, hwait, readiness_ready_iff hentry]
    · simp [hin, hemergency]

theorem admission_state {s : State} {l : Lane} (hentry : (zoneEntry s).bits = .clean) : (s.admission l).2 = s := by
  unfold State.admission
  dsimp only
  split
  · rfl
  · split
    · rfl
    · exact readinessRead_clean hentry

/-- An uncorrectable station entry: its read is counted, its bank marked, and the tap is not ready (R94 to R96). -/
theorem admission_damaged {s : State} {l : Lane} (hentry : (zoneEntry s).bits = .double)
    (hservice : (s.gate l).service = .inService ∨ (s.gate l).service = .emergencyOpen) (hwait : s.link.reset ≠ .waiting)
    (htime : s.clock.timeSet = true) (hset : s.settings.isSet = true)
    (husable : s.tariff.pending = .switching ∨ (s.tariff.activeVersion.isSome = true ∧ s.tariff.usable = true)) :
    s.admission l = (false, s.noteBank (bankToBind s) ⟨0, 1⟩) := by
  have hzone := zoneEntry_eq s
  rw [← toBind_eq] at hzone
  have hbind := (isUsable_toBind s.tariff).mpr husable
  have hready (ordinary : Bool) : s.readiness ordinary = .noTariff := by
    unfold State.readiness
    dsimp only
    rw [← hzone]
    simp [htime, hset, hbind, hentry]
  have hread : s.readinessRead = s.noteBank (bankToBind s) ⟨0, 1⟩ := by
    unfold State.readinessRead readAt
    dsimp only
    rw [← hzone, toBind_eq]
    rw [toBind_eq] at hbind
    simp [htime, hset, hbind, readItem, hentry]
  have hopen : ¬((s.gate l).service ≠ .inService ∧ (s.gate l).service ≠ .emergencyOpen) := by tauto
  unfold State.admission
  simp only [hopen, hwait, hready, hread, if_false]
  rfl

theorem takesTaps_withField (s : State) (l : Lane) (present : Bool) : TakesTaps (s.withField l present) l ↔ TakesTaps s l := by
  have hzone (t : Tap) : zoneEntry (s.withTap l t) = zoneEntry s := rfl
  simp [TakesTaps, ReadyFor, hzone, withField_eq]

theorem endUnchanged_withField (s : State) (l : Lane) (present : Bool) (code : ResultCode) :
    (s.withField l present).endUnchanged l code = (s.withField l present).endTap l code none (purseRead s l) := by
  simp [endUnchanged_eq, withField_eq, purseRead]

theorem purseRead_noteBank (s : State) (l : Lane) (i : AreaId) (t : Tally) : purseRead (s.noteBank i t) l = purseRead s l :=
  purseRead_congr (by rw [show (s.noteBank i t).tap l = s.tap l from (noteBank_effect s i t).same (.tap l) (by simp)])

theorem txKind_eq (p : Passages) : p.txKind = if p.service = .emergencyOpen then .emergency
    else if p.config.kind = some .exit then .exit else .entry := by
  unfold Passages.txKind
  split
  · rfl
  · split
    next h => simp [h]
    next h => simp [h]
    next h => simp [h]

/-- The report of a card in IDLE, its field state set. -/
theorem cardPresent_idle {s : State} {l : Lane} (hrunning : s.phase = .running) (hidle : (s.tap l).phase = .idle) :
    exec (.cardPresent l) s = .next ((s.withField l true).tryTap l) := by
  simp [exec, execCardPresent, tapsUp_running hrunning, State.cardPresent, setField_eq, withField_eq, hrunning, hidle]

/-- The report of several cards in IDLE, the field state set. -/
theorem multipleCards_idle {s : State} {l : Lane} (hrunning : s.phase = .running) (hidle : (s.tap l).phase = .idle) :
    exec (.multipleCards l) s = .next (((s.withField l true).admission l).2.endUnchanged l
      (if ((s.withField l true).admission l).1 then .multipleCards else .notAvailable)) := by
  simp [exec, execMultipleCards, tapsUp_running hrunning, State.multipleCards, setField_eq, withField_eq, hrunning, hidle]

theorem startTap_eq (s : State) (l : Lane) : s.startTap l = s.withTap l { s.tap l with
    phase := .identifying
    kind := some (s.gate l).txKind
    bound := some s.tariff.toBind
    outstanding := some ⟨.identify, s.settings.timeout⟩ } := by
  simp [State.startTap, State.handExchange, modTap_eq]

/-- Settles O2: checks 1 to 3 of R8 over the state with the field state set, whose readiness is that of the state before. -/
theorem cardReportInIdleStartsOrRefuses : Obligations.CardReportInIdleStartsOrRefuses := by
  intro s l hrunning hidle
  have htaps := takesTaps_withField s l true
  have hcard := cardPresent_idle hrunning hidle
  have hcards := multipleCards_idle hrunning hidle
  dsimp only
  rw [hcard, hcards]
  refine ⟨fun hentry => ?_, fun hentry hservice hwait htime hset husable => ?_, ?_, ?_⟩
  · have hclean : (zoneEntry (s.withField l true)).bits = .clean := hentry
    have hdecided := admission_iff (s := s.withField l true) (l := l) (by simp [hclean])
    rw [htaps] at hdecided
    have hstate := admission_state (l := l) hclean
    unfold State.tryTap
    dsimp only
    rw [hstate]
    refine ⟨fun htakes hroom => ?_, fun htakes hin hfull => ?_, fun hrefused => ?_, fun htakes => ?_⟩
    · rw [hdecided.mpr htakes]
      have hlane : ¬((s.gate l).service = .inService ∧ 2 ≤ (s.gate l).credits.length) := fun ⟨hin, hfull⟩ => by have := hroom hin; omega
      simp [withField_eq, hlane, startTap_eq, txKind_eq, toBind_eq, bankToBind]
    · rw [hdecided.mpr htakes]
      simp [withField_eq, hin, hfull, endUnchanged_eq, purseRead]
    · have hno : ((s.withField l true).admission l).1 = false := by simpa using mt hdecided.mp hrefused
      simp [hno, endUnchanged_withField]
    · simp [hdecided.mpr htakes, endUnchanged_withField]
  · have hdamaged := admission_damaged (s := s.withField l true) (l := l) hentry (by simpa [withField_eq] using hservice) hwait htime hset
      husable
    have hbank : bankToBind (s.withField l true) = bankToBind s := rfl
    unfold State.tryTap
    rw [hdamaged, hbank]
    simp [endUnchanged_eq, purseRead_noteBank, withField_eq]
    simp [purseRead]
  · have hempty : s.fieldEmpty l = s.withField l false := by
      simp [State.fieldEmpty, setField_eq, withField_eq, hrunning, hidle]
    simp [exec, execFieldEmpty, tapsUp_running hrunning, hempty]
  · simp [exec, execNoAnswer, exchangeFails_discarded (.inl hidle)]

end Sys2Proof.Machine

end

/-! ## Chapter 1: the layout of the card image, and the answers of the dialogue -/

section

-- Proofs are checked in order: as one text the file would otherwise hold more waiting proofs than the check has memory for.
set_option Elab.async false

namespace Sys2Proof.Machine

/-! ### The card image in its bytes (R201) -/

/-- A field that holds the bytes of a word reads as the word. -/
theorem wordAt_of_field {w k offset : Nat} {bs : List Byte} {x : BitVec w} (hw : w = 8 * k)
    (h : field bs offset k = beBytes k x.toNat) : wordAt w bs offset = x := by
  have hfits : x.toNat < 256 ^ k := by
    have hpow : 2 ^ w = 256 ^ k := by rw [hw, Nat.pow_mul]
    exact hpow ▸ x.isLt
  have hk : w / 8 = k := by omega
  rw [wordAt, numberAt, hk, h, ofBytes_beBytes hfits, BitVec.ofNat_toNat, BitVec.setWidth_eq]

theorem identifyAnswerAt_imageBytes (r : RawImage) :
    identifyAnswerAt ((imageBytes r).take 12) = ⟨r.serial, r.network, r.keyVersion, r.status⟩ := by
  have hserial : field ((imageBytes r).take 12) 0 8 = beBytes 8 r.serial.toNat := by simp [imageBytes, field, beBytes]
  have hnetwork : field ((imageBytes r).take 12) 8 2 = beBytes 2 r.network.toNat := by simp [imageBytes, field, beBytes]
  rw [identifyAnswerAt, wordAt_of_field (k := 8) rfl hserial, wordAt_of_field (k := 2) rfl hnetwork]
  simp [imageBytes, byteAt, beBytes]

/-- A field of the image as its layout gives it. -/
theorem field_imageBytes (r : RawImage) :
    let bs := imageBytes r
    field bs 0 8 = beBytes 8 r.serial.toNat ∧ field bs 8 2 = beBytes 2 r.network.toNat ∧ field bs 13 2 = beBytes 2 r.classExpiry.toNat
      ∧ field bs 15 3 = beBytes 3 r.purse.toNat ∧ field bs 18 3 = beBytes 3 r.counter.toNat
      ∧ field bs 23 4 = beBytes 4 r.entryTime.toNat ∧ field bs 28 4 = beBytes 4 r.journeyTime.toNat
      ∧ field bs 32 2 = beBytes 2 r.journeyCharged.toNat ∧ field bs 35 4 = beBytes 4 r.lastExitTime.toNat
      ∧ field bs 40 2 = beBytes 2 r.accDay.toNat ∧ field bs 42 2 = beBytes 2 r.daily.toNat ∧ field bs 44 2 = beBytes 2 r.accWeek.toNat
      ∧ field bs 46 2 = beBytes 2 r.weekly.toNat := by
  simp [imageBytes, field, beBytes]

/-- A byte of the image as its layout gives it. -/
theorem byteAt_imageBytes (r : RawImage) :
    let bs := imageBytes r
    byteAt bs 10 = r.keyVersion ∧ byteAt bs 11 = r.status ∧ byteAt bs 12 = r.cls ∧ byteAt bs 21 = r.trip ∧ byteAt bs 22 = r.entryStation
      ∧ byteAt bs 27 = r.journeyStation ∧ byteAt bs 34 = r.lastExitStation ∧ byteAt bs 39 = r.lastExitPenalty := by
  simp [imageBytes, byteAt, beBytes]

theorem rawImageAt_imageBytes (r : RawImage) : rawImageAt (imageBytes r) = r := by
  obtain ⟨serial, network, expiry, purse, counter, entryTime, journeyTime, charged, exitTime, day, daily, week, weekly⟩ :=
    field_imageBytes r
  obtain ⟨keyVersion, status, cls, trip, entryStation, journeyStation, exitStation, penalty⟩ := byteAt_imageBytes r
  unfold rawImageAt
  rw [wordAt_of_field (k := 8) rfl serial, wordAt_of_field (k := 2) rfl network, wordAt_of_field (k := 2) rfl expiry,
    wordAt_of_field (k := 3) rfl purse, wordAt_of_field (k := 3) rfl counter, wordAt_of_field (k := 4) rfl entryTime,
    wordAt_of_field (k := 4) rfl journeyTime, wordAt_of_field (k := 2) rfl charged, wordAt_of_field (k := 4) rfl exitTime,
    wordAt_of_field (k := 2) rfl day, wordAt_of_field (k := 2) rfl daily, wordAt_of_field (k := 2) rfl week,
    wordAt_of_field (k := 2) rfl weekly, keyVersion, status, cls, trip, entryStation, journeyStation, exitStation, penalty]

theorem imageBytes_length (r : RawImage) : (imageBytes r).length = 48 := by simp [imageBytes]

theorem proofAt_beBytes (p : Check) : proofAt (beBytes 8 p.toNat) = p :=
  wordAt_of_field (k := 8) rfl (by rw [field, List.drop_zero, List.take_of_length_le (by simp)])

/-! ### The ends of a dialogue -/

/-- A dialogue of a lane that has not come to EVALUATING. -/
def InDialogue (s : State) (l : Lane) : Prop :=
  (s.tap l).phase = .identifying ∨ (s.tap l).phase = .authenticating ∨ (s.tap l).phase = .reading

theorem exchangeFails_dialogue {s : State} {l : Lane} (h : InDialogue s l) :
    s.exchangeFails l = s.endTap l .tapAgain none (purseRead s l) := by
  unfold State.exchangeFails
  rcases h with h | h | h <;> simp [h, endUnchanged_eq]

/-- A report that ends a transaction before its COMMIT, the field state set first. -/
theorem abort_withField (s : State) (l : Lane) (present : Bool) (code : ResultCode) : (s.withField l present).abortTap l code
    = State.endTap (State.withField { s with journal := { s.journal with reservations := s.journal.reservations.set l none } } l present)
      l code none (purseRead s l) := by
  rw [State.abortTap, endUnchanged_eq, purseRead_congr (s := s) (by simp [withField_eq])]
  rfl

/-- Settles O4: the reports and the lost answers of a lane before its COMMIT, phase by phase. -/
theorem lostAnswersAndLeavingCardsEndTheDialogue : Obligations.LostAnswersAndLeavingCardsEndTheDialogue := by
  intro s l hrunning
  have htaps := tapsUp_running hrunning
  refine ⟨fun hdialogue => ?_, fun hbefore => ?_, fun hevaluating => ?_⟩
  · have hlost := exchangeFails_dialogue hdialogue
    refine ⟨?_, ?_, fun htimer => ?_, fun hnone => ?_⟩
    · simp [exec, execNoAnswer, hrunning, hlost]
    · simp [exec, execWrongTypeAnswer, State.wrongAnswer, hrunning, hlost]
    · simp [exec, execExchangeTimeout, State.exchangeTimeout, hrunning, htimer, hlost]
    · simp [exec, execExchangeTimeout, State.exchangeTimeout, hnone]
  · have hempty : s.fieldEmpty l = (s.withField l false).abortTap l .tapAgain := by
      rcases hbefore with (h | h | h) | h <;> simp [State.fieldEmpty, setField_eq, withField_eq, hrunning, h]
    have hmultiple : s.multipleCards l = (s.withField l true).abortTap l .multipleCards := by
      rcases hbefore with (h | h | h) | h <;> simp [State.multipleCards, setField_eq, withField_eq, hrunning, h]
    have hpresent : s.cardPresent l = s.withField l true :=
      cardPresent_field (by rcases hbefore with (h | h | h) | h <;> simp [h])
    refine ⟨?_, ?_, ?_⟩
    · simp [exec, execFieldEmpty, htaps, hempty, abort_withField]
    · simp [exec, execMultipleCards, htaps, hmultiple, abort_withField]
    · simp [exec, execCardPresent, htaps, hpresent]
  · simp [exec, execNoAnswer, exchangeFails_discarded (.inr (.inl hevaluating))]

/-! ### IDENTIFY -/

theorem takeAnswer_awaited {s : State} {l : Lane} {phase : TapPhase} {f : Exchange → Bool} {act : State} {o : Outstanding}
    (hrunning : s.phase = .running) (hphase : (s.tap l).phase = phase) (ho : (s.tap l).outstanding = some o)
    (hf : f o.exchange = true) : s.takeAnswer l phase f act = act := by
  simp [State.takeAnswer, Tap.awaits, hrunning, hphase, ho, hf]

theorem lockedElsewhere_iff (s : State) (l : Lane) (ser : Serial) :
    s.lockedElsewhere l ser = false ↔ ∀ k, k ≠ l → (s.tap k).inFlight ≠ some ser := by
  unfold State.lockedElsewhere
  rw [List.any_eq_false]
  exact ⟨fun h k hk hser => h k (mem_allLanes k) (by simp [hk, hser]), fun h k _ => by
    simp only [Bool.and_eq_true, bne_iff_ne, beq_iff_eq]
    exact fun ⟨hk, hser⟩ => h k hk hser⟩

/-- No loaded slot is of the version, or the version is none of the eight (R6). -/
theorem keyFor_none {slots : List (Option KeySlot)} {version : Nat}
    (h : version < 1 ∨ 8 < version ∨ ∀ slot, some slot ∈ slots → slot.version ≠ version) : keyFor slots version = none := by
  unfold keyFor
  split
  · rfl
  next hrange =>
    have hnone : ∀ slot, some slot ∈ slots → slot.version ≠ version := by tauto
    rw [Option.map_eq_none_iff, List.findSome?_eq_none_iff]
    intro x hx
    cases x with
    | none => rfl
    | some slot => simp [hnone slot hx]

/-- The lowest-numbered slot of the version gives the key (R6). -/
theorem keyFor_slot {slots : List (Option KeySlot)} {version i : Nat} {slot : KeySlot} (hlow : 1 ≤ version) (hhigh : version ≤ 8)
    (hi : slots[i]? = some (some slot)) (hslot : slot.version = version)
    (hfirst : ∀ (j : Nat) (x : KeySlot), j < i → slots[j]? = some (some x) → x.version ≠ version) :
    keyFor slots version = some slot.key := by
  have hfound : slots.findSome? (fun k => k.filter (·.version == version)) = some slot := by
    induction slots generalizing i with
    | nil => simp at hi
    | cons y ys ih =>
      cases i with
      | zero =>
        simp only [List.getElem?_cons_zero, Option.some.injEq] at hi
        subst hi
        simp [hslot]
      | succ i =>
        have hy : y.filter (·.version == version) = none := by
          cases y with
          | none => rfl
          | some x => simp [hfirst 0 x (by omega) rfl]
        rw [List.findSome?_cons, hy]
        exact ih (by simpa using hi) fun j x hj hx => hfirst (j + 1) x (by omega) (by simpa using hx)
  rw [keyFor, if_neg (by omega), hfound]
  rfl

/-- AUTHENTICATE is handed to the port with a new challenge and the diversified key (R6, R11). -/
theorem startAuthenticate_eq (s : State) (l : Lane) (k : Key) (ser : Serial) :
    s.startAuthenticate l k ser = { s.withTap l { s.tap l with
      phase := .authenticating
      key := some (Config.diversify k ser)
      challenge := some (Config.challenge s.draws)
      outstanding := some ⟨.authenticate (Config.challenge s.draws), s.settings.timeout⟩ } with draws := s.draws + 1 } := by
  simp only [State.startAuthenticate, State.handExchange, modTap_eq, withTap_tap, withTap_withTap, withTap_settings]
  rfl

/-- Settles O5: the checks of R11 in order, over the state with the exchange ended and the answer kept. -/
theorem identifyAnswerIsChecked : Obligations.IdentifyAnswerIsChecked := by
  refine ⟨identifyAnswerAt_imageBytes, fun s l bytes time hrunning hphase hout => ?_⟩
  have htake : exec (.identifyAnswer l bytes) s = .next (s.identified l (identifyAnswerAt bytes.toList)) :=
    congrArg _ (takeAnswer_awaited hrunning hphase hout rfl)
  have helse (ser : Serial) (t : Tap) : (s.withTap l t).lockedElsewhere l ser = false ↔ ∀ k, k ≠ l → (s.tap k).inFlight ≠ some ser := by
    rw [lockedElsewhere_iff]
    exact forall_congr' fun k => forall_congr' fun hk => by rw [withTap_tap_other s hk]
  dsimp only
  rw [htake]
  generalize identifyAnswerAt bytes.toList = a
  have hknown : (s.endExchange l).modTap l (fun t => { t with ident := some a })
      = s.withTap l { s.tap l with outstanding := none, ident := some a } := by
    simp [State.endExchange, modTap_eq]
  unfold State.identified
  dsimp only
  rw [hknown]
  refine ⟨fun hzero => ?_, fun hser hlocked => ?_, fun hser hfree hhome => ?_, fun hser hfree hhome hkey => ?_,
    fun i slot hser hfree hhome hlow hhigh hi hversion hfirst => ?_⟩
  · rw [if_pos hzero]
    simp [endUnchanged_eq, purseRead]
  · rw [← helse, Bool.not_eq_false] at hlocked
    rw [if_neg hser, if_pos hlocked]
    simp [endUnchanged_eq, purseRead]
  all_goals rw [if_neg hser, if_neg (by simpa using (helse _ _).mpr hfree), modTap_eq, withTap_tap, withTap_withTap]
  · rw [if_pos (by simpa using hhome)]
    simp [endUnchanged_eq, purseRead]
  · rw [if_neg (by simpa using hhome), withTap_keys, keyFor_none hkey]
    simp [endUnchanged_eq, purseRead]
  · rw [if_neg (by simpa using hhome), withTap_keys, keyFor_slot hlow hhigh hi hversion hfirst]
    simp [startAuthenticate_eq]

/-! ### AUTHENTICATE and READ -/

@[simp] theorem withRecord_tap (s : State) (r : JournalRecord) (l : Lane) : (s.withRecord r).tap l = s.tap l := rfl

theorem proof_eq {t : Tap} {k : Key} {challenge : Check} (hkey : t.key = some k) (hchallenge : t.challenge = some challenge)
    (f : Check → CheckInput) : t.proof f = some (Config.keyedCheck k (f challenge)) := by
  simp [Tap.proof, hkey, hchallenge]

/-- A wrong response or proof is recorded, and the tap ends CARD_NOT_GENUINE (R13, R14). -/
theorem authFailed_room {s : State} (h : HasRoom s) (l : Lane) (what : DetailName) :
    s.authFailed l what = State.endTap (s.withRecord { JournalRecord.blank .authFailed (some l) with
      serial := (s.tap l).inFlight, detail := some (.named what) }) l .cardNotGenuine none (purseRead s l) := by
  rw [State.authFailed, appendUnreserved_room h]
  rfl

theorem hasRoom_withTap {s : State} (h : HasRoom s) (l : Lane) (t : Tap) : HasRoom (s.withTap l t) := h

theorem endExchange_eq (s : State) (l : Lane) : s.endExchange l = s.withTap l { s.tap l with outstanding := none } := rfl

/-- Settles O6: the response compared over the state with the exchange ended. -/
theorem authenticateAnswerIsChecked : Obligations.AuthenticateAnswerIsChecked := by
  intro s l response challenge k o hrunning hphase hout ho hkey hchallenge
  have htake : exec (.authenticateAnswer l response) s = .next (s.authenticated l response) :=
    congrArg _ (takeAnswer_awaited hrunning hphase hout (by rw [ho]; rfl))
  have hproof : ((s.endExchange l).tap l).proof .response = some (Config.keyedCheck k (.response challenge)) :=
    proof_eq (by simp [endExchange_eq, hkey]) (by simp [endExchange_eq, hchallenge]) _
  rw [htake]
  unfold State.authenticated
  dsimp only
  rw [hproof, endExchange_eq]
  refine ⟨fun hgood => ?_, fun hbad hroom => ?_⟩
  · rw [if_pos (by rw [hgood])]
    simp [State.handExchange, modTap_eq]
  · rw [if_neg (by simpa using Ne.symm hbad), authFailed_room (hasRoom_withTap hroom l _)]
    simp [purseRead]

theorem sameIdentity_iff (r : RawImage) (a : IdentifyAnswer) :
    sameIdentity r (some a) = true ↔ a.serial = r.serial ∧ a.network = r.network ∧ a.keyVersion = r.keyVersion := by
  simp [sameIdentity, and_assoc]

/-- Settles O7: the checks of R14 in order, then the bank of step 1 of R18. -/
theorem readAnswerIsChecked : Obligations.ReadAnswerIsChecked := by
  refine ⟨fun r p => ⟨rawImageAt_imageBytes r, imageBytes_length r, proofAt_beBytes p⟩, ?_⟩
  intro s l bytes tail challenge k a i time hrunning hphase hout hkey hchallenge hident hbound
  have htake : exec (.readAnswer l bytes tail) s = .next (s.imageRead l (rawImageAt bytes.toList) (proofAt tail.toList)) :=
    congrArg _ (takeAnswer_awaited hrunning hphase hout rfl)
  dsimp only
  rw [htake]
  generalize rawImageAt bytes.toList = image
  generalize proofAt tail.toList = proof
  have hproof : ((s.endExchange l).tap l).proof (.readProof image) = some (Config.keyedCheck k (.readProof image challenge)) :=
    proof_eq (by simp [endExchange_eq, hkey]) (by simp [endExchange_eq, hchallenge]) _
  have hkept : ((s.endExchange l).tap l).ident = some a := by simpa [endExchange_eq] using hident
  have hsame := sameIdentity_iff image a
  have htaken : (s.endExchange l).modTap l (fun t => { t with
      phase := .evaluating, image := some (decodeImage image), stage := some .resolution })
      = s.withTap l { s.tap l with
        phase := .evaluating, outstanding := none, image := some (decodeImage image), stage := some .resolution } := by
    simp [endExchange_eq, modTap_eq]
  have husable : (s.withTap l { s.tap l with
      phase := .evaluating, outstanding := none, image := some (decodeImage image), stage := some .resolution }).boundUsable l = true
      ↔ BankUsable s i := by
    simp [State.boundUsable, hbound, isUsable_iff]
  unfold State.imageRead
  dsimp only
  rw [hproof, hkept, htaken, endExchange_eq]
  refine ⟨fun hbad hroom => ?_, fun hgood hdiffers => ?_, fun hgood hidentity hunusable => ?_, fun hgood hidentity hok => ?_, rfl, rfl, ?_,
    ?_, ?_⟩
  · rw [if_pos (by simpa using Ne.symm hbad), authFailed_room (hasRoom_withTap hroom l _)]
    simp [purseRead]
  · rw [if_neg (by simp [hgood]), if_pos (by rw [Bool.not_eq_true', ← Bool.not_eq_true, hsame]; exact hdiffers)]
    simp [endUnchanged_eq, purseRead]
  · rw [if_neg (by simp [hgood]), if_neg (by rw [hsame.mpr hidentity]; simp), if_neg (by rw [husable]; exact hunusable)]
    simp [endUnchanged_eq, purseRead, decodeImage, decodeWritten]
  · rw [if_neg (by simp [hgood]), if_neg (by rw [hsame.mpr hidentity]; simp), if_pos (husable.mpr hok)]
  · simp [decodeImage, decodeWritten]
  · simp [decodeImage, decodeWritten]
  · simp [decodeImage, decodeWritten]

end Sys2Proof.Machine

end

/-! ## Chapter 2: lookups and card updates -/

section

-- Proofs are checked in order: as one text the file would otherwise hold more waiting proofs than the check has memory for.
set_option Elab.async false

namespace Sys2Proof.Machine

/-! ### Lookups -/

theorem lookupSighting_none {s : State} {ser : Serial} (h : ∀ x ∈ s.screening.sightings, x.val.serial ≠ ser) :
    s.lookupSighting ser = (none, s) := by
  have hfind : s.screening.sightings.find? (fun x => x.val.serial == ser) = none := by simpa [List.find?_eq_none] using h
  unfold State.lookupSighting
  rw [hfind]

theorem lookupSighting_clean {s : State} {ser : Serial} {e : Sighting}
    (h : s.screening.sightings.find? (fun x => x.val.serial == ser) = some ⟨e, .clean⟩) : s.lookupSighting ser = (some e, s) := by
  unfold State.lookupSighting
  rw [h]
  simp [State.noteRead]

theorem lookupDeny_none {s : State} {ser : Serial} (h : ∀ x ∈ s.screening.denylist, x.val.serial ≠ ser) :
    s.lookupDeny ser = (none, s) := by
  have hfind : s.screening.denylist.find? (fun x => x.val.serial == ser) = none := by simpa [List.find?_eq_none] using h
  unfold State.lookupDeny
  rw [hfind]

theorem lookupDeny_clean {s : State} {ser : Serial} {e : DenyEntry}
    (h : s.screening.denylist.find? (fun x => x.val.serial == ser) = some ⟨e, .clean⟩) : s.lookupDeny ser = (some e, s) := by
  unfold State.lookupDeny
  rw [h]
  simp [State.noteRead]

theorem lookupSuspect_none {s : State} {ser : Serial} (h : ∀ x ∈ s.screening.suspects, x.val.serial ≠ ser) :
    s.lookupSuspect ser = (none, s) := by
  have hfind : s.screening.suspects.find? (fun x => x.val.serial == ser) = none := by simpa [List.find?_eq_none] using h
  unfold State.lookupSuspect
  rw [hfind]

theorem lookupSuspect_clean {s : State} {ser : Serial} {e : SuspectEntry}
    (h : s.screening.suspects.find? (fun x => x.val.serial == ser) = some ⟨e, .clean⟩) : s.lookupSuspect ser = (some e, s) := by
  unfold State.lookupSuspect
  rw [h]
  simp [State.noteRead]

/-- One uncorrectable read of a memory (R173, R175). -/
theorem noteRead_double (s : State) (m : Memory) : s.noteRead m .double = s.struck m := by
  simp [State.noteRead, State.noteFindings, State.struck, satAdd]

/-! ### Writes of the sighting table -/

theorem replaceSighting_disarmed {s : State} (harmed : Disarmed s .sighting) (x : Sighting) :
    s.replaceSighting x = s.setSightings (withoutSighting x.serial s.screening.sightings ++ [⟨x, .clean⟩]) := by
  unfold State.replaceSighting
  rw [armed_none harmed]

theorem insertSighting_room {s : State} (harmed : Disarmed s .sighting) (hroom : s.screening.sightings.length < 16384) (x : Sighting) :
    s.insertSighting x = s.setSightings (s.screening.sightings ++ [⟨x, .clean⟩]) := by
  unfold State.insertSighting State.makeSightingRoom
  rw [if_pos hroom, armed_none harmed]

theorem withoutSighting_absent {ser : Serial} {xs : List (Stored Sighting)} (h : ∀ x ∈ xs, x.val.serial ≠ ser) :
    withoutSighting ser xs = xs := by
  unfold withoutSighting
  rw [List.filter_eq_self]
  simpa using h

/-- A card update that no held entry is ahead of takes the last place (R28). -/
theorem sighted_taken {s : State} {x : Sighting} (h : ∀ e, sightingOf s x.serial = some e → ¬x.counter < e.counter) :
    s.sighted x = s.setSightings (withoutSighting x.serial s.screening.sightings ++ [⟨x, .clean⟩]) := by
  unfold State.sighted
  refine if_neg fun hany => ?_
  cases hheld : sightingOf s x.serial with
  | none => simp [hheld] at hany
  | some e => exact h e hheld (by simpa [hheld] using hany)

/-- A card update behind the held entry is held back (R28). -/
theorem sighted_back {s : State} {x e : Sighting} (h : sightingOf s x.serial = some e) (hback : x.counter < e.counter) :
    s.sighted x = s.countScreen fun c => { c with heldBack := bump c.heldBack } := by
  unfold State.sighted
  rw [h]
  simp [hback, State.countScreen, bump, satAdd]

/-- A card update of an undamaged table with room (R28). -/
theorem cardUpdate_quiet {s : State} {ser : Serial} (h : SightingsQuiet s ser) (l : Lane) (counter : Nat) (purse : Int) (trip : Trip) :
    s.cardUpdate l ser counter purse trip = s.sighted (updateOf s l ser counter purse trip) := by
  obtain ⟨hclean, hroom, harmed⟩ := h
  unfold State.cardUpdate
  rcases hfind : s.screening.sightings.find? (fun x => x.val.serial == ser) with _ | ⟨e, bits⟩
  · have habsent : ∀ x ∈ s.screening.sightings, x.val.serial ≠ ser := by simpa [List.find?_eq_none] using hfind
    have hheld : sightingOf s ser = none := by simp only [sightingOf, hfind, Option.map_none]
    rw [lookupSighting_none habsent, sighted_taken (by simp [updateOf, hheld])]
    simp [insertSighting_room harmed hroom, updateOf, withoutSighting_absent habsent]
  · obtain rfl : bits = .clean := hclean _ hfind
    have hheld : sightingOf s ser = some e := by simp only [sightingOf, hfind, Option.map_some]
    rw [lookupSighting_clean hfind]
    by_cases hback : counter < e.counter
    · rw [sighted_back (e := e) (by simpa [updateOf] using hheld) hback]
      simp [hback]
    · rw [sighted_taken (by simpa [updateOf, hheld] using hback)]
      simp [hback, replaceSighting_disarmed harmed, updateOf]

/-- The search for an entry to evict passes pinned entries and takes the first that is not (R29). -/
theorem evictScan_pinned {pinned : Serial → Bool} {before after : List (Stored Sighting)} {x : Stored Sighting}
    (hbefore : ∀ e ∈ before, e.bits = .clean ∧ pinned e.val.serial = true) (hx : pinned x.val.serial = false) :
    evictScan pinned (before ++ x :: after) = ⟨before ++ after, ⟨0, 0⟩, true⟩ := by
  induction before with
  | nil => simp [evictScan, hx]
  | cons e es ih =>
    obtain ⟨hclean, hpinned⟩ := hbefore e (by simp)
    have hrest := ih fun y hy => hbefore y (by simp [hy])
    rw [List.cons_append, evictScan, hrest]
    simp [hpinned, hclean]

theorem pinned_iff (s : State) (ser : Serial) : s.pinned ser = true ↔ Pinned s ser := by
  have hlanes : (s.lanes.toList.any fun u => u.tap.inFlight == some ser) = true ↔ ∃ l, (s.tap l).inFlight = some ser := by
    simp [PerLane.toList, Fin.exists_fin_succ, State.tap, State.lane, PerLane.get]
  unfold State.pinned Pinned
  rw [Bool.or_eq_true, hlanes]
  simp

/-- A card update of a full table whose first unpinned entry goes (R29). -/
theorem insertSighting_evicting {s : State} {before after : List (Stored Sighting)} {x : Stored Sighting}
    (hsightings : s.screening.sightings = before ++ x :: after) (hfull : s.screening.sightings.length = 16384)
    (harmed : Disarmed s .sighting) (hbefore : ∀ e ∈ before, e.bits = .clean ∧ Pinned s e.val.serial)
    (hx : ¬Pinned s x.val.serial) (y : Sighting) :
    s.insertSighting y = { s with screening := { s.screening with
      sightings := before ++ after ++ [⟨y, .clean⟩]
      counters := { s.screening.counters with evictions := min 65535 (s.screening.counters.evictions + 1) } } } := by
  have hscan : evictScan s.pinned s.screening.sightings = ⟨before ++ after, ⟨0, 0⟩, true⟩ := by
    rw [hsightings]
    refine evictScan_pinned (fun e he => ⟨(hbefore e he).1, (pinned_iff s _).mpr (hbefore e he).2⟩) ?_
    exact (Bool.not_eq_true _).mp (mt (pinned_iff s _).mp hx)
  have hroom : s.makeSightingRoom = (s.setSightings (before ++ after)).countScreen fun c => { c with evictions := bump c.evictions } := by
    unfold State.makeSightingRoom
    rw [if_neg (by rw [hfull]; decide), hscan]
    simp [State.noteFindings]
  unfold State.insertSighting
  rw [hroom, armed_none (s := (s.setSightings (before ++ after)).countScreen _) harmed]
  simp [State.setSightings, State.countScreen, bump, satAdd]

/-- Settles O14. -/
theorem cardUpdateFollowsTheCard : Obligations.CardUpdateFollowsTheCard := by
  intro s l ser counter purse trip hrunning
  have hexec : exec (.cardUpdate l ser counter purse trip) s = .next (s.cardUpdate l ser counter.toNat purse trip) := by
    simp [exec, execCardUpdate, hrunning]
  rw [hexec]
  refine ⟨fun hquiet => by rw [cardUpdate_quiet hquiet], fun before after x hsightings hfull harmed habsent hbefore hx => ?_⟩
  unfold State.cardUpdate
  rw [lookupSighting_none habsent]
  dsimp only
  rw [insertSighting_evicting hsightings hfull harmed hbefore hx]
  rfl

end Sys2Proof.Machine

end

/-! ## Chapters 1 and 5: resolution, the commit point and the outcomes of a COMMIT -/

section

-- Proofs are checked in order: as one text the file would otherwise hold more waiting proofs than the check has memory for.
set_option Elab.async false

namespace Sys2Proof.Machine

/-! ### Awaited steps -/

/-- A step of EVALUATING that a lane awaits is served with what the lane holds. -/
theorem whenAwaited_of {s : State} {l : Lane} {stage : EvalStage} {kind : TxKind} {bank : AreaId} {c : CardImage}
    (h : Awaits s l stage kind bank c) (f : TxKind → AreaId → CardImage → State) : s.whenAwaited l stage f = f kind bank c := by
  obtain ⟨hrunning, hphase, hstage, hkind, hbound, himage⟩ := h
  simp [State.whenAwaited, hrunning, hphase, hstage, hkind, hbound, himage]

/-! ### Resolution -/

theorem lookupDoubt_none {s : State} {ser : Serial} {es : List (Stored DoubtEntry)} (h : ∀ e ∈ es, e.val.serial ≠ ser) :
    s.lookupDoubt ser es = (none, s) := by
  induction es with
  | nil => rfl
  | cons e es ih => rw [State.lookupDoubt, if_neg (h e (by simp)), ih fun x hx => h x (by simp [hx])]

theorem lookupDoubt_clean {s : State} {ser : Serial} {e : DoubtEntry} {es : List (Stored DoubtEntry)}
    (h : es.find? (fun x => x.val.serial == ser) = some ⟨e, .clean⟩) : s.lookupDoubt ser es = (some e, s) := by
  induction es with
  | nil => simp at h
  | cons x es ih =>
    rw [State.lookupDoubt]
    by_cases hx : x.val.serial = ser
    · simp only [List.find?_cons, hx, beq_self_eq_true, Option.some.injEq] at h
      rw [if_pos hx, h]
      simp [State.noteRead]
    · rw [if_neg hx]
      exact ih (by simpa [List.find?_cons, hx] using h)

theorem hasRoom_setDoubt {s : State} (h : HasRoom s) (xs : List (Stored DoubtEntry)) : HasRoom (s.setDoubt xs) := h

theorem sightingsQuiet_congr {s t : State} {ser : Serial} (hscreening : t.screening = s.screening) (hecc : t.ecc = s.ecc)
    (h : SightingsQuiet s ser) : SightingsQuiet t ser := by
  unfold SightingsQuiet Disarmed at h ⊢
  rwa [hscreening, hecc]

/-- The record kind of a resolution (R109). -/
theorem findingKind_eq (c : CardImage) (e : DoubtEntry) : findingKind (findingOf c e) = if c.counter ≤ e.counterBefore then .resolvedVoided
    else if c.counter = e.counterBefore + 1 ∧ c.w.purse = e.purse ∧ c.w.trip = e.trip ∧ c.w.status = e.status then .resolvedConfirmed
    else .resolvedUnknown := by
  unfold findingOf
  split
  · rfl
  · split <;> rfl

theorem findingOf_of_kind {c : CardImage} {e : DoubtEntry} {f : Finding} (h : findingKind (findingOf c e) = findingKind f) :
    findingOf c e = f := by
  revert h
  cases findingOf c e <;> cases f <;> simp [findingKind]

@[simp] theorem sighted_phase (s : State) (x : Sighting) : (s.sighted x).phase = s.phase := by unfold State.sighted; split <;> rfl

@[simp] theorem sighted_clock (s : State) (x : Sighting) : (s.sighted x).clock = s.clock := by unfold State.sighted; split <;> rfl

@[simp] theorem sighted_tariff (s : State) (x : Sighting) : (s.sighted x).tariff = s.tariff := by unfold State.sighted; split <;> rfl

@[simp] theorem sighted_lanes (s : State) (x : Sighting) : (s.sighted x).lanes = s.lanes := by unfold State.sighted; split <;> rfl

@[simp] theorem sighted_tap (s : State) (x : Sighting) (l : Lane) : (s.sighted x).tap l = s.tap l := by
  rw [State.tap, State.tap, State.lane_congr (sighted_lanes s x)]

@[simp] theorem sighted_gate (s : State) (x : Sighting) (l : Lane) : (s.sighted x).gate l = s.gate l := by
  rw [State.gate, State.gate, State.lane_congr (sighted_lanes s x)]

@[simp] theorem withRecord_gate (s : State) (r : JournalRecord) (l : Lane) : (s.withRecord r).gate l = s.gate l := rfl

theorem noteBank_none (s : State) (i : AreaId) : s.noteBank i ⟨0, 0⟩ = s := by simp [State.noteBank, State.noteFindings]

/-- An undamaged resume window is read with nothing found (R94). -/
theorem readWindow_clean {s : State} {i : AreaId} (h : (((s.tariff.area i).bank.header[3]?).getD (Stored.fresh 0)).bits = .clean) :
    s.readWindow i = ((((s.tariff.area i).bank.header[3]?).getD (Stored.fresh 0)).val, s) := by
  have hread : (s.tariff.area i).bank.readHeader 3 = .ret (((s.tariff.area i).bank.header[3]?).getD (Stored.fresh 0)).val :=
    readItem_clean 0 h
  unfold State.readWindow
  rw [hread]
  simp [Rd.ret, noteBank_none]

/-- The state in which the finding of a resolution is recorded (R109). -/
def State.found (s : State) (l : Lane) (c : CardImage) (e : DoubtEntry) : State :=
  State.withRecord { s with doubt := { s.doubt with entries := s.doubt.entries.eraseP fun x => x.val.serial == c.serial } }
    { JournalRecord.blank (findingKind (findingOf c e)) (some l) with
      serial := some c.serial, counter := some c.counter, reference := e.sequence, detail := some (.named (changeDetail e.change)) }

/-- The state in which the sighting table has followed a card whose finding is recorded (R110, R113). -/
def State.followed (s : State) (l : Lane) (c : CardImage) (e : DoubtEntry) : State :=
  (s.found l c e).sighted (updateOf s l c.serial c.counter c.w.purse c.w.trip)

theorem resolve_eq {s : State} {l : Lane} {c : CardImage} {e : DoubtEntry} (hserial : e.serial = c.serial) (hroom : HasRoom s)
    (hquiet : SightingsQuiet s c.serial) :
    s.resolve l c e = if findingOf c e = .voided then s.found l c e else s.followed l c e := by
  have hfound : (s.removeDoubt e.serial).appendUnreserved .mandatory { JournalRecord.blank (findingKind (findingOf c e)) (some l) with
      serial := some c.serial, counter := some c.counter, detail := some (.named (changeDetail e.change)), reference := e.sequence }
      = s.found l c e := by
    rw [appendUnreserved_room (s := s.removeDoubt e.serial) hroom, hserial]
    rfl
  have hupdate : (s.found l c e).cardUpdate l c.serial c.counter c.w.purse c.w.trip = s.followed l c e :=
    cardUpdate_quiet (s := s.found l c e) (sightingsQuiet_congr rfl rfl hquiet) l c.counter c.w.purse c.w.trip
  unfold State.resolve
  dsimp only
  rw [hfound, hupdate]

@[simp] theorem followed_tap (s : State) (l k : Lane) (c : CardImage) (e : DoubtEntry) : (s.followed l c e).tap k = s.tap k := by
  simp only [State.followed, sighted_tap]
  rfl

@[simp] theorem followed_gate (s : State) (l k : Lane) (c : CardImage) (e : DoubtEntry) : (s.followed l c e).gate k = s.gate k := by
  simp only [State.followed, sighted_gate]
  rfl

theorem followed_frame (s : State) (l : Lane) (c : CardImage) (e : DoubtEntry) :
    (s.followed l c e).phase = s.phase ∧ (s.followed l c e).clock = s.clock ∧ (s.followed l c e).tariff = s.tariff := by
  simp only [State.followed, sighted_phase, sighted_clock, sighted_tariff]
  exact ⟨rfl, rfl, rfl⟩

theorem mayResume_iff (s : State) (l : Lane) (e : DoubtEntry) : s.mayResume l e = true ↔
    e.change = .debit ∧ (s.tap l).kind = some (originalKind e) ∧ (s.gate l).service = .inService := by
  simp [State.mayResume, and_assoc]

/-- The test for resumption with an undamaged window (R111). -/
theorem testResume_clean {s : State} {l : Lane} {e : DoubtEntry} {kind : TxKind} {bank : AreaId}
    (hkind : (s.tap l).kind = some kind) (hbound : (s.tap l).bound = some bank)
    (h : (((s.tariff.area bank).bank.header[3]?).getD (Stored.fresh 0)).bits = .clean) :
    (s.testResume l e).2 = s ∧ ((s.testResume l e).1 = true ↔ e.change = .debit ∧ kind = originalKind e
      ∧ s.clock.time - e.created ≤ (((s.tariff.area bank).bank.header[3]?).getD (Stored.fresh 0)).val ∧ (s.gate l).service = .inService) := by
  have hmay := mayResume_iff s l e
  rw [hkind, Option.some.injEq] at hmay
  unfold State.testResume
  split
  next hresume =>
    obtain ⟨hdebit, hsame, hservice⟩ := hmay.mp hresume
    rw [hbound]
    dsimp only
    rw [readWindow_clean h]
    simp [hdebit, hsame, hservice, ageAt]
  next hresume => exact ⟨rfl, by simp only [Bool.false_eq_true, false_iff]; tauto⟩

/-- Settles O8: the four findings of R109 over the state in which the finding is recorded. -/
theorem resolutionFollowsTheCard : Obligations.ResolutionFollowsTheCard := by
  intro s l kind bank c hawaits
  have hexec : exec (.resolutionLookup l) s = .next (s.resolutionStep l c) := congrArg _ (whenAwaited_of hawaits _)
  obtain ⟨hrunning, -, -, hkind, hbound, -⟩ := hawaits
  dsimp only
  rw [hexec]
  unfold State.resolutionStep
  refine ⟨fun hnone => ?_, fun e hfind hroom hquiet => ?_⟩
  · rw [lookupDoubt_none hnone]
    rfl
  have hserial : e.serial = c.serial := by simpa using List.find?_some hfind
  have hresolve := resolve_eq (l := l) (e := e) hserial hroom hquiet
  have hrecord : State.withRecord
      { s with doubt := { s.doubt with entries := s.doubt.entries.eraseP fun e => e.val.serial == c.serial } }
      { JournalRecord.blank (if c.counter ≤ e.counterBefore then .resolvedVoided
        else if c.counter = e.counterBefore + 1 ∧ c.w.purse = e.purse ∧ c.w.trip = e.trip ∧ c.w.status = e.status
        then .resolvedConfirmed else .resolvedUnknown) (some l) with
        serial := some c.serial, counter := some c.counter, reference := e.sequence
        detail := some (.named (changeDetail e.change)) } = s.found l c e := by
    rw [← findingKind_eq]
    rfl
  obtain ⟨hphase, hclock, htariff⟩ := followed_frame s l c e
  have hresume (hwindow : (((s.tariff.area bank).bank.header[3]?).getD (Stored.fresh 0)).bits = .clean) :=
    testResume_clean (s := s.followed l c e) (l := l) (e := e) (kind := kind) (bank := bank) (by simpa using hkind) (by simpa using hbound)
      (by rw [htariff]; exact hwindow)
  rw [lookupDoubt_clean hfind]
  dsimp only
  rw [hresolve, hrecord, ← findingKind_eq]
  refine ⟨fun hvoided => ?_, fun hunknown => ?_, fun hconfirmed hwindow hno => ?_, fun hconfirmed hwindow hdebit hsame hage hservice => ?_⟩
  · have hfinding : findingOf c e = .voided := findingOf_of_kind hvoided
    simp [hfinding, modTap_eq]
  · have hfinding : findingOf c e = .unknown := findingOf_of_kind hunknown
    simp [hfinding, modTap_eq]
    rfl
  · have hfinding : findingOf c e = .confirmed := findingOf_of_kind hconfirmed
    obtain ⟨hstate, htest⟩ := hresume hwindow
    rw [hclock, htariff, followed_gate] at htest
    have hfails : ((s.followed l c e).testResume l e).1 = false := (Bool.not_eq_true _).mp (mt htest.mp hno)
    simp [hfinding, hfails, hstate, modTap_eq]
    rfl
  · have hfinding : findingOf c e = .confirmed := findingOf_of_kind hconfirmed
    obtain ⟨hstate, htest⟩ := hresume hwindow
    rw [hclock, htariff, followed_gate] at htest
    have hgrants := htest.mpr ⟨hdebit, hsame, hage, hservice⟩
    refine ⟨(s.followed l c e).grantCredit l c.serial, ?_, ?_⟩
    · show exec (.creditGrant l c.serial) (s.followed l c e) = _
      simp [exec, execCreditGrant, hphase, hrunning]
    · simp [hfinding, hgrants, hstate, State.settleCredit, hservice]

end Sys2Proof.Machine

end

/-! ## Chapters 1 and 5: the commit point and the outcomes of a COMMIT -/

section

-- Proofs are checked in order: as one text the file would otherwise hold more waiting proofs than the check has memory for.
set_option Elab.async false

namespace Sys2Proof.Machine

/-! ### What the in-doubt list and the journal may change -/

/-- Going from `s` to `t` nothing but the journal, the in-doubt list, the event flags and the memory check counters changes. -/
def OnlyRecords (s t : State) : Prop := t = { s with doubt := t.doubt, journal := t.journal, events := t.events, ecc := t.ecc }

theorem OnlyRecords.refl (s : State) : OnlyRecords s s := rfl

theorem OnlyRecords.trans {s t u : State} (h : OnlyRecords s t) (h' : OnlyRecords t u) : OnlyRecords s u := by
  unfold OnlyRecords at h h' ⊢
  rw [h'] at *
  rw [h]

theorem OnlyRecords.setDoubt {s t : State} (h : OnlyRecords s t) (x : Doubt) : OnlyRecords s { t with doubt := x } := by
  unfold OnlyRecords at h ⊢
  rw [h]

theorem OnlyRecords.lanes {s t : State} (h : OnlyRecords s t) : t.lanes = s.lanes := by rw [h]

theorem OnlyRecords.settings {s t : State} (h : OnlyRecords s t) : t.settings = s.settings := by rw [h]

theorem OnlyRecords.tap {s t : State} (h : OnlyRecords s t) (l : Lane) : t.tap l = s.tap l := by
  rw [State.tap, State.tap, State.lane_congr h.lanes]

theorem raise_only (s : State) (e : Event) : OnlyRecords s (s.raise e) := rfl

theorem noteRead_only (s : State) (m : Memory) (i : Integrity) : OnlyRecords s (s.noteRead m i) := by
  cases i <;> simp only [State.noteRead, State.noteFindings] <;> (repeat' split) <;> rfl

theorem store_only {α : Type} (s : State) (m : Memory) (x : α) : OnlyRecords s (s.store m x).2 := by
  unfold State.store
  dsimp only
  split <;> rfl

theorem appendRecord_only (s : State) (r : JournalRecord) : OnlyRecords s (s.appendRecord r) := by
  refine (store_only s .journal { r with time := s.clock.time }).trans ?_
  unfold State.appendRecord
  dsimp only
  split <;> rfl

theorem appendUnreserved_only (s : State) (c : AdmissionClass) (r : JournalRecord) : OnlyRecords s (s.appendUnreserved c r) := by
  unfold State.appendUnreserved
  dsimp only
  split
  · refine (appendRecord_only s r).trans ?_
    unfold State.noteClosing
    split <;> rfl
  · cases c <;> rfl

theorem abandonOldest_only (s : State) (es : List (Stored DoubtEntry)) : OnlyRecords s (s.abandonOldest es) := by
  induction es generalizing s with
  | nil => exact .refl s
  | cons e es ih =>
    rw [State.abandonOldest]
    refine (noteRead_only s .lists e.bits).trans ?_
    split
    · exact (show OnlyRecords _ _ from appendUnreserved_only (State.removeDoubt _ _) _ _).trans (ih _)
    · split
      · exact (show OnlyRecords _ _ from appendUnreserved_only (State.removeDoubt _ _) _ _).trans (raise_only _ _)
      · exact ih _

theorem writeProvisional_only (s : State) (l : Lane) (ser : Serial) (w : CommitWork) : OnlyRecords s (s.writeProvisional l ser w) := by
  have hroom : OnlyRecords s s.makeDoubtRoom := by
    unfold State.makeDoubtRoom
    split
    · exact .refl s
    · exact abandonOldest_only s _
  have hwritten := hroom.trans (store_only s.makeDoubtRoom .lists (w.entry ser l s.makeDoubtRoom.clock.time false none))
  exact hwritten.setDoubt _

/-! ### The commit point -/

theorem commitAllowed_iff {s : State} {l : Lane} {kind : TxKind} {bank : AreaId} (hkind : (s.tap l).kind = some kind)
    (hbound : (s.tap l).bound = some bank) : s.commitAllowed l = true ↔ ServiceFits s l kind ∧ BankUsable s bank := by
  have hservice : serviceMatches (some kind) (s.gate l).service = true ↔ ServiceFits s l kind := by
    cases kind <;> simp [serviceMatches, ServiceFits]
  rw [State.commitAllowed, Bool.and_eq_true, hkind, hservice, State.boundUsable, hbound]
  exact and_congr_right' (isUsable_iff s bank)

theorem classLimit_changeClass (k : ChangeKind) : classLimit (changeClass k) = if k = .debit then 1984 else 2048 := by cases k <;> rfl

theorem changeClass_eq (k : ChangeKind) : changeClass k = if k = .debit then .ordinary else .mandatory := by cases k <;> rfl

theorem noPlaceResult_eq (k : ChangeKind) :
    noPlaceResult k = if k = .debit then .noJournalRoom else if k = .lock then .denylisted else .emergencyRelease := by cases k <;> rfl

theorem withPlace_taken {s : State} {l : Lane} (hnone : s.journal.reservations.get l = none) (c : AdmissionClass) :
    (s.withPlace l c).journal.taken = s.journal.taken + 1 := by
  have hcount := taken_setReservation s l (some c)
  rw [hnone] at hcount
  simpa [State.withPlace] using hcount

/-- A granted place: JOURNAL_FULL is raised by the grant that closes ordinary admission (R126). -/
theorem reserve_granted {s : State} {l : Lane} {c : AdmissionClass} (hroom : s.journal.taken < classLimit c)
    (hnone : s.journal.reservations.get l = none) : s.reserve l c
      = (true, if s.journal.taken + 1 = 1984 then (s.withPlace l c).raise .journalFull else s.withPlace l c) := by
  have htaken := withPlace_taken hnone c
  have hcloses : (s.journal.taken < 1984 ∧ 1984 ≤ (s.withPlace l c).journal.taken) ↔ s.journal.taken + 1 = 1984 := by omega
  unfold State.reserve
  dsimp only
  rw [if_pos hroom]
  exact congrArg _ (if_congr hcloses rfl rfl)

theorem reserve_refused {s : State} {l : Lane} {c : AdmissionClass} (hfull : ¬s.journal.taken < classLimit c) :
    s.reserve l c = (false, s) := if_neg hfull

/-- COMMIT is handed to the port from a state in which a place is reserved. -/
theorem sendCommit_eq {s u : State} {l : Lane} {w : CommitWork} {ser : Serial} {k : Key} {challenge : Check} (htap : u.tap l = s.tap l)
    (hsettings : u.settings = s.settings) (hserial : (s.tap l).inFlight = some ser) (hkey : (s.tap l).key = some k)
    (hchallenge : (s.tap l).challenge = some challenge) :
    u.sendCommit l w = (u.writeProvisional l ser w).withTap l (sentTap s l ser w k challenge) := by
  have honly := writeProvisional_only u l ser w
  have htap' := (honly.tap l).trans htap
  have hsettings' := honly.settings.trans hsettings
  unfold State.sendCommit
  dsimp only
  rw [htap, hserial, Option.getD_some, proof_eq hkey hchallenge]
  simp [State.handExchange, modTap_eq, sentTap, htap', hsettings']

/-- A commit due with every step of R21 passed. -/
theorem reservationStep_granted {s : State} {l : Lane} {w : CommitWork} {ser : Serial} {k : Key} {challenge : Check}
    (hallowed : s.commitAllowed l = true) (hroom : s.journal.taken < classLimit (changeClass w.change))
    (hnone : s.journal.reservations.get l = none) (hserial : (s.tap l).inFlight = some ser) (hkey : (s.tap l).key = some k)
    (hchallenge : (s.tap l).challenge = some challenge) :
    let placed := s.withPlace l (changeClass w.change)
    let noted := if s.journal.taken + 1 = 1984 then placed.raise .journalFull else placed
    s.reservationStep l w = (noted.writeProvisional l ser w).withTap l (sentTap s l ser w k challenge) := by
  intro placed noted
  have htap : noted.tap l = s.tap l := by
    dsimp only [noted]
    split <;> rfl
  have hsettings : noted.settings = s.settings := by
    dsimp only [noted]
    split <;> rfl
  unfold State.reservationStep
  rw [hallowed, reserve_granted hroom hnone]
  exact sendCommit_eq htap hsettings hserial hkey hchallenge

theorem reservationStep_exec {s : State} {l : Lane} {kind : TxKind} {bank : AreaId} {c : CardImage} {w : CommitWork}
    (hawaits : Awaits s l .reservation kind bank c) (hwork : (s.tap l).work = some w) :
    exec (.reservationRequest l) s = .next (s.reservationStep l w) := by
  simp only [exec, execReservationRequest, hwork]
  rw [whenAwaited_of hawaits]

theorem writeProvisional_room {s : State} {l : Lane} {ser : Serial} {w : CommitWork} (hroom : s.doubt.entries.length < 32)
    (harmed : Disarmed s .lists) : s.writeProvisional l ser w = { s with doubt :=
      { entries := s.doubt.entries ++ [⟨w.entry ser l s.clock.time false none, .clean⟩]
        header := s.doubt.header.set l (some w.change) } } := by
  have hmake : s.makeDoubtRoom = s := if_pos hroom
  unfold State.writeProvisional State.addDoubt
  rw [hmake]
  dsimp only
  rw [armed_none harmed]
  rfl

theorem entry_eq_provisional (s : State) (l : Lane) (ser : Serial) (w : CommitWork) :
    w.entry ser l s.clock.time false none = provisionalEntry s l ser w := by
  have hintended : intendedResult w.change
      = if w.change = .debit then .granted else if w.change = .lock then .denylisted else .emergencyRelease := by
    cases w.change <;> rfl
  rw [provisionalEntry, ← hintended]
  rfl

/-- Settles O9: the checks of R21 made again, then the place, the entry and the exchange. -/
theorem commitTakesAPlaceThenIsSent : Obligations.CommitTakesAPlaceThenIsSent := by
  intro s l kind bank c w ser k challenge hawaits hwork hserial hkey hchallenge
  have hexec := reservationStep_exec hawaits hwork
  obtain ⟨-, -, -, hkind, hbound, -⟩ := hawaits
  have hallowed := commitAllowed_iff hkind hbound
  dsimp only
  rw [hexec, ← changeClass_eq, ← classLimit_changeClass, ← noPlaceResult_eq]
  refine ⟨fun hno => ?_, fun hfits husable hfull => ?_, fun hfits husable hroom hnone => ⟨?_, fun hlength harmed => ?_⟩⟩
  · have hrefused : s.commitAllowed l = false := (Bool.not_eq_true _).mp (mt hallowed.mp hno)
    simp [State.reservationStep, hrefused, endUnchanged_eq]
  · unfold State.reservationStep
    rw [hallowed.mpr ⟨hfits, husable⟩, reserve_refused hfull]
    rfl
  · exact congrArg _ (reservationStep_granted (hallowed.mpr ⟨hfits, husable⟩) hroom hnone hserial hkey hchallenge)
  · rw [← entry_eq_provisional]
    split <;> exact writeProvisional_room hlength harmed

/-! ### A full in-doubt list -/

/-- The oldest OPEN entry behind undamaged PROVISIONAL ones is the one abandoned (R101, R102). -/
theorem abandonOldest_first {s : State} {before after : List (Stored DoubtEntry)} {e : DoubtEntry}
    (hbefore : ∀ x ∈ before, x.bits = .clean ∧ x.val.opened = false) (hopen : e.opened = true) :
    s.abandonOldest (before ++ ⟨e, .clean⟩ :: after) = s.abandon e := by
  induction before with
  | nil => simp [State.abandonOldest, State.noteRead, hopen]
  | cons x before ih =>
    obtain ⟨hclean, hclosed⟩ := hbefore x (by simp)
    simp [State.abandonOldest, State.noteRead, hclean, hclosed, ih fun y hy => hbefore y (by simp [hy])]

/-- Removing the first entry that a test takes, those before it not taken by it. -/
theorem eraseP_first {α : Type} {p : α → Bool} {before after : List α} {e : α} (hbefore : ∀ x ∈ before, p x = false) (he : p e = true) :
    (before ++ e :: after).eraseP p = before ++ after := by
  rw [List.eraseP_append_right _ (by simpa using hbefore), List.eraseP_cons_of_pos he]

/-- The state in which the oldest OPEN entry has been abandoned and a PROVISIONAL one written (R102). -/
theorem writeProvisional_full {s : State} {l : Lane} {ser : Serial} {w : CommitWork} {before after : List (Stored DoubtEntry)}
    {e : DoubtEntry} (hentries : s.doubt.entries = before ++ ⟨e, .clean⟩ :: after) (hfull : s.doubt.entries.length = 32)
    (hbefore : ∀ x ∈ before, x.bits = .clean ∧ x.val.opened = false ∧ x.val.serial ≠ e.serial) (hopen : e.opened = true)
    (harmed : Disarmed s .lists) (hroom : HasRoom s) : s.writeProvisional l ser w = State.raise
      { s.withRecord { JournalRecord.blank .doubtAbandoned (some e.lane) with
          serial := some e.serial
          counter := some e.counterBefore
          secondCounter := some (e.counterBefore + 1)
          reference := e.sequence
          detail := some (.named (changeDetail e.change)) } with
        doubt :=
          { entries := before ++ after ++ [⟨provisionalEntry s l ser w, .clean⟩]
            header := s.doubt.header.set l (some w.change) } } .inDoubtAbandoned := by
  have hremove : s.removeDoubt e.serial = s.setDoubt (before ++ after) := by
    rw [State.removeDoubt, hentries, eraseP_first (fun x hx => by simpa using (hbefore x hx).2.2) (by simp)]
  have hmake : s.makeDoubtRoom = s.abandon e := by
    rw [State.makeDoubtRoom, if_neg (by rw [hfull]; decide), hentries, abandonOldest_first (fun x hx => ⟨(hbefore x hx).1, (hbefore x hx).2.1⟩) hopen]
  rw [← entry_eq_provisional]
  unfold State.writeProvisional State.addDoubt
  rw [hmake]
  unfold State.abandon
  dsimp only
  rw [hremove, appendUnreserved_room (hasRoom_setDoubt hroom _), armed_none (by exact harmed)]
  rfl

/-- Settles O10: the room made by abandoning, alone and in the commit that a lane sends. -/
theorem fullInDoubtListAbandonsTheOldestOpen : Obligations.FullInDoubtListAbandonsTheOldestOpen := by
  intro s l ser w before after e hentries hfull hbefore hopen harmed
  refine ⟨writeProvisional_full hentries hfull hbefore hopen harmed, ?_⟩
  intro kind bank c k challenge hawaits hwork hserial hkey hchallenge hfits husable hnone placed hroom
  have hexec := reservationStep_exec hawaits hwork
  obtain ⟨-, -, -, hkind, hbound, -⟩ := hawaits
  have htaken : s.journal.taken + 1 + 1 < 1984 := by
    obtain ⟨hroom', -, -⟩ := hroom
    rw [← withPlace_taken hnone]
    exact hroom'
  have hlimit : s.journal.taken < classLimit (changeClass w.change) := by
    rw [classLimit_changeClass]
    split <;> omega
  have hgranted := reservationStep_granted ((commitAllowed_iff hkind hbound).mpr ⟨hfits, husable⟩) hlimit hnone hserial hkey hchallenge
  have hwritten := writeProvisional_full (s := placed) (l := l) (ser := ser) (w := w) hentries hfull hbefore hopen harmed hroom
  rw [hexec, hgranted, if_neg (by omega), changeClass_eq, hwritten]
  rfl

end Sys2Proof.Machine

end

/-! ## Chapter 5: the three outcomes of a COMMIT -/

section

-- Proofs are checked in order: as one text the file would otherwise hold more waiting proofs than the check has memory for.
set_option Elab.async false

namespace Sys2Proof.Machine

/-! ### The answer awaited, and the entry it settles -/

theorem takeCommitAnswer_of {s : State} {l : Lane} {w : CommitWork} {ser : Serial} (h : Commits s l w ser) (f : CommitWork → State) :
    s.takeCommitAnswer l f = f w := by
  obtain ⟨hrunning, hphase, hwork, -, o, _, _, _, hout, hexchange⟩ := h
  rw [State.takeCommitAnswer, hwork]
  exact takeAnswer_awaited hrunning hphase hout (by rw [hexchange]; rfl)

theorem exchangeFails_committing {s : State} {l : Lane} {w : CommitWork} (hphase : (s.tap l).phase = .committing)
    (hwork : (s.tap l).work = some w) : s.exchangeFails l = s.tear l w false := by
  simp [State.exchangeFails, hphase, hwork]

theorem readProvisional_clean {s : State} {l : Lane} {e : DoubtEntry} (h : provisionalOf s l = some ⟨e, .clean⟩) :
    s.readProvisional l = (true, s) := by
  have hfind : s.doubt.entries.find? (isProvisional l) = some ⟨e, .clean⟩ := h
  unfold State.readProvisional
  rw [hfind]
  rfl

theorem provisionalOf_withTap (s : State) (l : Lane) (t : Tap) : provisionalOf (s.withTap l t) l = provisionalOf s l := rfl

theorem appendReserved_held {s : State} {l : Lane} {cls : AdmissionClass} (hheld : s.journal.reservations.get l = some cls)
    (harmed : Disarmed s .journal) (hhigh : s.journal.held + 1 ≠ 1536) (c : AdmissionClass) (r : JournalRecord) :
    s.appendReserved l c r = (s.releaseReservation l).withRecord r := by
  rw [State.appendReserved, hheld]
  exact appendRecord_withRecord (s := s.releaseReservation l) r harmed hhigh

/-! ### Confirmed and refused -/

theorem confirmedKind_eq (change : ChangeKind) (kind : Option TxKind) (reason : FareReason) : confirmedKind change kind reason
    = if change = .lock then .cardLocked else if change = .release then .emergencyExit
      else if kind = some .exit then (if reason = .penalty then .exitUnrecorded else .exit)
      else if reason = .penalty then .entryWithPenalty else .entry := by
  cases change <;> rfl

theorem receiptGood_iff {t : Tap} {w : CommitWork} {ser : Serial} {k : Key} {challenge : Check} (hserial : t.inFlight = some ser)
    (hkey : t.key = some k) (hchallenge : t.challenge = some challenge) (counter : Nat) (proof : Check) :
    receiptGood t w counter proof = true
      ↔ counter = w.counterBefore + 1 ∧ proof = Config.keyedCheck k (.receiptProof ser counter challenge) := by
  rw [receiptGood, proof_eq hkey hchallenge, hserial, Option.getD_some, Bool.and_eq_true, beq_iff_eq, beq_iff_eq, Option.some.injEq]
  exact and_congr_right' eq_comm

/-- A confirmed outcome of an undamaged entry: entry, record, sighting, credit and result, in the order of R105. -/
theorem confirm_clean {s : State} {l : Lane} {ser : Serial} {e : DoubtEntry} {cls : AdmissionClass}
    (hserial : (s.tap l).inFlight = some ser) (hentry : provisionalOf s l = some ⟨e, .clean⟩)
    (hheld : s.journal.reservations.get l = some cls) (harmed : Disarmed s .journal) (hhigh : s.journal.held + 1 ≠ 1536)
    (hquiet : SightingsQuiet s ser) (w : CommitWork) (counter : Nat) : s.confirm l w counter
      = (((s.settled l).withRecord (confirmedRecord l (s.tap l) w counter)).sighted
          (updateOf s l ser counter w.values.purse w.values.trip)).settleConfirmed l ser w := by
  have hrecorded : ((s.removeProvisional l).setHeader l none).appendReserved l (changeClass w.change)
      (confirmedRecord l (s.tap l) w counter) = (s.settled l).withRecord (confirmedRecord l (s.tap l) w counter) :=
    appendReserved_held (s := (s.removeProvisional l).setHeader l none) hheld harmed hhigh _ _
  have hupdate := cardUpdate_quiet (s := (s.settled l).withRecord (confirmedRecord l (s.tap l) w counter))
    (sightingsQuiet_congr (s := s) rfl rfl hquiet) l counter w.values.purse w.values.trip
  unfold State.confirm
  rw [readProvisional_clean hentry]
  dsimp only
  rw [hserial, Option.getD_some, hrecorded, hupdate]
  rfl

theorem confirmedRecord_eq {t : Tap} {ser : Serial} (hserial : t.inFlight = some ser) (l : Lane) (w : CommitWork) (counter : Nat) :
    confirmedRecord l t w counter =
      { JournalRecord.blank (if w.change = .lock then .cardLocked else if w.change = .release then .emergencyExit
          else if t.kind = some .exit then (if w.fareReason = .penalty then .exitUnrecorded else .exit)
          else if w.fareReason = .penalty then .entryWithPenalty else .entry) (some l) with
        serial := some ser
        counter := some counter
        charge := some w.charge
        purse := some w.values.purse
        fareReason := some w.fareReason
        version := w.version
        flags := some t.flags
        detail := if w.change = .lock then some (.reason w.lockReason) else none } := by
  rw [confirmedRecord, confirmedKind_eq, hserial]

/-- Settles O11: a receipt that passes its check is a confirmed outcome. -/
theorem goodReceiptConfirmsTheChange : Obligations.GoodReceiptConfirmsTheChange := by
  intro s l w ser k challenge proof counter e cls hcommits hkey hchallenge hentry hheld hhigh harmed hquiet hcounter hproof kind settled
    result
  have htake := takeCommitAnswer_of hcommits fun w => s.receipt l w counter.toNat proof
  obtain ⟨hrunning, -, -, hserial, -⟩ := hcommits
  have hgood := (receiptGood_iff (w := w) hserial hkey hchallenge counter.toNat proof).mpr ⟨hcounter, hproof⟩
  have hconfirm := confirm_clean (s := s.withTap l { s.tap l with outstanding := none }) (l := l) (by rw [withTap_tap]; exact hserial)
    hentry hheld harmed hhigh hquiet w counter.toNat
  rw [withTap_tap, confirmedRecord_eq (by exact hserial)] at hconfirm
  have hresult : result = .next (settled.settleConfirmed l ser w) := by
    have hreceipt : s.receipt l w counter.toNat proof = (s.endExchange l).confirm l w counter.toNat := if_pos hgood
    exact congrArg Host.Outcome.next ((htake.trans hreceipt).trans hconfirm)
  have hservice : (settled.gate l).service = (s.gate l).service := by
    simp only [settled, sighted_gate, withRecord_gate, withTap_gate]
    rfl
  have hphase : settled.phase = .running := by
    simp only [settled, sighted_phase]
    exact hrunning
  rw [hresult]
  unfold State.settleConfirmed
  refine ⟨fun hlock => by rw [hlock], fun hrelease => by rw [hrelease], fun hdebit hopen => ?_, fun hdebit hopen => ?_⟩
  · rw [hdebit]
    simp only [State.settleCredit, hservice, hopen, if_true]
  · refine ⟨settled.grantCredit l ser, ?_, ?_⟩
    · simp [exec, execCreditGrant, hphase]
    · rw [hdebit]
      simp only [State.settleCredit, hservice, hopen, if_false]

/-- A refused outcome ends with the entry and the reservation gone (R106). -/
theorem refuse_clean {s : State} {l : Lane} {e : DoubtEntry} (hentry : provisionalOf s l = some ⟨e, .clean⟩) (w : CommitWork)
    (exhausted : Bool) : (s.endExchange l).refuse l w exhausted
      = State.endTap ((s.settled l).withTap l { s.tap l with outstanding := none }) l (refusedResult exhausted w.change) none
        (purseRead s l) := by
  have hended : provisionalOf (s.endExchange l) l = some ⟨e, .clean⟩ := hentry
  rw [State.refuse, readProvisional_clean hended]
  exact (endUnchanged_eq _ _ _).trans (congrArg (State.endTap _ l _ none)
    (purseRead_congr (s := s) (by simp [State.removeProvisional, State.releaseReservation_tap, endExchange_eq])))

/-- Settles O12: nothing but the entry and the reservation is settled by a refusal. -/
theorem refusedCommitLeavesNoTrace : Obligations.RefusedCommitLeavesNoTrace := by
  intro s l w ser e hcommits hentry settled ends
  have hresult (exhausted : Bool) : refusedResult exhausted w.change
      = if w.change = .release then .emergencyRelease else if exhausted then .cardExhausted else .commitRefused := by
    cases w.change <;> rfl
  have hends (exhausted : Bool) : s.takeCommitAnswer l (fun w => (s.endExchange l).refuse l w exhausted)
      = settled.endTap l (refusedResult exhausted w.change) none (purseRead s l) :=
    (takeCommitAnswer_of hcommits _).trans (refuse_clean hentry w exhausted)
  constructor
  · have h := congrArg (Host.Outcome.next (φ := Fault) (ρ := Refusal)) (hends false)
    rwa [hresult] at h
  · have h := congrArg (Host.Outcome.next (φ := Fault) (ρ := Refusal)) (hends true)
    rwa [hresult] at h

/-! ### Torn -/

theorem seqForward_ne (q : Nat) : seqForward q 1 ≠ q := by
  unfold seqForward seqCount
  omega

/-- The state in which a torn commit is recorded against its reservation, `u` being the state its PROVISIONAL entry is read in. -/
def State.tornFrom (u : State) (l : Lane) (entries : List (Stored DoubtEntry)) (record : JournalRecord) : State :=
  State.withRecord { u with
    doubt := { entries := entries, header := u.doubt.header.set l none }
    journal := { u.journal with reservations := u.journal.reservations.set l none } } record

/-- The OPEN entry of a torn commit (R107). -/
def openedEntry (w : CommitWork) (ser : Serial) (l : Lane) (sequence created : Nat) : Stored DoubtEntry :=
  ⟨{ w.entry ser l created true none with sequence := some sequence }, .clean⟩

/-- The sequence that an entry takes from a record appended. -/
theorem takenSequence_withRecord {s : State} {l : Lane} (r : JournalRecord) :
    takenSequence s.journal ((s.releaseReservation l).withRecord r).journal = some s.journal.nextSequence :=
  if_neg (seqForward_ne s.journal.nextSequence)

/-- An undamaged entry turns OPEN in its place (R107). -/
theorem tear_clean {s : State} {l : Lane} {ser : Serial} {e : DoubtEntry} {cls : AdmissionClass} (w : CommitWork) (bad : Bool)
    (hserial : (s.tap l).inFlight = some ser) (hentry : provisionalOf s l = some ⟨e, .clean⟩)
    (hheld : s.journal.reservations.get l = some cls) (hjournal : Disarmed s .journal) (hlists : Disarmed s .lists)
    (hhigh : s.journal.held + 1 ≠ 1536) : s.tear l w bad
      = (s.tornFrom l (s.doubt.entries.map fun x =>
          if x.val.lane == l && !x.val.opened then openedEntry w ser l s.journal.nextSequence e.created else x)
        (tornRecord l (s.tap l) w bad)).endUnchanged l .inDoubt := by
  have hfind : s.doubt.entries.find? (isProvisional l) = some ⟨e, .clean⟩ := hentry
  unfold State.tear State.tearEntry
  rw [readProvisional_clean hentry]
  dsimp only
  rw [hserial, hfind, if_pos rfl, appendReserved_held hheld hjournal hhigh, takenSequence_withRecord, State.openProvisional, armed_none (by exact hlists)]
  rfl

/-- A damaged PROVISIONAL entry goes with its record (R115). -/
theorem readProvisional_double {s : State} {l : Lane} {e : DoubtEntry} {before after : List (Stored DoubtEntry)}
    (hentries : s.doubt.entries = before ++ ⟨e, .double⟩ :: after) (hlane : e.lane = l) (hclosed : e.opened = false)
    (hbefore : ∀ x ∈ before, ¬(x.val.lane = l ∧ x.val.opened = false)) (hserials : ∀ x ∈ before ++ after, x.val.serial ≠ e.serial)
    (hroom : HasRoom s) : s.readProvisional l = (false, s.lostEntry (before ++ after)) := by
  have hfind : s.doubt.entries.find? (isProvisional l) = some ⟨e, .double⟩ := by
    rw [hentries, List.find?_append, List.find?_eq_none.mpr (by simpa [isProvisional] using hbefore)]
    simp [isProvisional, hlane, hclosed]
  have hremove : (s.struck .lists).removeDoubt e.serial = (s.struck .lists).setDoubt (before ++ after) := by
    have hsame : (s.struck .lists).doubt.entries = s.doubt.entries := rfl
    rw [State.removeDoubt, hsame, hentries, eraseP_first (fun x hx => by simpa using hserials x (by simp [hx])) (by simp)]
  unfold State.readProvisional
  rw [hfind]
  dsimp only
  rw [noteRead_double, if_pos rfl, hremove, State.recordDamagedEntry, appendUnreserved_room (by exact hroom)]
  rfl

/-- In place of an uncorrectable entry, gone with its record, a new OPEN one is written at the end (R107, R115). -/
theorem tear_double {s : State} {l : Lane} {ser : Serial} {e : DoubtEntry} {cls : AdmissionClass}
    {before after : List (Stored DoubtEntry)} (w : CommitWork) (bad : Bool)
    (hserial : (s.tap l).inFlight = some ser) (hentries : s.doubt.entries = before ++ ⟨e, .double⟩ :: after) (hlane : e.lane = l)
    (hclosed : e.opened = false) (hbefore : ∀ x ∈ before, ¬(x.val.lane = l ∧ x.val.opened = false))
    (hserials : ∀ x ∈ before ++ after, x.val.serial ≠ e.serial) (hlength : before.length + after.length < 32)
    (hheld : s.journal.reservations.get l = some cls) (hlists : Disarmed s .lists) (hrooms : HasRooms s 2) : s.tear l w bad
      = ((s.lostEntry (before ++ after)).tornFrom l (before ++ after
          ++ [openedEntry w ser l (s.lostEntry (before ++ after)).journal.nextSequence s.clock.time])
        (tornRecord l (s.tap l) w bad)).endUnchanged l .inDoubt := by
  obtain ⟨hplaces, hjournal⟩ := hrooms
  have hroom : HasRoom s := ⟨by omega, by omega, hjournal⟩
  have hheldLost : (s.lostEntry (before ++ after)).journal.held = s.journal.held + 1 := by
    simp [State.lostEntry, State.withRecord, Journal.held, State.struck]
  have hmake : (s.lostEntry (before ++ after)).makeDoubtRoom = s.lostEntry (before ++ after) :=
    if_pos (show (before ++ after).length < 32 by simpa using hlength)
  have happend := appendReserved_held (s := s.lostEntry (before ++ after)) (l := l) hheld hjournal (by omega) (changeClass w.change)
    (tornRecord l (s.tap l) w bad)
  unfold State.tear State.tearEntry
  rw [readProvisional_double hentries hlane hclosed hbefore hserials hroom]
  dsimp only
  rw [hserial, if_neg (by simp), hmake, happend, takenSequence_withRecord, State.addDoubt, armed_none (by exact hlists)]
  rfl

theorem tornRecord_eq {t : Tap} {ser : Serial} (hserial : t.inFlight = some ser) (l : Lane) (w : CommitWork) (bad : Bool) :
    tornRecord l t w bad = { JournalRecord.blank .inDoubt (some l) with
      serial := some ser
      counter := some w.counterBefore
      secondCounter := some (w.counterBefore + 1)
      charge := some w.charge
      purse := some w.values.purse
      fareReason := some w.fareReason
      version := w.version
      flags := some { t.flags with receiptBad := t.flags.receiptBad || bad }
      detail := some (.named (changeDetail w.change)) } := by
  rw [tornRecord, hserial]
  rfl

theorem fieldEmpty_committing {s : State} {l : Lane} (hrunning : s.phase = .running) (hphase : (s.tap l).phase = .committing) :
    s.fieldEmpty l = (s.withTap l { s.tap l with present := false }).exchangeFails l := by
  have hfield : ((s.setField l false).tap l).phase = .committing := by
    rw [setField_tap]
    exact hphase
  have hsame : (s.setField l false).phase = .running := hrunning
  unfold State.fieldEmpty
  dsimp only
  rw [hsame, if_neg (not_not.mpr rfl), hfield]
  rfl

/-- The commands that tear a commit, `torn` being what a torn outcome makes of the lane with a tap controller as the command leaves it
(R22, R104, R107). -/
theorem tearing_commands {s : State} {l : Lane} {w : CommitWork} {ser : Serial} {k : Key} {challenge proof : Check} {counter : BitVec 24}
    (hcommits : Commits s l w ser) (hkey : (s.tap l).key = some k) (hchallenge : (s.tap l).challenge = some challenge)
    {torn : Bool → Tap → State} (htear : ∀ (t : Tap) (bad : Bool), t.inFlight = (s.tap l).inFlight → t.flags = (s.tap l).flags →
      t.image = (s.tap l).image → (s.withTap l t).tear l w bad = torn bad t) :
    exec (.noAnswer l) s = .next (torn false (s.tap l))
      ∧ exec (.exchangeTimeout l) s = .next (torn false (s.tap l))
      ∧ exec (.wrongTypeAnswer l) s = .next (torn false (s.tap l))
      ∧ exec (.fieldEmpty l) s = .next (torn false { s.tap l with present := false })
      ∧ (¬(counter.toNat = w.counterBefore + 1 ∧ proof = Config.keyedCheck k (.receiptProof ser counter.toNat challenge)) →
        exec (.receipt l counter proof) s = .next (torn true { s.tap l with outstanding := none })) := by
  have htake := takeCommitAnswer_of hcommits fun w => s.receipt l w counter.toNat proof
  obtain ⟨hrunning, hphase, hwork, hserial, o, _, _, _, hout, -⟩ := hcommits
  have hfails : s.exchangeFails l = torn false (s.tap l) := by
    have hsame := htear (s.tap l) false rfl rfl rfl
    rw [withTap_self rfl] at hsame
    exact (exchangeFails_committing hphase hwork).trans hsame
  refine ⟨?_, ?_, ?_, ?_, fun hbad => ?_⟩
  · simp only [exec, execNoAnswer]
    rw [if_pos hrunning, hfails]
  · simp only [exec, execExchangeTimeout, State.exchangeTimeout]
    rw [if_pos hrunning, hout, if_pos Option.isSome_some, hfails]
  · simp only [exec, execWrongTypeAnswer, State.wrongAnswer]
    rw [if_pos hrunning, hfails]
  · have hempty : (s.withTap l { s.tap l with present := false }).exchangeFails l = torn false { s.tap l with present := false } :=
      (exchangeFails_committing (w := w) (by rw [withTap_tap]; exact hphase) (by rw [withTap_tap]; exact hwork)).trans
        (htear _ false rfl rfl rfl)
    simp only [exec, execFieldEmpty]
    rw [if_pos (tapsUp_running hrunning), fieldEmpty_committing hrunning hphase, hempty]
  · have hgood := mt (receiptGood_iff (w := w) hserial hkey hchallenge counter.toNat proof).mp hbad
    have hreceipt : s.receipt l w counter.toNat proof = (s.endExchange l).tear l w true := if_neg hgood
    exact congrArg Host.Outcome.next ((htake.trans hreceipt).trans (htear _ true rfl rfl rfl))

theorem tornFrom_withTap (u : State) (l : Lane) (t : Tap) (entries : List (Stored DoubtEntry)) (r : JournalRecord) :
    (u.withTap l t).tornFrom l entries r = (u.tornFrom l entries r).withTap l t := rfl

/-- A lane with a torn outcome recorded ends with the purse as read (R23). -/
theorem endUnchanged_withTap {s u : State} {l : Lane} {t : Tap} (himage : t.image = (s.tap l).image) (code : ResultCode) :
    (u.withTap l t).endUnchanged l code = (u.withTap l t).endTap l code none (purseRead s l) := by
  rw [endUnchanged_eq, purseRead_congr (s := s) (by rw [withTap_tap, himage])]

/-- Settles O13: each tearing command tears over the lane's tap controller as the command leaves it. -/
theorem tornCommitOpensItsEntry : Obligations.TornCommitOpensItsEntry := by
  intro s l w ser k challenge proof counter e cls hcommits hkey hchallenge hheld hjournal hlists opened torn badReceipt tears
  have hleave (u : State) (entries : List (Stored DoubtEntry)) : _ → tears u entries :=
    tearing_commands (proof := proof) (counter := counter) (torn := torn u entries) hcommits hkey hchallenge
  obtain ⟨hrunning, hphase, hwork, hserial, -⟩ := hcommits
  refine ⟨fun hentry hhigh => hleave _ _ fun t bad hin hflags himage => ?_, ?_, ?_, ?_⟩
  · rw [tear_clean (s := s.withTap l t) w bad (by rw [withTap_tap]; exact hin.trans hserial) hentry hheld hjournal hlists hhigh,
      withTap_tap, tornRecord_eq (hin.trans hserial), hflags, tornFrom_withTap, endUnchanged_withTap himage]
    rfl
  · intro before after hentries hlane hclosed hbefore hserials hlength hrooms lost
    refine hleave _ _ fun t bad hin hflags himage => ?_
    rw [tear_double (s := s.withTap l t) w bad (by rw [withTap_tap]; exact hin.trans hserial) hentries hlane hclosed hbefore
      hserials hlength hheld hlists hrooms, withTap_tap, tornRecord_eq (hin.trans hserial), hflags]
    exact (endUnchanged_withTap (u := lost.tornFrom l _ _) himage .inDoubt)
  · simp [exec, execCardPresent, tapsUp_running hrunning, cardPresent_field, hphase, setField_eq]
  · simp [exec, execMultipleCards, tapsUp_running hrunning, State.multipleCards, setField_eq, withField_eq, hrunning, hphase]

end Sys2Proof.Machine

end

/-! ## Chapter 2: the checks of a screening request -/

section

-- Proofs are checked in order: as one text the file would otherwise hold more waiting proofs than the check has memory for.
set_option Elab.async false

namespace Sys2Proof.Machine

/-! ### Counting a screening request -/

/-- The state with a screening request counted as screened (R51). -/
def State.countedIn (s : State) : State := s.countScreen fun c => { c with screened := bump c.screened }

/-- The state with a screening request counted as unchecked while the denylist is INVALID (R39, R51). -/
def State.countedOut (s : State) : State :=
  s.countScreen fun c => { c with unchecked := if s.screening.denyValid then c.unchecked else bump c.unchecked }

theorem screen_eq (s : State) (q : ScreenRequest) : s.screen q
    = ((s.countedIn.runChecks q).1, !(s.countedIn.runChecks q).2.screening.denyValid, (s.countedIn.runChecks q).2.countedOut) := by
  have hcounted (t : State) : (if !t.screening.denyValid then t.countScreen fun c => { c with unchecked := bump c.unchecked } else t)
      = t.countedOut := by
    unfold State.countedOut
    cases t.screening.denyValid <;> rfl
  rw [← hcounted]
  rfl

/-- A count of an answer, which is not the counter of unchecked requests. -/
theorem countedOut_count (s : State) {f : ScreenCounters → ScreenCounters}
    (hf : ∀ c n, f { c with unchecked := n } = { f c with unchecked := n }) (hn : ∀ c, (f c).unchecked = c.unchecked) :
    (s.countedIn.countScreen f).countedOut = s.screenedAs f := by
  have hcounted (c : ScreenCounters) (v : Bool) : { f c with unchecked := if v then (f c).unchecked else bump (f c).unchecked }
      = f { c with unchecked := if v then c.unchecked else bump c.unchecked } := by rw [hf c (if v then _ else _), hn c]
  exact congrArg (fun c => { s with screening := { s.screening with counters := c } })
    (hcounted { s.screening.counters with screened := bump s.screening.counters.screened } s.screening.denyValid)

theorem countedOut_withRecord (s : State) (r : JournalRecord) : (s.withRecord r).countedOut = s.countedOut.withRecord r := rfl

theorem countedOut_raise (s : State) (e : Event) : (s.raise e).countedOut = s.countedOut.raise e := rfl

/-! ### What a check may change -/

/-- Going from `s` to `t` the clock, the settings, the lanes, the requests screened and the answers counted stay as they are, and the
denylist does not turn VALID. -/
structure Looked (s t : State) : Prop where
  clock : t.clock = s.clock
  settings : t.settings = s.settings
  lanes : t.lanes = s.lanes
  screened : t.screening.counters.screened = s.screening.counters.screened
  answers : t.screening.counters.answers = s.screening.counters.answers
  invalid : s.screening.denyValid = false → t.screening.denyValid = false

theorem Looked.refl (s : State) : Looked s s := ⟨rfl, rfl, rfl, rfl, rfl, id⟩

theorem Looked.trans {s t u : State} (h : Looked s t) (h' : Looked t u) : Looked s u :=
  ⟨h'.clock.trans h.clock, h'.settings.trans h.settings, h'.lanes.trans h.lanes, h'.screened.trans h.screened,
    h'.answers.trans h.answers, h'.invalid ∘ h.invalid⟩

theorem OnlyRecords.looked {s t : State} (h : OnlyRecords s t) : Looked s t := by
  rw [h]
  exact ⟨rfl, rfl, rfl, rfl, rfl, id⟩

theorem lookupSighting_looked (s : State) (ser : Serial) : Looked s (s.lookupSighting ser).2 := by
  unfold State.lookupSighting
  split
  · exact .refl s
  next e _ =>
    have hread := (noteRead_only s .sighting e.bits).looked
    dsimp only
    split
    · exact hread.trans ⟨rfl, rfl, rfl, rfl, rfl, id⟩
    · exact hread

theorem lookupDeny_looked (s : State) (ser : Serial) : Looked s (s.lookupDeny ser).2 := by
  unfold State.lookupDeny
  split
  · exact .refl s
  next e _ =>
    have hread := (noteRead_only s .lists e.bits).looked
    dsimp only
    split
    · exact hread.trans ⟨rfl, rfl, rfl, rfl, rfl, fun _ => rfl⟩
    · exact hread

theorem lookupSuspect_looked (s : State) (ser : Serial) : Looked s (s.lookupSuspect ser).2 := by
  unfold State.lookupSuspect
  split
  · exact .refl s
  next e _ =>
    have hread := (noteRead_only s .lists e.bits).looked
    dsimp only
    split
    · exact hread.trans ⟨rfl, rfl, rfl, rfl, rfl, id⟩
    · exact hread

theorem addSuspect_looked (s : State) (x : SuspectEntry) : Looked s (s.addSuspect x) := by
  have hstore := (store_only s .lists x).looked
  unfold State.addSuspect
  dsimp only
  split <;> exact hstore.trans ⟨rfl, rfl, rfl, rfl, rfl, id⟩

theorem enterSuspect_looked (s : State) (ser : Serial) (reason : SuspectReason) (foundAt : Source) :
    Looked s (s.enterSuspect ser reason foundAt) := by
  unfold State.enterSuspect
  dsimp only
  split
  · exact lookupDeny_looked s ser
  · have hlooked := (lookupDeny_looked s ser).trans (lookupSuspect_looked _ ser)
    split
    · exact hlooked
    · exact hlooked.trans (addSuspect_looked _ _)

theorem noteBank_looked (s : State) (i : AreaId) (t : Tally) : Looked s (s.noteBank i t) := by
  unfold State.noteBank State.noteFindings
  dsimp only
  (repeat' split) <;> exact ⟨rfl, rfl, rfl, rfl, rfl, id⟩

theorem findClone_looked (s : State) (q : ScreenRequest) (e : Sighting) (reason : SuspectReason) :
    Looked s (s.findClone q e reason).2 := by
  refine (enterSuspect_looked s q.card.serial reason (.lane q.lane)).trans ?_
  exact OnlyRecords.looked ((appendUnreserved_only _ .mandatory _).trans (raise_only _ .cloneSuspect))

/-- The counters of the answers (R51). -/
inductive AnswerCounter where
  | clear | blocked | denylistHits | suspectHits | regressions | divergences | travelFindings | exhausted | imageInvalid

/-- One of the nine answers counted (R51). -/
def AnswerCounter.count (k : AnswerCounter) (c : ScreenCounters) : ScreenCounters :=
  match k with
  | .clear => { c with clear := bump c.clear }
  | .blocked => { c with blocked := bump c.blocked }
  | .denylistHits => { c with denylistHits := bump c.denylistHits }
  | .suspectHits => { c with suspectHits := bump c.suspectHits }
  | .regressions => { c with regressions := bump c.regressions }
  | .divergences => { c with divergences := bump c.divergences }
  | .travelFindings => { c with travelFindings := bump c.travelFindings }
  | .exhausted => { c with exhausted := bump c.exhausted }
  | .imageInvalid => { c with imageInvalid := bump c.imageInvalid }

/-- A check either finds nothing and counts no answer, or answers and counts its answer once. -/
def Checks (s : State) (r : Option ScreenAnswer × State) : Prop :=
  match r.1 with
  | none => Looked s r.2
  | some _ => ∃ u k, Looked s u ∧ Looked (u.countScreen (AnswerCounter.count k)) r.2

theorem Checks.after {s t : State} {r : Option ScreenAnswer × State} (h : Looked s t) (h' : Checks t r) : Checks s r := by
  unfold Checks at h' ⊢
  split
  next hr => rw [hr] at h'; exact h.trans h'
  next hr =>
    rw [hr] at h'
    obtain ⟨u, k, hu, hk⟩ := h'
    exact ⟨u, k, h.trans hu, hk⟩

theorem checkBlocked_checks (s : State) (q : ScreenRequest) : Checks s (s.checkBlocked q) := by
  unfold State.checkBlocked
  split
  · refine ⟨s, .blocked, .refl s, ?_⟩
    dsimp only
    split
    · exact (appendUnreserved_only _ _ _).looked
    · exact .refl _
  · exact Looked.refl s

theorem checkDenylist_checks (s : State) (q : ScreenRequest) : Checks s (s.checkDenylist q) := by
  unfold State.checkDenylist
  split
  · exact Looked.refl s
  · have hlooked := lookupDeny_looked s q.card.serial
    dsimp only
    split
    · exact hlooked
    · exact ⟨_, .denylistHits, hlooked, (OnlyRecords.looked (appendUnreserved_only _ .mandatory _)).trans (raise_only _ .denylistHit).looked⟩

theorem checkSuspect_checks (s : State) (q : ScreenRequest) : Checks s (s.checkSuspect q) := by
  have hlooked := lookupSuspect_looked s q.card.serial
  unfold State.checkSuspect
  dsimp only
  split
  · exact hlooked
  · refine ⟨_, .suspectHits, hlooked, ?_⟩
    dsimp only
    split
    · exact (OnlyRecords.looked (appendUnreserved_only _ .ordinary _)).trans (raise_only _ .cloneSuspect).looked
    · exact .refl _

theorem checkSighting_checks (s : State) (q : ScreenRequest) : Checks s (s.checkSighting q) := by
  have hlooked := lookupSighting_looked s q.card.serial
  unfold State.checkSighting
  dsimp only
  split
  · exact hlooked
  · split
    · exact ⟨_, .regressions, hlooked, findClone_looked _ q _ _⟩
    · split
      · exact ⟨_, .divergences, hlooked, findClone_looked _ q _ _⟩
      · split
        · exact ⟨_, .travelFindings, hlooked.trans (noteBank_looked _ q.bank _), findClone_looked _ q _ _⟩
        · exact hlooked.trans (noteBank_looked _ q.bank _)

theorem checkImage_checks (s : State) (q : ScreenRequest) :
    ∃ k, (s.checkImage q).2 = s.countScreen (AnswerCounter.count k) := by
  unfold State.checkImage
  split
  · exact ⟨.exhausted, rfl⟩
  · split
    · exact ⟨.imageInvalid, rfl⟩
    · exact ⟨.clear, rfl⟩

/-- The checks count exactly one answer between them (R37, R51). -/
theorem runChecks_counts (s : State) (q : ScreenRequest) :
    ∃ u k, Looked s u ∧ Looked (u.countScreen (AnswerCounter.count k)) (s.runChecks q).2 := by
  unfold State.runChecks
  have hblocked := checkBlocked_checks s q
  rcases hr : s.checkBlocked q with ⟨_ | a, s1⟩
  case some => rw [hr] at hblocked; exact hblocked
  rw [hr] at hblocked
  have hdeny := (checkDenylist_checks s1 q).after hblocked
  dsimp only
  rcases hr : s1.checkDenylist q with ⟨_ | a, s2⟩
  case some => rw [hr] at hdeny; exact hdeny
  rw [hr] at hdeny
  have hsuspect := (checkSuspect_checks s2 q).after hdeny
  dsimp only
  rcases hr : s2.checkSuspect q with ⟨_ | a, s3⟩
  case some => rw [hr] at hsuspect; exact hsuspect
  rw [hr] at hsuspect
  have hsighting := (checkSighting_checks s3 q).after hsuspect
  dsimp only
  rcases hr : s3.checkSighting q with ⟨_ | a, s4⟩
  case some => rw [hr] at hsighting; exact hsighting
  rw [hr] at hsighting
  obtain ⟨k, hk⟩ := checkImage_checks s4 q
  exact ⟨s4, k, hsighting, by dsimp only; rw [hk]; exact .refl _⟩

/-- An answer counted raises the sum of the answers by one while none of them is at its limit (R51). -/
theorem count_answers (k : AnswerCounter) {c : ScreenCounters} (h : ∀ n ∈ c.answers, n < 65535) :
    (k.count c).answers.sum = c.answers.sum + 1 := by
  simp only [ScreenCounters.answers, List.forall_mem_cons, List.not_mem_nil, false_imp_iff, implies_true, and_true] at h
  cases k <;> simp only [AnswerCounter.count, ScreenCounters.answers, List.sum_cons, List.sum_nil, bump, satAdd] <;> omega

theorem count_screened (k : AnswerCounter) (c : ScreenCounters) : (k.count c).screened = c.screened := by cases k <;> rfl

/-- Settles O18: the request is counted in, and its checks count one answer between them. -/
theorem everyScreeningIsCountedOnce : Obligations.EveryScreeningIsCountedOnce := by
  intro s q hscreened hanswers
  obtain ⟨u, k, hbefore, hafter⟩ := runChecks_counts s.countedIn q
  rw [screen_eq]
  have hanswersBefore : u.screening.counters.answers = s.screening.counters.answers := hbefore.answers
  have hscreenedBefore : u.screening.counters.screened = min 65535 (s.screening.counters.screened + 1) := hbefore.screened
  constructor
  · have hcount : (s.countedIn.runChecks q).2.screening.counters.screened = u.screening.counters.screened :=
      hafter.screened.trans (count_screened k _)
    show (s.countedIn.runChecks q).2.screening.counters.screened = _
    omega
  · show (s.countedIn.runChecks q).2.screening.counters.answers.sum = _
    rw [hafter.answers]
    exact (count_answers k (by rw [hanswersBefore]; exact hanswers)).trans (by rw [hanswersBefore])

/-! ### The checks, each said once -/

theorem checkBlocked_active {s : State} {q : ScreenRequest} (h : q.card.w.status = .active) : s.checkBlocked q = (none, s) := by
  simp [State.checkBlocked, h]

theorem checkDenylist_invalid {s : State} {q : ScreenRequest} (h : s.screening.denyValid = false) : s.checkDenylist q = (none, s) := by
  simp [State.checkDenylist, h]

theorem checkDenylist_unlisted {s : State} {q : ScreenRequest} (h : ∀ x ∈ s.screening.denylist, x.val.serial ≠ q.card.serial) :
    s.checkDenylist q = (none, s) := by
  unfold State.checkDenylist
  rw [lookupDeny_none h]
  exact ite_self _

theorem checkSuspect_unlisted {s : State} {q : ScreenRequest} (h : ∀ x ∈ s.screening.suspects, x.val.serial ≠ q.card.serial) :
    s.checkSuspect q = (none, s) := by
  unfold State.checkSuspect
  rw [lookupSuspect_none h]

/-- The checks past the lists (R37). -/
def State.checksPastLists (s : State) (q : ScreenRequest) : ScreenAnswer × State :=
  match s.checkSighting q with
  | (some a, s) => (a, s)
  | (none, s) => s.checkImage q

/-- A card that is in no list comes to the checks past them. -/
theorem runChecks_unlisted {s : State} {q : ScreenRequest} (hactive : q.card.w.status = .active) (h : Unlisted s q.card.serial) :
    s.runChecks q = s.checksPastLists q := by
  obtain ⟨hdeny, hsuspects⟩ := h
  unfold State.runChecks
  rw [checkBlocked_active hactive]
  dsimp only
  rw [checkDenylist_unlisted hdeny]
  dsimp only
  rw [checkSuspect_unlisted hsuspects]
  rfl

/-- A hit in the denylist (R39). -/
theorem runChecks_denied {s : State} {q : ScreenRequest} {e : DenyEntry} (hactive : q.card.w.status = .active)
    (hvalid : s.screening.denyValid = true)
    (hfind : s.screening.denylist.find? (fun x => x.val.serial == q.card.serial) = some ⟨e, .clean⟩) (hroom : HasRoom s) :
    s.runChecks q = (denyAnswer q.kind e, ((s.countScreen fun n => { n with denylistHits := bump n.denylistHits }).withRecord
      { JournalRecord.blank .denylistHit (some q.lane) with
        serial := some q.card.serial
        counter := some q.card.counter
        action := some e.action
        detail := some (.reason e.reason) }).raise .denylistHit) := by
  have hcheck := lookupDeny_clean hfind
  unfold State.runChecks State.checkDenylist
  rw [checkBlocked_active hactive]
  dsimp only
  rw [hvalid, hcheck]
  dsimp only
  rw [appendUnreserved_room (by exact hroom)]
  rfl

/-- A serial that stands in the suspect list and in no entry of the denylist comes to check 3 (R37, R41). -/
theorem runChecks_suspected {s : State} {q : ScreenRequest} {e : SuspectEntry} (hactive : q.card.w.status = .active)
    (hdeny : ∀ x ∈ s.screening.denylist, x.val.serial ≠ q.card.serial)
    (hfind : s.screening.suspects.find? (fun x => x.val.serial == q.card.serial) = some ⟨e, .clean⟩) :
    s.runChecks q = (.refuse .suspect,
      if q.kind = .emergency then
        ((s.countScreen fun n => { n with suspectHits := bump n.suspectHits }).appendUnreserved .ordinary
          { JournalRecord.blank .cloneDetected (some q.lane) with
            serial := some q.card.serial
            counter := some q.card.counter
            detail := some (.named .suspectListed) }).raise .cloneSuspect
      else s.countScreen fun n => { n with suspectHits := bump n.suspectHits }) := by
  unfold State.runChecks
  rw [checkBlocked_active hactive]
  dsimp only
  rw [checkDenylist_unlisted hdeny]
  dsimp only
  unfold State.checkSuspect
  rw [lookupSuspect_clean hfind]

/-- The denylist's answers. -/
def ByDenylist (a : ScreenAnswer) : Prop := (∃ r, a = .lock r) ∨ a = .refuse .denylisted

theorem checkSuspect_answer (s : State) (q : ScreenRequest) (a : ScreenAnswer) (h : (s.checkSuspect q).1 = some a) : ¬ByDenylist a := by
  unfold State.checkSuspect at h
  dsimp only at h
  split at h <;> cases h
  simp [ByDenylist]

theorem checkSighting_answer (s : State) (q : ScreenRequest) (a : ScreenAnswer) (h : (s.checkSighting q).1 = some a) : ¬ByDenylist a := by
  unfold State.checkSighting at h
  dsimp only at h
  (repeat' split at h) <;> cases h <;> simp [ByDenylist]

theorem checkImage_answer (s : State) (q : ScreenRequest) : ¬ByDenylist (s.checkImage q).1 := by
  unfold State.checkImage
  (repeat' split) <;> simp [ByDenylist]

/-- Check 2 does not fire while the denylist is INVALID, so that no check answers by it (R33, R39). -/
theorem runChecks_invalid {s : State} {q : ScreenRequest} (hactive : q.card.w.status = .active) (h : s.screening.denyValid = false) :
    ¬ByDenylist (s.runChecks q).1 := by
  unfold State.runChecks
  rw [checkBlocked_active hactive]
  dsimp only
  rw [checkDenylist_invalid h]
  dsimp only
  rcases hsuspect : s.checkSuspect q with ⟨_ | a, t⟩
  · dsimp only
    rcases hsighting : t.checkSighting q with ⟨_ | a, u⟩
    · exact checkImage_answer u q
    · exact checkSighting_answer t q a (by rw [hsighting])
  · exact checkSuspect_answer s q a (by rw [hsuspect])

/-- The denylist never turns VALID in a screening. -/
theorem checks_denyValid {s : State} {q : ScreenRequest} (h : s.screening.denyValid = false) :
    (s.runChecks q).2.screening.denyValid = false := by
  obtain ⟨u, k, hbefore, hafter⟩ := runChecks_counts s q
  exact hafter.invalid (hbefore.invalid h)

/-- Settles O15: checks 1 to 3, each on the request counted as screened. -/
theorem blockedDenylistedAndSuspectCardsAreAnswered : Obligations.BlockedDenylistedAndSuspectCardsAreAnswered := by
  intro s q unchecked note locked suspected
  have hlocked : (s.countedIn.countScreen fun n => { n with blocked := bump n.blocked }).countedOut = locked :=
    countedOut_count s (fun _ _ => rfl) fun _ => rfl
  have hsuspected : (s.countedIn.countScreen fun n => { n with suspectHits := bump n.suspectHits }).countedOut = suspected :=
    countedOut_count s (fun _ _ => rfl) fun _ => rfl
  have hdenied : (s.countedIn.countScreen fun n => { n with denylistHits := bump n.denylistHits }).countedOut
      = s.screenedAs fun n => { n with denylistHits := min 65535 (n.denylistHits + 1) } :=
    countedOut_count s (fun _ _ => rfl) fun _ => rfl
  have hroomIn (hroom : HasRoom s) (f : ScreenCounters → ScreenCounters) : HasRoom (s.countedIn.countScreen f) := hroom
  rw [screen_eq]
  refine ⟨fun hblocked hkind => ?_, fun hblocked hkind hroom => ?_, fun e hactive hvalid hfind hroom => ?_,
    fun hactive hinvalid => ⟨?_, ?_⟩, fun e hactive hdeny hfind => ⟨fun hkind => ?_, fun hkind hroom => ?_⟩⟩
  · have hcheck : s.countedIn.runChecks q = (.refuse .cardLocked, s.countedIn.countScreen fun n => { n with blocked := bump n.blocked }) := by
      simp [State.runChecks, State.checkBlocked, hblocked, hkind]
    rw [hcheck, ← hlocked]
    rfl
  · have hcheck : s.countedIn.runChecks q = (.refuse .cardLocked,
        (s.countedIn.countScreen fun n => { n with blocked := bump n.blocked }).withRecord (note .cardLocked .blockedSeen)) := by
      rw [← appendUnreserved_room (hroomIn hroom _) .ordinary]
      simp [State.runChecks, State.checkBlocked, hblocked, hkind, note]
    rw [hcheck, ← hlocked]
    rfl
  · rw [runChecks_denied (s := s.countedIn) hactive hvalid hfind hroom, ← hdenied]
    exact Prod.ext rfl (Prod.ext (congrArg not hvalid) rfl)
  · rw [checks_denyValid (by exact hinvalid)]
    rfl
  · have h := runChecks_invalid (s := s.countedIn) hactive hinvalid
    exact fun r => ⟨fun hr => h (.inl ⟨r, hr⟩), fun hr => h (.inr hr)⟩
  · rw [runChecks_suspected (s := s.countedIn) hactive hdeny hfind, if_neg hkind, ← hsuspected]
    rfl
  · rw [runChecks_suspected (s := s.countedIn) hactive hdeny hfind, if_pos hkind, appendUnreserved_room (hroomIn hroom _), ← hsuspected]
    rfl

/-! ### Clone findings -/

/-- A serial that stands in a list already leaves both lists as they are (R34). -/
theorem enterSuspect_listed {s : State} {ser : Serial} (h : Listed s ser) (reason : SuspectReason) (foundAt : Source) :
    s.enterSuspect ser reason foundAt = s := by
  unfold State.enterSuspect
  rcases h with ⟨e, hdeny⟩ | ⟨hdeny, e, hsuspect⟩
  · rw [lookupDeny_clean hdeny]
    rfl
  · rw [lookupDeny_none hdeny]
    dsimp only
    rw [if_neg (by simp), lookupSuspect_clean hsuspect]
    rfl

/-- A serial that stands in no list enters the suspect list (R34). -/
theorem enterSuspect_unlisted {s : State} {ser : Serial} (h : Unlisted s ser) (harmed : Disarmed s .lists) (reason : SuspectReason)
    (foundAt : Source) : s.enterSuspect ser reason foundAt
      = { s with screening := s.screening.suspecting ⟨ser, reason, s.clock.time, foundAt⟩ } := by
  obtain ⟨hdeny, hsuspects⟩ := h
  unfold State.enterSuspect
  rw [lookupDeny_none hdeny]
  dsimp only
  rw [if_neg (by simp), lookupSuspect_none hsuspects]
  dsimp only
  rw [if_neg (by simp)]
  unfold State.addSuspect Screening.suspecting
  rw [armed_none harmed]
  dsimp only
  split <;> rfl

/-- The record of a clone finding (R44). -/
def cloneRecord (q : ScreenRequest) (e : Sighting) (d : DetailName) : JournalRecord :=
  { JournalRecord.blank .cloneDetected (some q.lane) with
    serial := some q.card.serial
    counter := some q.card.counter
    secondCounter := some e.counter
    secondStation := some e.station
    source := some e.source
    detail := some (.named d) }

theorem findClone_of_entered {s u : State} {q : ScreenRequest} {e : Sighting} {reason : SuspectReason}
    (hentered : s.enterSuspect q.card.serial reason (.lane q.lane) = u) (hroom : HasRoom u) : s.findClone q e reason
      = (some (.refuse .cloneDetected), (u.withRecord (cloneRecord q e (suspectDetail reason))).raise .cloneSuspect) := by
  unfold State.findClone
  dsimp only
  rw [hentered, appendUnreserved_room hroom]
  rfl

/-- The suspect list is entered by a request before or after it is counted as unchecked (R51). -/
theorem countedOut_suspecting (s : State) (x : SuspectEntry) :
    State.countedOut { s with screening := s.screening.suspecting x }
      = { s.countedOut with screening := s.countedOut.screening.suspecting x } := by
  unfold State.countedOut Screening.suspecting State.countScreen
  dsimp only
  split <;> rfl

/-- A clone finding of a card that is in no list (R44). -/
theorem screen_finding {s : State} {q : ScreenRequest} {e : Sighting} {reason : SuspectReason} {f : ScreenCounters → ScreenCounters}
    (hactive : q.card.w.status = .active) (hunlisted : Unlisted s q.card.serial) (harmed : Disarmed s .lists) (hroom : HasRoom s)
    (hf : ∀ c n, f { c with unchecked := n } = { f c with unchecked := n }) (hn : ∀ c, (f c).unchecked = c.unchecked)
    (hcheck : s.countedIn.checkSighting q = (s.countedIn.countScreen f).findClone q e reason) : s.screen q
      = (.refuse .cloneDetected, !s.screening.denyValid, State.raise
        { (s.screenedAs f).withRecord (cloneRecord q e (suspectDetail reason)) with
          screening := (s.screenedAs f).screening.suspecting ⟨q.card.serial, reason, s.clock.time, .lane q.lane⟩ } .cloneSuspect) := by
  have hentered := enterSuspect_unlisted (s := s.countedIn.countScreen f) hunlisted harmed reason (.lane q.lane)
  have hfound := findClone_of_entered (e := e) hentered hroom
  have hsuspected := countedOut_suspecting (s.countedIn.countScreen f)
    ⟨q.card.serial, reason, (s.countedIn.countScreen f).clock.time, .lane q.lane⟩
  have hvalid : ((s.countedIn.countScreen f).screening.suspecting ⟨q.card.serial, reason, s.clock.time, .lane q.lane⟩).denyValid
      = s.screening.denyValid := by
    unfold Screening.suspecting
    split <;> rfl
  rw [screen_eq, runChecks_unlisted (s := s.countedIn) hactive hunlisted, State.checksPastLists, hcheck, hfound]
  dsimp only
  rw [countedOut_raise, countedOut_withRecord, hsuspected, countedOut_count s hf hn]
  exact Prod.ext rfl (Prod.ext (congrArg not hvalid) rfl)

theorem diverges_iff (c : CardImage) (e : Sighting) :
    diverges c e = true ↔ (∃ p, e.purse = some p ∧ p ≠ c.w.purse) ∨ ∃ x, e.trip = some x ∧ x ≠ c.w.trip := by
  simp [diverges, Option.any_eq_true]

/-- Check 6 over undamaged items (R43). -/
theorem travelTooShort_clean {s : State} {bank : AreaId} {e : Sighting} (h : TravelReadable s bank e) :
    let r := (s.tariff.area bank).bank.travelTooShort s.settings.station s.clock.time s.settings.skew e
    r.tally = ⟨0, 0⟩ ∧ (r.val = true ↔ ImpossibleTravel s bank e) := by
  obtain ⟨horigin, hhere, htimes⟩ := h
  have hreadOrigin : readAt none (s.tariff.area bank).bank.stations e.station = .ret (zoneAt (s.tariff.area bank).bank e.station).val :=
    readItem_clean none horigin
  have hreadHere : readAt none (s.tariff.area bank).bank.stations s.settings.station
      = .ret (zoneAt (s.tariff.area bank).bank s.settings.station).val := readItem_clean none hhere
  have hreadTimes (o d : Nat) : readAt 0 (s.tariff.area bank).bank.travelTimes (o * 16 + d)
      = .ret (((s.tariff.area bank).bank.travelTimes[o * 16 + d]?).getD (Stored.fresh 0)).val := readItem_clean 0 (htimes o d)
  unfold ImpossibleTravel Bank.travelTooShort
  dsimp only
  rw [hreadOrigin, hreadHere]
  by_cases hstation : e.station = s.settings.station
  · simp [hstation, Rd.ret]
  · rw [if_neg hstation, Rd.ret_bind]
    rcases (zoneAt (s.tariff.area bank).bank e.station).val with _ | o
    · simp [Rd.ret]
    · dsimp only
      rw [Rd.ret_bind]
      rcases (zoneAt (s.tariff.area bank).bank s.settings.station).val with _ | d
      · simp [Rd.ret]
      · dsimp only
        rw [hreadTimes, Rd.ret_bind]
        refine ⟨rfl, ⟨fun h => ⟨hstation, o, d, rfl, rfl, of_decide_eq_true h⟩, ?_⟩⟩
        rintro ⟨-, _, _, ⟨⟩, ⟨⟩, hshort⟩
        exact decide_eq_true hshort

/-- Settles O16: the three findings of checks 4 to 6, and a finding of a listed serial. -/
theorem cloneFindingsAreRecordedAndSuspected : Obligations.CloneFindingsAreRecordedAndSuspected := by
  refine ⟨fun s q e hactive hunlisted hfind htravel harmed hroom => ?_, fun s q e reason d hlisted hroom hreason => ?_⟩
  · have hlookup : s.countedIn.lookupSighting q.card.serial = (some e, s.countedIn) := lookupSighting_clean hfind
    have hdiverges := diverges_iff q.card e
    obtain ⟨htally, hshort⟩ := travelTooShort_clean (s := s.countedIn) htravel
    refine ⟨fun hlower => ?_, fun hequal hdiffers => ?_, fun hlower hdiffers himpossible => ?_⟩
    · refine screen_finding hactive hunlisted harmed hroom (fun _ _ => rfl) (fun _ => rfl) ?_
      unfold State.checkSighting
      rw [hlookup]
      dsimp only
      rw [if_pos hlower]
      rfl
    · refine screen_finding hactive hunlisted harmed hroom (fun _ _ => rfl) (fun _ => rfl) ?_
      unfold State.checkSighting
      rw [hlookup]
      dsimp only
      rw [if_neg (by omega), if_pos ⟨hequal, hdiverges.mpr hdiffers⟩]
      rfl
    · refine screen_finding hactive hunlisted harmed hroom (fun _ _ => rfl) (fun _ => rfl) ?_
      unfold State.checkSighting
      rw [hlookup]
      dsimp only
      rw [if_neg hlower, if_neg (fun h => hdiffers ⟨h.1, hdiverges.mp h.2⟩), htally, noteBank_none, if_pos (hshort.mpr himpossible)]
      rfl
  · have hdetail : d = suspectDetail reason := by
      simp only [List.mem_cons, Prod.mk.injEq, List.not_mem_nil, or_false] at hreason
      rcases hreason with ⟨rfl, rfl⟩ | ⟨rfl, rfl⟩ | ⟨rfl, rfl⟩ <;> rfl
    rw [findClone_of_entered (enterSuspect_listed hlisted reason (.lane q.lane)) hroom, hdetail]
    rfl

/-! ### The last checks -/

theorem imageInvalid_iff (c : CardImage) : imageInvalid c = true ↔ OutOfRange c := by
  simp [imageInvalid, OutOfRange, or_assoc, and_assoc]

/-- Settles O17: no check before check 7 fires. -/
theorem lastScreeningChecksThenClear : Obligations.LastScreeningChecksThenClear := by
  intro s q hactive hunlisted hsighting unchecked
  have hpasses : s.countedIn.checkSighting q = (none, s.countedIn) := by
    unfold State.checkSighting
    rcases hfind : s.screening.sightings.find? (fun x => x.val.serial == q.card.serial) with _ | ⟨e, bits⟩
    · have hlookup : s.countedIn.lookupSighting q.card.serial = (none, s.countedIn) :=
        lookupSighting_none (s := s.countedIn) fun x hx => by simpa using List.find?_eq_none.mp hfind x hx
      rw [hlookup]
    · obtain ⟨hclean, htravel, hpossible, hcounter⟩ := hsighting _ hfind
      have hlookup : s.countedIn.lookupSighting q.card.serial = (some e, s.countedIn) :=
        lookupSighting_clean (by rw [← show bits = .clean from hclean]; exact hfind)
      obtain ⟨htally, hshort⟩ := travelTooShort_clean (s := s.countedIn) htravel
      have hlower : ¬q.card.counter < e.counter := by
        rcases hcounter with h | ⟨h, -, -⟩ <;> dsimp only at h <;> omega
      have hsame : ¬(q.card.counter = e.counter ∧ diverges q.card e = true) := by
        rintro ⟨hequal, hdiffers⟩
        rcases hcounter with h | ⟨-, hpurse, htrip⟩
        · dsimp only at h
          omega
        · rcases (diverges_iff q.card e).mp hdiffers with ⟨p, hp, hne⟩ | ⟨x, hx, hne⟩
          · exact hne (hpurse p hp)
          · exact hne (htrip x hx)
      rw [hlookup]
      dsimp only
      rw [if_neg hlower, if_neg hsame, htally, noteBank_none, if_neg (mt hshort.mp hpossible)]
  have himage := imageInvalid_iff q.card
  have hscreen (a : ScreenAnswer) {f : ScreenCounters → ScreenCounters}
      (hf : ∀ c n, f { c with unchecked := n } = { f c with unchecked := n }) (hn : ∀ c, (f c).unchecked = c.unchecked)
      (hcheck : s.countedIn.checkImage q = (a, s.countedIn.countScreen f)) : s.screen q = (a, unchecked, s.screenedAs f) := by
    rw [screen_eq, runChecks_unlisted (s := s.countedIn) hactive hunlisted, State.checksPastLists, hpasses]
    dsimp only
    rw [hcheck, ← countedOut_count s hf hn]
    rfl
  refine ⟨fun hmax => ?_, fun hmax hrange => ?_, fun hmax hrange => ?_⟩
  · exact hscreen _ (fun _ _ => rfl) (fun _ => rfl) (if_pos hmax)
  · exact hscreen _ (fun _ _ => rfl) (fun _ => rfl) ((if_neg hmax).trans (if_pos (himage.mpr hrange)))
  · exact hscreen _ (fun _ _ => rfl) (fun _ => rfl) ((if_neg hmax).trans (if_neg (mt himage.mp hrange)))

end Sys2Proof.Machine

end

/-! ## Chapters 1, 2, 5 and 9: uncorrectable items, the screening answer and sighting feeds -/

section

-- Proofs are checked in order: as one text the file would otherwise hold more waiting proofs than the check has memory for.
set_option Elab.async false

namespace Sys2Proof.Machine

/-! ### Uncorrectable items -/

theorem lookupDoubt_append {s : State} {ser : Serial} {before after : List (Stored DoubtEntry)}
    (h : ∀ x ∈ before, x.val.serial ≠ ser) : s.lookupDoubt ser (before ++ after) = s.lookupDoubt ser after := by
  induction before with
  | nil => rfl
  | cons x before ih =>
    rw [List.cons_append, State.lookupDoubt, if_neg (h x (by simp)), ih fun y hy => h y (by simp [hy])]

/-- A damaged in-doubt entry is removed with its record, its serial looked up (R109, R115). -/
theorem lookupDoubt_double {s : State} {before after : List (Stored DoubtEntry)} {e : DoubtEntry}
    (hentries : s.doubt.entries = before ++ ⟨e, .double⟩ :: after) (hserials : ∀ x ∈ before ++ after, x.val.serial ≠ e.serial)
    (hroom : HasRoom s) : s.lookupDoubt e.serial s.doubt.entries = (none, s.lostEntry (before ++ after)) := by
  have hremove : (s.struck .lists).removeDoubt e.serial = (s.struck .lists).setDoubt (before ++ after) := by
    have hsame : (s.struck .lists).doubt.entries = s.doubt.entries := rfl
    rw [State.removeDoubt, hsame, hentries, eraseP_first (fun x hx => by simpa using hserials x (by simp [hx])) (by simp)]
  rw [hentries, lookupDoubt_append fun x hx => hserials x (by simp [hx]), State.lookupDoubt, if_pos rfl]
  dsimp only
  rw [if_pos rfl, noteRead_double, hremove, State.recordDamagedEntry, appendUnreserved_room (by exact hroom)]
  exact lookupDoubt_none fun x hx => hserials x (by simp [hx])

/-- An uncorrectable tariff item is counted and marks its bank (R94, R95, R175). -/
theorem noteBank_double (s : State) (i : AreaId) : s.noteBank i ⟨0, 1⟩ = { s.struck .tariff with tariff := s.tariff.damage i } := by
  have hfound : s.noteFindings .tariff 0 1 = s.struck .tariff := noteRead_double s .tariff
  unfold State.noteBank
  dsimp only
  rw [hfound, if_neg (by decide)]
  rfl

/-- Settles O19: each reader on an uncorrectable item. -/
theorem uncorrectableItemsTakeTheirEffect : Obligations.UncorrectableItemsTakeTheirEffect := by
  refine ⟨fun s ser => ⟨fun e h => ?_, fun e h => ?_, fun e h => ?_⟩, fun s before after e hentries hserials hroom => ⟨?_, ?_⟩,
    fun s l => ⟨fun h => ?_, fun hmap h => ?_⟩, fun items n x taken h => ?_, fun s => ⟨?_, fun i hi => ?_⟩⟩
  · unfold State.lookupSighting
    rw [h]
    dsimp only
    rw [if_pos rfl, noteRead_double]
    rfl
  · unfold State.lookupDeny
    rw [h]
    dsimp only
    rw [if_pos rfl, noteRead_double]
    rfl
  · unfold State.lookupSuspect
    rw [h]
    dsimp only
    rw [if_pos rfl, noteRead_double]
    rfl
  · exact lookupDoubt_double hentries hserials hroom
  · exact fun hclosed hbefore => readProvisional_double hentries rfl hclosed hbefore hserials hroom
  · unfold State.readFrame
    dsimp only
    rw [h, if_pos rfl, noteRead_double]
  · unfold State.readFrame
    dsimp only
    rw [hmap, if_neg (by decide)]
    have hread : s.noteRead .templates .clean = s := rfl
    rw [hread, h, if_pos rfl, noteRead_double]
  · rw [readAt, h]
    rfl
  · rw [noteBank_double]
    exact congrArg (fun t => { s.struck .tariff with tariff := t }) (if_pos rfl)
  · rw [noteBank_double]
    exact congrArg (fun t => { s.struck .tariff with tariff := t }) (if_neg hi)

/-! ### The screening answer -/

theorem screen_unmoved (s : State) (q : ScreenRequest) :
    (s.screen q).2.2.clock = s.clock ∧ (s.screen q).2.2.settings = s.settings ∧ (s.screen q).2.2.lanes = s.lanes := by
  obtain ⟨u, k, hbefore, hafter⟩ := runChecks_counts s.countedIn q
  rw [screen_eq]
  exact ⟨hafter.clock.trans hbefore.clock, hafter.settings.trans hbefore.settings, hafter.lanes.trans hbefore.lanes⟩

/-- Anti-passback with an undamaged window (R19). -/
theorem passback_clean {s : State} {kind : TxKind} {bank : AreaId} {w : Written}
    (hwindow : (((s.tariff.area bank).bank.header[3]?).getD (Stored.fresh 0)).bits = .clean) :
    let window := ((s.tariff.area bank).bank.header[3]?).getD (Stored.fresh 0)
    (s.passback kind bank w).2 = s ∧ ((s.passback kind bank w).1 = true
      ↔ (kind = .entry ∧ w.trip = .inside ∧ w.entryStation = s.settings.station ∧ s.clock.time - w.entryTime ≤ window.val)
        ∨ (kind = .exit ∧ w.trip = .outside ∧ w.lastExitStation = s.settings.station ∧ s.clock.time - w.lastExitTime ≤ window.val)) := by
  have hread := readWindow_clean hwindow
  unfold State.passback
  rcases htime : passbackTime kind s.settings.station w with _ | t
  · refine ⟨rfl, ?_⟩
    cases kind <;> simp_all [passbackTime]
  · dsimp only
    rw [hread]
    refine ⟨rfl, ?_⟩
    cases kind <;> simp_all [passbackTime, ageAt]

/-- A commit falls due or ends NOT_AVAILABLE by the checks of R21. -/
theorem commitDue_eq (s : State) (l : Lane) (w : CommitWork) : s.commitDue l w = if s.commitAllowed l
    then s.withTap l { s.tap l with stage := some .reservation, work := some w } else s.endTap l .notAvailable none (purseRead s l) := rfl

/-- Settles O20: the answer taken over the lane with the flag of an unchecked denylist set. -/
theorem screeningAnswerDecidesTheTransaction : Obligations.ScreeningAnswerDecidesTheTransaction := by
  intro s u l kind bank c answer unchecked hawaits hscreen flagged ends due here window again
  have hexec : exec (.screeningRequest l) s = .next (s.screeningStep l kind bank c) := congrArg _ (whenAwaited_of hawaits _)
  obtain ⟨-, -, -, hkind, hbound, himage⟩ := hawaits
  obtain ⟨hclock, hsettings, hlanes⟩ := screen_unmoved s ⟨l, kind, bank, c⟩
  rw [hscreen] at hclock hsettings hlanes
  dsimp only at hclock hsettings hlanes
  have htap : u.tap l = s.tap l := by rw [State.tap, State.tap, State.lane_congr hlanes]
  have hgate : u.gate l = s.gate l := by rw [State.gate, State.gate, State.lane_congr hlanes]
  have hstep : s.screeningStep l kind bank c = if kind = .emergency then (u.withTap l flagged).emergencyScreened l bank c answer
      else (u.withTap l flagged).gateScreened l kind bank c answer := by
    unfold State.screeningStep
    rw [hscreen]
    dsimp only
    rw [modTap_eq, htap]
    rfl
  have hpurse : purseRead (u.withTap l flagged) l = some c.w.purse := by
    rw [purseRead, withTap_tap]
    exact congrArg _ himage
  have hends (code : ResultCode) : (u.withTap l flagged).endUnchanged l code = (u.withTap l flagged).endTap l code none (some c.w.purse) := by
    rw [endUnchanged_eq, hpurse]
  have hallowed : (u.withTap l flagged).commitAllowed l = true ↔ ServiceFits s l kind ∧ BankUsable u bank := by
    have h := commitAllowed_iff (s := u.withTap l flagged) (l := l) (kind := kind) (bank := bank) (by rw [withTap_tap]; exact hkind)
      (by rw [withTap_tap]; exact hbound)
    have hfits : ServiceFits (u.withTap l flagged) l kind ↔ ServiceFits s l kind := by simp [ServiceFits, hgate]
    exact h.trans (and_congr_left' hfits)
  have hdue (w : CommitWork) (h : ServiceFits s l kind ∧ BankUsable u bank) : (u.withTap l flagged).commitDue l w
      = u.withTap l { flagged with stage := some .reservation, work := some w } := by
    rw [commitDue_eq, if_pos (hallowed.mpr h), withTap_withTap, withTap_tap]
  have hdenied (w : CommitWork) (h : ¬(ServiceFits s l kind ∧ BankUsable u bank)) : (u.withTap l flagged).commitDue l w
      = (u.withTap l flagged).endTap l .notAvailable none (some c.w.purse) := by
    rw [commitDue_eq, if_neg (mt hallowed.mp h), hpurse]
  have hsettings' : (u.withTap l flagged).settings = s.settings := hsettings
  have hclock' : (u.withTap l flagged).clock = s.clock := hclock
  dsimp only [ends, due]
  rw [hexec, hstep]
  have hfits (hne : kind ≠ .emergency) : ServiceFits s l kind ↔ (s.gate l).service = .inService := by rw [ServiceFits, if_neg hne]
  have hfits' (he : kind = .emergency) : ServiceFits s l kind ↔ (s.gate l).service = .emergencyOpen := by rw [ServiceFits, if_pos he]
  have hpassback (hclean : window.bits = .clean) := passback_clean (s := u.withTap l flagged) (kind := kind) (w := c.w) hclean
  refine ⟨fun hne r hr => ?_, fun hne reason hr => ⟨fun hservice husable => ?_, fun hno => ?_⟩, fun hne hr hclean hagain => ?_,
    fun hne hr hclean hagain => ?_, fun he hno => ?_, fun he hr htrip hno => ?_, fun he hr htrip hservice husable => ?_⟩
  · rw [if_neg hne, hr]
    exact congrArg _ (hends _)
  · rw [if_neg hne, hr]
    exact congrArg _ (hdue _ ⟨(hfits hne).mpr hservice, husable⟩)
  · rw [if_neg hne, hr]
    exact congrArg _ (hdenied _ (by rwa [hfits hne]))
  · obtain ⟨hstate, htest⟩ := hpassback hclean
    rw [hsettings', hclock'] at htest
    have hpasses := (Bool.not_eq_true _).mp (mt htest.mp hagain)
    rw [if_neg hne, hr]
    unfold State.gateScreened
    dsimp only
    rw [hpasses, hstate, if_neg (by decide), modTap_eq, withTap_withTap, withTap_tap]
  · obtain ⟨hstate, htest⟩ := hpassback hclean
    rw [hsettings', hclock'] at htest
    rw [if_neg hne, hr]
    unfold State.gateScreened
    dsimp only
    rw [htest.mpr hagain, hstate, if_pos rfl, hends]
  · rw [if_pos he]
    unfold State.emergencyScreened
    rw [if_neg hno, hends]
  · rw [if_pos he]
    unfold State.emergencyScreened
    rw [if_pos ⟨hr, htrip⟩, hdenied _ (by rwa [hfits' he])]
  · rw [if_pos he]
    unfold State.emergencyScreened
    rw [if_pos ⟨hr, htrip⟩, hdue _ ⟨(hfits' he).mpr hservice, husable⟩, hsettings', hclock']
    rfl

/-! ### Feed items -/

theorem sightingOf_none {s : State} {ser : Serial} (h : sightingOf s ser = none) : ∀ x ∈ s.screening.sightings, x.val.serial ≠ ser := by
  simpa [sightingOf] using h

theorem sightingOf_some {s : State} {ser : Serial} {e : Sighting} (hquiet : SightingsQuiet s ser) (h : sightingOf s ser = some e) :
    s.screening.sightings.find? (fun x => x.val.serial == ser) = some ⟨e, .clean⟩ := by
  obtain ⟨⟨y, bits⟩, hfind, rfl⟩ := Option.map_eq_some_iff.mp h
  have hclean : bits = .clean := hquiet.1 _ hfind
  rw [hfind, hclean]

/-- What an item of a case does, its time as examined (R47). -/
def State.takeFeed (s : State) (x : FeedItem) (e : Sighting) : FeedCase → State
  | .inserted => s
  | .replaced => s.replaceSighting (feedSighting x)
  | .stale => s
  | .conflict reason => s.feedConflict x e reason

/-- An item's case against the entry held, and what it does (R47). -/
theorem applyFeedItem_held {s : State} {x : FeedItem} {e : Sighting} (hquiet : SightingsQuiet s x.serial)
    (h : sightingOf s x.serial = some e) :
    let t := clampFeedTime s.clock.time s.settings.skew x.time
    let k := feedCase s.settings.skew { x with time := t.1 } e
    s.applyFeedItem x = (k, t.2, s.takeFeed { x with time := t.1 } e k) := by
  have hlookup := lookupSighting_clean (sightingOf_some hquiet h)
  unfold State.applyFeedItem
  dsimp only
  rw [hlookup]
  rfl

theorem feedConflict_of_entered {s u : State} {x : FeedItem} {e : Sighting} {reason : SuspectReason}
    (hentered : s.enterSuspect x.serial reason .feed = u) (hroom : HasRoom u) : s.feedConflict x e reason
      = (u.withRecord { JournalRecord.blank .feedConflict none with
          serial := some x.serial
          counter := some x.counter
          station := some x.station
          reportedTime := some x.time
          secondCounter := some e.counter
          secondStation := some e.station
          secondTime := some e.time
          detail := some (.named (suspectDetail reason)) }).raise .cloneSuspect := by
  unfold State.feedConflict
  dsimp only
  rw [hentered, appendUnreserved_room hroom]

theorem clampFeedTime_eq (now skew time : Nat) :
    clampFeedTime now skew time = (if now + skew < time then now else time, decide (now + skew < time)) := by
  unfold clampFeedTime
  split <;> simp_all

/-- Settles O21: the five cases of R47 with what each does. -/
theorem feedItemIsTakenByItsCase : Obligations.FeedItemIsTakenByItsCase := by
  intro s x hquiet clamped time made placed
  have hclamp := clampFeedTime_eq s.clock.time s.settings.skew x.time
  obtain ⟨hclean, hlength, harmed⟩ := id hquiet
  refine ⟨fun hnone => ?_, fun e hheld => ?_⟩
  · have habsent := sightingOf_none hnone
    have hplaced : s.insertSighting made = placed := by
      rw [insertSighting_room harmed hlength]
      exact congrArg s.setSightings (congrArg (· ++ [⟨made, .clean⟩]) (withoutSighting_absent habsent).symm)
    unfold State.applyFeedItem
    rw [hclamp]
    dsimp only
    rw [lookupSighting_none habsent]
    exact congrArg (fun t => (FeedCase.inserted, clamped, t)) hplaced
  · intro apart later suspecting conflict
    have happly := applyFeedItem_held hquiet hheld
    dsimp only at happly
    rw [hclamp] at happly
    dsimp only at happly
    have hcase {k : FeedCase} (hk : feedCase s.settings.skew { x with time := time } e = k) :
        s.applyFeedItem x = (k, clamped, s.takeFeed { x with time := time } e k) := by
      rw [← hk]
      exact happly
    have hlisted (reason : SuspectReason) (d : DetailName) (hd : suspectDetail reason = d) (hroom : HasRoom s)
        (hk : feedCase s.settings.skew { x with time := time } e = .conflict reason) (h : Listed s x.serial) :
        s.applyFeedItem x = conflict reason d s.screening := by
      rw [hcase hk]
      rw [State.takeFeed, feedConflict_of_entered (x := { x with time := time }) (enterSuspect_listed h reason .feed) hroom, hd]
    have hunlisted (reason : SuspectReason) (d : DetailName) (hd : suspectDetail reason = d) (hroom : HasRoom s)
        (hk : feedCase s.settings.skew { x with time := time } e = .conflict reason) (h : Unlisted s x.serial)
        (hlists : Disarmed s .lists) : s.applyFeedItem x = conflict reason d (suspecting reason) := by
      rw [hcase hk]
      rw [State.takeFeed, feedConflict_of_entered (x := { x with time := time }) (enterSuspect_unlisted h hlists reason .feed) hroom, hd]
    refine ⟨fun hgreater => ?_, fun hequal hapart hroom => ?_, fun hlower hlater hroom => ?_, fun hle hapart hlater => ?_⟩
    · have hk : feedCase s.settings.skew { x with time := time } e = .replaced := if_pos hgreater
      rw [hcase hk, State.takeFeed, replaceSighting_disarmed harmed]
      rfl
    · have hk : feedCase s.settings.skew { x with time := time } e = .conflict .counterReused := by
        unfold feedCase
        dsimp only
        rw [if_neg (by omega), if_pos hequal, if_pos hapart]
      exact ⟨hunlisted _ _ rfl hroom hk, hlisted _ _ rfl hroom hk⟩
    · have hk : feedCase s.settings.skew { x with time := time } e = .conflict .remoteRegression := by
        unfold feedCase
        dsimp only
        rw [if_neg (by omega), if_neg (by omega), if_pos hlater]
      exact ⟨hunlisted _ _ rfl hroom hk, hlisted _ _ rfl hroom hk⟩
    · have hk : feedCase s.settings.skew { x with time := time } e = .stale := by
        unfold feedCase
        dsimp only
        rw [if_neg (by omega)]
        by_cases hequal : x.counter = e.counter
        · rw [if_pos hequal, if_neg fun h => hapart ⟨hequal, h⟩]
        · rw [if_neg hequal, if_neg fun h => hlater ⟨by omega, h⟩]
      exact hcase hk

end Sys2Proof.Machine

end

/-! ## Chapter 2: feeds and the requests on the lists -/

section

-- Proofs are checked in order: as one text the file would otherwise hold more waiting proofs than the check has memory for.
set_option Elab.async false

namespace Sys2Proof.Machine

open JournalProofs (answers_of_work beBytes_one)

/-! ### What the list operations may change -/

/-- Going from `s` to `t` nothing but the screening unit, the journal, the event flags and the memory check counters changes. -/
def OnlyLists (s t : State) : Prop :=
  t = { s with screening := t.screening, journal := t.journal, events := t.events, ecc := t.ecc }

theorem OnlyLists.refl (s : State) : OnlyLists s s := rfl

theorem OnlyLists.trans {s t u : State} (h : OnlyLists s t) (h' : OnlyLists t u) : OnlyLists s u := by
  unfold OnlyLists at h h' ⊢
  rw [h'] at *
  rw [h]

theorem OnlyLists.screened {s t : State} (h : OnlyLists s t) (x : Screening) : OnlyLists s { t with screening := x } := by
  unfold OnlyLists at h ⊢
  rw [h]

theorem OnlyLists.clock {s t : State} (h : OnlyLists s t) : t.clock = s.clock := by rw [h]

theorem OnlyLists.settings {s t : State} (h : OnlyLists s t) : t.settings = s.settings := by rw [h]

theorem OnlyLists.link {s t : State} (h : OnlyLists s t) : t.link = s.link := by rw [h]

theorem noteRead_lists (s : State) (m : Memory) (i : Integrity) : OnlyLists s (s.noteRead m i) := by
  cases i <;> simp only [State.noteRead, State.noteFindings] <;> (repeat' split) <;> rfl

theorem noteFindings_lists (s : State) (m : Memory) (c u : Nat) : OnlyLists s (s.noteFindings m c u) := by
  unfold State.noteFindings
  (repeat' split) <;> rfl

theorem store_lists {α : Type} (s : State) (m : Memory) (x : α) : OnlyLists s (s.store m x).2 := by
  unfold State.store
  dsimp only
  split <;> rfl

theorem appendUnreserved_lists (s : State) (c : AdmissionClass) (r : JournalRecord) : OnlyLists s (s.appendUnreserved c r) := by
  have happend : OnlyLists s (s.appendRecord r) := by
    refine (store_lists s .journal { r with time := s.clock.time }).trans ?_
    unfold State.appendRecord
    dsimp only
    split <;> rfl
  unfold State.appendUnreserved
  dsimp only
  split
  · refine happend.trans ?_
    unfold State.noteClosing
    split <;> rfl
  · cases c <;> rfl

theorem lookupSighting_lists (s : State) (ser : Serial) : OnlyLists s (s.lookupSighting ser).2 := by
  unfold State.lookupSighting
  split
  · exact .refl s
  · dsimp only
    split
    · exact (noteRead_lists _ _ _).screened _
    · exact noteRead_lists _ _ _

theorem lookupDeny_lists (s : State) (ser : Serial) : OnlyLists s (s.lookupDeny ser).2 := by
  unfold State.lookupDeny
  split
  · exact .refl s
  · dsimp only
    split
    · exact (noteRead_lists _ _ _).screened _
    · exact noteRead_lists _ _ _

theorem lookupSuspect_lists (s : State) (ser : Serial) : OnlyLists s (s.lookupSuspect ser).2 := by
  unfold State.lookupSuspect
  split
  · exact .refl s
  · dsimp only
    split
    · exact (noteRead_lists _ _ _).screened _
    · exact noteRead_lists _ _ _

theorem enterSuspect_lists (s : State) (ser : Serial) (reason : SuspectReason) (foundAt : Source) :
    OnlyLists s (s.enterSuspect ser reason foundAt) := by
  have hadd (t : State) (x : SuspectEntry) : OnlyLists t (t.addSuspect x) := by
    unfold State.addSuspect
    dsimp only
    split <;> exact (store_lists t .lists x).screened _
  have hlooked := (lookupDeny_lists s ser).trans (lookupSuspect_lists _ ser)
  unfold State.enterSuspect
  dsimp only
  split
  · exact lookupDeny_lists s ser
  · split
    · exact hlooked
    · exact hlooked.trans (hadd _ _)

theorem insertSighting_lists (s : State) (x : Sighting) : OnlyLists s (s.insertSighting x) := by
  have hroom : OnlyLists s s.makeSightingRoom := by
    unfold State.makeSightingRoom
    split
    · exact .refl s
    · dsimp only
      split <;> exact (noteFindings_lists _ _ _ _).screened _
  exact (hroom.trans (store_lists _ .sighting x)).screened _

theorem feedConflict_lists (s : State) (x : FeedItem) (e : Sighting) (reason : SuspectReason) :
    OnlyLists s (s.feedConflict x e reason) :=
  ((enterSuspect_lists s x.serial reason .feed).trans (appendUnreserved_lists _ .mandatory _)).trans rfl

theorem applyFeedItem_lists (s : State) (x : FeedItem) : OnlyLists s (s.applyFeedItem x).2.2 := by
  have hlooked := lookupSighting_lists s x.serial
  unfold State.applyFeedItem
  dsimp only
  split
  · exact hlooked.trans (insertSighting_lists _ _)
  · dsimp only
    split
    · exact hlooked
    · exact (hlooked.trans (store_lists _ .sighting _)).screened _
    · exact hlooked
    · exact hlooked.trans (feedConflict_lists _ _ _ _)

/-! ### Feeds -/

/-- The conflicts that a feed item can be found in (R47). -/
def isConflict (c : FeedCase) : Bool := c == .conflict .counterReused || c == .conflict .remoteRegression

/-- A feed item has one of the five cases of R47, its time clamped or not. -/
theorem applyFeedItem_case (s : State) (x : FeedItem) : (s.applyFeedItem x).1 ∈ [FeedCase.inserted, .replaced, .stale,
    .conflict .counterReused, .conflict .remoteRegression] ∧ (s.applyFeedItem x).2.1 = decide (s.clock.time + s.settings.skew < x.time) := by
  unfold State.applyFeedItem
  rw [clampFeedTime_eq]
  dsimp only
  split
  · exact ⟨by simp, rfl⟩
  · refine ⟨?_, rfl⟩
    dsimp only
    unfold feedCase
    (repeat' split) <;> simp

/-- What a feed counts, item by item (R46, R49). -/
theorem applyFeed_counts (items : List FeedItem) (s : State) (n : FeedCounts) : s.applyFeed items n =
    (⟨n.inserted + (s.feedCases items).countP (· == .inserted), n.replaced + (s.feedCases items).countP (· == .replaced),
      n.stale + (s.feedCases items).countP (· == .stale), n.conflicts + (s.feedCases items).countP isConflict,
      n.clamped + items.countP fun x => s.clock.time + s.settings.skew < x.time⟩, s.fed items) := by
  induction items generalizing s n with
  | nil => rfl
  | cons x xs ih =>
    obtain ⟨hcase, hclamped⟩ := applyFeedItem_case s x
    have honly := applyFeedItem_lists s x
    rw [State.applyFeed, ih, honly.clock, honly.settings, hclamped]
    simp only [State.feedCases, List.countP_cons]
    refine Prod.ext ?_ rfl
    by_cases hlate : s.clock.time + s.settings.skew < x.time <;>
      (simp only [List.mem_cons, List.not_mem_nil, or_false] at hcase
       rcases hcase with h | h | h | h | h <;> simp [h, hlate, FeedCounts.add, isConflict] <;> omega)

/-- Every item of a feed is counted once (R49). -/
theorem feedCases_total (items : List FeedItem) (s : State) : (s.feedCases items).countP (· == .inserted)
    + (s.feedCases items).countP (· == .replaced) + (s.feedCases items).countP (· == .stale) + (s.feedCases items).countP isConflict
      = items.length := by
  induction items generalizing s with
  | nil => rfl
  | cons x xs ih =>
    have hrest := ih (s.applyFeedItem x).2.2
    obtain ⟨hcase, -⟩ := applyFeedItem_case s x
    simp only [List.mem_cons, List.not_mem_nil, or_false] at hcase
    simp only [State.feedCases, List.countP_cons, List.length_cons]
    rcases hcase with h | h | h | h | h <;> simp [h, isConflict] <;> omega

theorem fed_lists (items : List FeedItem) (s : State) : OnlyLists s (s.fed items) := by
  induction items generalizing s with
  | nil => exact .refl s
  | cons x xs ih => exact (applyFeedItem_lists s x).trans (ih _)

theorem feedItemBad_iff (x : FeedItem) : feedItemBad x = true
    ↔ x.serial = 0 ∨ x.station = 0 ∨ 16777215 < x.counter ∨ ∃ p, x.purse = some p ∧ (p < -2000 ∨ 100000 < p) := by
  simp [feedItemBad, Option.any_eq_true, or_assoc]

theorem okClamped_count (n : Nat) (body : List Byte) : okClamped (n != 0) body = ⟨if n = 0 then .ok else .clamped, none, body⟩ := by
  by_cases h : n = 0 <;> simp [okClamped, h]

/-- Settles O22: the counts of a feed are those of its items' cases. -/
theorem feedCountsEveryItemOnce : Obligations.FeedCountsEveryItemOnce := by
  intro s items hserving bad
  have hany : (items.any feedItemBad = true) ↔ ∃ x ∈ items, x.serial = 0 ∨ x.station = 0 ∨ 16777215 < x.counter
      ∨ ∃ p, x.purse = some p ∧ (p < -2000 ∨ 100000 < p) := by simp only [List.any_eq_true, feedItemBad_iff]
  have hbad : (items.length < 1 ∨ 32 < items.length ∨ items.any feedItemBad = true) ↔ bad := or_congr_right (or_congr_right hany)
  refine ⟨fun h => ?_, fun h hunset => ?_, fun h hset => ?_⟩
  · exact answers_of_work hserving (work := fun s => s.feed items) rfl (if_pos (hbad.mpr h)) rfl
  · have hwork : s.feed items = (refused .timeNotSet, s) := by
      rw [State.feed, if_neg (mt hbad.mp h), hunset]
      rfl
    exact answers_of_work hserving (work := fun s => s.feed items) rfl hwork rfl
  · intro u counted inserted replaced stale conflicts clamped n
    have honly := fed_lists items s
    refine ⟨feedCases_total items s, honly, ?_⟩
    have hwork : s.feed items = (⟨if clamped = 0 then .ok else .clamped, none,
        [BitVec.ofNat 8 inserted, BitVec.ofNat 8 replaced, BitVec.ofNat 8 stale, BitVec.ofNat 8 conflicts]⟩,
        u.countScreen fun c => c.addFeed ⟨inserted, replaced, stale, conflicts, clamped⟩) := by
      rw [State.feed, if_neg (mt hbad.mp h), hset, applyFeed_counts]
      simp only [Nat.zero_add, Bool.not_true, Bool.false_eq_true, if_false]
      refine Prod.ext ?_ rfl
      simp only [b1, beBytes_one]
      exact okClamped_count clamped _
    exact answers_of_work hserving (work := fun s => s.feed items) rfl hwork (honly.screened _).link

/-! ### DENY ADD -/

/-- The entry that a DENY ADD item makes (R31). -/
def deniedEntry (x : DenyItem) : DenyEntry := ⟨x.serial, if x.action = 0 then .refuse else .lock, x.reason.toNat⟩

theorem denyActionOf_eq (b : Byte) : denyActionOf b = if b = 0 then some .refuse else if b = 1 then some .lock else none := by
  unfold denyActionOf
  split
  · rfl
  · rfl
  next h0 h1 => exact ((if_neg (show ¬b = 0 from h0)).trans (if_neg (show ¬b = 1 from h1))).symm

theorem denyEntryOf_eq {x : DenyItem} (h : ¬1 < x.action.toNat) : denyEntryOf x = deniedEntry x := by
  unfold denyEntryOf deniedEntry
  rw [denyActionOf_eq]
  by_cases h0 : x.action = 0
  · rw [if_pos h0, if_pos h0]
    rfl
  · have h1 : x.action = 1 := by
      have hne : x.action.toNat ≠ 0 := fun hn => h0 (BitVec.eq_of_toNat_eq hn)
      exact BitVec.eq_of_toNat_eq (show x.action.toNat = 1 by omega)
    rw [if_neg h0, if_neg h0, if_pos h1]
    rfl

theorem insertDeny_between {x : Stored DenyEntry} {before after : List (Stored DenyEntry)}
    (hbefore : ∀ y ∈ before, y.val.serial.toNat < x.val.serial.toNat) (hafter : ∀ y ∈ after, x.val.serial.toNat < y.val.serial.toNat) :
    insertDeny x (before ++ after) = before ++ [x] ++ after := by
  induction before with
  | nil =>
    cases after with
    | nil => rfl
    | cons y ys => exact if_pos (hafter y (by simp))
  | cons y before ih =>
    have hy := hbefore y (by simp)
    rw [List.cons_append, insertDeny, if_neg (by omega), ih fun z hz => hbefore z (by simp [hz])]
    rfl

/-- A sorted list falls apart into what lies below and what lies above a serial that it does not hold. -/
theorem sorted_parts {xs : List (Stored DenyEntry)} (hsorted : (xs.map fun y => y.val.serial.toNat).Pairwise (· < ·)) {n : Nat}
    (habsent : ∀ y ∈ xs, y.val.serial.toNat ≠ n) :
    xs = (xs.filter fun y => decide (y.val.serial.toNat < n)) ++ xs.filter fun y => decide (n < y.val.serial.toNat) := by
  induction xs with
  | nil => rfl
  | cons y ys ih =>
    simp only [List.map_cons, List.pairwise_cons] at hsorted
    obtain ⟨hhead, htail⟩ := hsorted
    have hy := habsent y (by simp)
    have hrest := ih htail fun z hz => habsent z (by simp [hz])
    by_cases hlt : y.val.serial.toNat < n
    · rw [List.filter_cons_of_pos (by simpa using hlt), List.filter_cons_of_neg (by simp; omega), List.cons_append, ← hrest]
    · have hnone : (ys.filter fun z => decide (z.val.serial.toNat < n)) = [] := by
        rw [List.filter_eq_nil_iff]
        intro z hz
        have := hhead _ (List.mem_map_of_mem hz)
        simp
        omega
      rw [hnone, List.nil_append] at hrest
      rw [List.filter_cons_of_neg (by simpa using hlt), List.filter_cons_of_pos (by simp; omega), hnone, List.nil_append, ← hrest]

/-- An undamaged suspect list looked up for a serial (R176). -/
theorem lookupSuspect_undamaged {s : State} (hclean : ∀ y ∈ s.screening.suspects, y.bits = .clean) (ser : Serial) :
    (s.lookupSuspect ser).2 = s
      ∧ ((s.lookupSuspect ser).1.isSome = s.screening.suspects.any fun y => y.val.serial == ser) := by
  rcases hfind : s.screening.suspects.find? (fun y => y.val.serial == ser) with _ | ⟨e, bits⟩
  · have hnone := List.find?_eq_none.mp hfind
    rw [lookupSuspect_none (by simpa using hnone)]
    exact ⟨rfl, (List.any_eq_false.mpr hnone).symm⟩
  · have hbits : bits = .clean := hclean _ (List.mem_of_find?_eq_some hfind)
    rw [lookupSuspect_clean (by rw [hfind, hbits])]
    exact ⟨rfl, (List.any_eq_true.mpr ⟨_, List.mem_of_find?_eq_some hfind, List.find?_some hfind⟩).symm⟩

theorem lookupDeny_undamaged {s : State} (hclean : ∀ y ∈ s.screening.denylist, y.bits = .clean) (ser : Serial) :
    (s.lookupDeny ser).2 = s ∧ ((s.lookupDeny ser).1.isSome = s.screening.denylist.any fun y => y.val.serial == ser) := by
  rcases hfind : s.screening.denylist.find? (fun y => y.val.serial == ser) with _ | ⟨e, bits⟩
  · have hnone := List.find?_eq_none.mp hfind
    rw [lookupDeny_none (by simpa using hnone)]
    exact ⟨rfl, (List.any_eq_false.mpr hnone).symm⟩
  · have hbits : bits = .clean := hclean _ (List.mem_of_find?_eq_some hfind)
    rw [lookupDeny_clean (by rw [hfind, hbits])]
    exact ⟨rfl, (List.any_eq_true.mpr ⟨_, List.mem_of_find?_eq_some hfind, List.find?_some hfind⟩).symm⟩

/-- A new entry at its sorted place, its serial taken out of an undamaged suspect list (R31). -/
theorem addDeny_between {s : State} {x : DenyEntry} {before after : List (Stored DenyEntry)} (harmed : Disarmed s .lists)
    (hlist : s.screening.denylist = before ++ after) (hbefore : ∀ y ∈ before, y.val.serial.toNat < x.serial.toNat)
    (hafter : ∀ y ∈ after, x.serial.toNat < y.val.serial.toNat) (hclean : ∀ y ∈ s.screening.suspects, y.bits = .clean) :
    s.addDeny x = (s.screening.suspects.any fun y => y.val.serial == x.serial,
      { s with screening := { s.screening with
          denylist := before ++ [⟨x, .clean⟩] ++ after
          suspects := s.screening.suspects.filter fun y => y.val.serial != x.serial } }) := by
  have hinsert : insertDeny ⟨x, .clean⟩ s.screening.denylist = before ++ [⟨x, .clean⟩] ++ after := by
    rw [hlist]
    exact insertDeny_between hbefore hafter
  obtain ⟨hstate, hheld⟩ := lookupSuspect_undamaged (s := s.setDenylist (before ++ [⟨x, .clean⟩] ++ after)) hclean x.serial
  unfold State.addDeny
  rw [armed_none harmed]
  dsimp only
  rw [hinsert, hstate, hheld]
  refine Prod.ext rfl ?_
  dsimp only
  split
  · rfl
  next hnone =>
    have hkeep : (s.screening.suspects.filter fun y => y.val.serial != x.serial) = s.screening.suspects := by
      rw [List.filter_eq_self]
      intro y hy
      have hy' := fun h => hnone (List.any_eq_true.mpr ⟨y, hy, h⟩)
      simpa using hy'
    rw [hkeep]
    rfl

theorem denyItemBad_iff (x : DenyItem) : denyItemBad x = true ↔ x.serial = 0 ∨ 1 < x.action.toNat := by
  have hnone : (denyActionOf x.action).isNone = true ↔ 1 < x.action.toNat := by
    rw [denyActionOf_eq]
    split
    next h => simp [h]
    next h =>
      split
      next h' => simp [h']
      next h' =>
        have h0 : x.action.toNat ≠ 0 := fun hn => h (BitVec.eq_of_toNat_eq hn)
        have h1 : x.action.toNat ≠ 1 := fun hn => h' (BitVec.eq_of_toNat_eq hn)
        simp only [Option.isNone_none, true_iff]
        omega
  rw [denyItemBad, Bool.or_eq_true, hnone, beq_iff_eq]

/-- A serial held has its entry replaced in its place (R31). -/
theorem takeDenyItems_held {s : State} {x : DenyItem} {e : DenyEntry} (xs : List DenyItem) (n : DenyCounts)
    (hvalid : s.screening.denyValid = true) (harmed : Disarmed s .lists) (haction : ¬1 < x.action.toNat)
    (hfind : s.screening.denylist.find? (fun y => y.val.serial == x.serial) = some ⟨e, .clean⟩) :
    s.takeDenyItems (x :: xs) n = State.takeDenyItems { s with screening := { s.screening with
      denylist := s.screening.denylist.map fun y => if y.val.serial = x.serial then ⟨deniedEntry x, .clean⟩ else y } } xs
        { n with updated := n.updated + 1 } := by
  rw [State.takeDenyItems, lookupDeny_clean hfind]
  dsimp only
  rw [if_neg (by simp [hvalid]), if_pos Option.isSome_some, denyEntryOf_eq haction, State.updateDeny, armed_none harmed]
  rfl

/-- A serial not held is inserted while the list has room (R31). -/
theorem takeDenyItems_room {s : State} {x : DenyItem} {before after : List (Stored DenyEntry)} (xs : List DenyItem) (n : DenyCounts)
    (hvalid : s.screening.denyValid = true) (harmed : Disarmed s .lists) (haction : ¬1 < x.action.toNat)
    (hlist : s.screening.denylist = before ++ after) (hlength : s.screening.denylist.length < 8192)
    (hbefore : ∀ y ∈ before, y.val.serial.toNat < x.serial.toNat) (hafter : ∀ y ∈ after, x.serial.toNat < y.val.serial.toNat)
    (hclean : ∀ y ∈ s.screening.suspects, y.bits = .clean) :
    s.takeDenyItems (x :: xs) n = State.takeDenyItems { s with screening := { s.screening with
        denylist := before ++ [⟨deniedEntry x, .clean⟩] ++ after
        suspects := s.screening.suspects.filter fun y => y.val.serial != x.serial } } xs
      { n with
        added := n.added + 1
        moved := if s.screening.suspects.any fun y => y.val.serial == x.serial then n.moved + 1 else n.moved } := by
  have habsent : ∀ y ∈ s.screening.denylist, y.val.serial ≠ x.serial := by
    rw [hlist]
    intro y hy heq
    rcases List.mem_append.mp hy with h | h
    · have := hbefore y h
      rw [heq] at this
      omega
    · have := hafter y h
      rw [heq] at this
      omega
  rw [State.takeDenyItems, lookupDeny_none habsent]
  dsimp only
  rw [if_neg (by simp [hvalid]), if_neg (by simp), if_pos hlength, denyEntryOf_eq haction,
    addDeny_between (x := deniedEntry x) harmed hlist hbefore hafter hclean]
  rfl

/-- A serial not held is not taken by a full list, nor is an item after it (R31). -/
theorem takeDenyItems_full {s : State} {x : DenyItem} (xs : List DenyItem) (n : DenyCounts)
    (hvalid : s.screening.denyValid = true) (hfull : 8192 ≤ s.screening.denylist.length)
    (habsent : ∀ y ∈ s.screening.denylist, y.val.serial ≠ x.serial) :
    s.takeDenyItems (x :: xs) n = (some { n with notTaken := xs.length + 1 }, s) := by
  have hlength : ¬s.screening.denylist.length < denyCapacity := by
    unfold denyCapacity
    omega
  rw [State.takeDenyItems, lookupDeny_none habsent]
  dsimp only
  rw [if_neg (by simp [hvalid]), if_neg (by simp), if_neg hlength]
  rfl

/-- The lists of a DENY ADD on undamaged lists: the denylist VALID and sorted, no entry of either damaged (R30, R31). -/
structure Denyable (x : Screening) : Prop where
  valid : x.denyValid = true
  denied : ∀ y ∈ x.denylist, y.bits = .clean
  suspected : ∀ y ∈ x.suspects, y.bits = .clean
  sorted : (x.denylist.map fun y => y.val.serial.toNat).Pairwise (· < ·)

theorem Denyable.update {x : Screening} (h : Denyable x) (i : DenyItem) : Denyable { x with
    denylist := x.denylist.map fun y => if y.val.serial = i.serial then ⟨deniedEntry i, .clean⟩ else y } where
  valid := h.valid
  denied := by
    simp only [List.mem_map, forall_exists_index, and_imp, forall_apply_eq_imp_iff₂]
    intro y hy
    split
    · rfl
    · exact h.denied y hy
  suspected := h.suspected
  sorted := by
    have hserials : (x.denylist.map fun y => if y.val.serial = i.serial then (⟨deniedEntry i, .clean⟩ : Stored DenyEntry) else y).map
        (fun y => y.val.serial.toNat) = x.denylist.map fun y => y.val.serial.toNat := by
      rw [List.map_map]
      refine List.map_congr_left fun y _ => ?_
      dsimp only [Function.comp]
      split
      next hy => rw [hy]; rfl
      next => rfl
    dsimp only
    rw [hserials]
    exact h.sorted

theorem Denyable.insert {x : Screening} (h : Denyable x) (i : DenyItem) : Denyable { x with
    denylist := (x.denylist.filter fun y => decide (y.val.serial.toNat < i.serial.toNat)) ++ [⟨deniedEntry i, .clean⟩]
      ++ x.denylist.filter fun y => decide (i.serial.toNat < y.val.serial.toNat)
    suspects := x.suspects.filter fun y => y.val.serial != i.serial } where
  valid := h.valid
  denied := by
    intro y hy
    simp only [List.mem_append, List.mem_filter, List.mem_singleton] at hy
    rcases hy with (⟨hy, -⟩ | rfl) | ⟨hy, -⟩
    · exact h.denied y hy
    · rfl
    · exact h.denied y hy
  suspected := fun y hy => h.suspected y (List.mem_filter.mp hy).1
  sorted := by
    have hbelow : ((x.denylist.filter fun y => decide (y.val.serial.toNat < i.serial.toNat)).map
        fun y => y.val.serial.toNat).Pairwise (· < ·) := h.sorted.sublist (List.filter_sublist.map _)
    have habove : ((x.denylist.filter fun y => decide (i.serial.toNat < y.val.serial.toNat)).map
        fun y => y.val.serial.toNat).Pairwise (· < ·) := h.sorted.sublist (List.filter_sublist.map _)
    simp only [List.map_append, List.map_cons, List.append_assoc, List.singleton_append, List.pairwise_append,
      List.pairwise_cons, List.mem_cons, List.mem_map, List.mem_filter, decide_eq_true_eq]
    refine ⟨hbelow, ⟨?_, habove⟩, ?_⟩
    · rintro _ ⟨y, ⟨-, hy⟩, rfl⟩
      exact hy
    · rintro _ ⟨y, ⟨-, hy⟩, rfl⟩ _ (rfl | ⟨z, ⟨-, hz⟩, rfl⟩)
      · exact hy
      · omega

/-- The screening unit with a held item updated in its place (R31). -/
def Screening.updating (x : Screening) (i : DenyItem) : Screening :=
  { x with denylist := x.denylist.map fun y => if y.val.serial = i.serial then ⟨deniedEntry i, .clean⟩ else y }

/-- The screening unit with a new item at its sorted place and out of the suspect list (R31). -/
def Screening.inserting (x : Screening) (i : DenyItem) : Screening :=
  { x with
    denylist := (x.denylist.filter fun y => decide (y.val.serial.toNat < i.serial.toNat)) ++ [⟨deniedEntry i, .clean⟩]
      ++ x.denylist.filter fun y => decide (i.serial.toNat < y.val.serial.toNat)
    suspects := x.suspects.filter fun y => y.val.serial != i.serial }

/-- The steps of `denying`, an item at a time (R31). -/
theorem denying_cons (x : Screening) (i : DenyItem) (is : List DenyItem) : x.denying (i :: is)
    = if x.denylist.any fun y => y.val.serial == i.serial then
        ({ ((x.updating i).denying is).1 with updated := ((x.updating i).denying is).1.updated + 1 }, ((x.updating i).denying is).2)
      else if x.denylist.length < 8192 then
        ({ ((x.inserting i).denying is).1 with
            added := ((x.inserting i).denying is).1.added + 1
            moved := if x.suspects.any fun y => y.val.serial == i.serial then ((x.inserting i).denying is).1.moved + 1
              else ((x.inserting i).denying is).1.moved }, ((x.inserting i).denying is).2)
      else (⟨0, 0, is.length + 1, 0⟩, x) := rfl

/-- The items of a DENY ADD on undamaged lists are taken in their order (R31). -/
theorem takeDenyItems_denying (items : List DenyItem) {s : State} (h : Denyable s.screening) (harmed : Disarmed s .lists)
    (hactions : ∀ x ∈ items, ¬1 < x.action.toNat) (n : DenyCounts) (hn : n.notTaken = 0) : s.takeDenyItems items n =
      (some ⟨n.added + (s.screening.denying items).1.added, n.updated + (s.screening.denying items).1.updated,
        (s.screening.denying items).1.notTaken, n.moved + (s.screening.denying items).1.moved⟩,
        { s with screening := (s.screening.denying items).2 }) := by
  induction items generalizing s n with
  | nil =>
    obtain ⟨added, updated, _, moved⟩ := n
    subst hn
    rfl
  | cons x xs ih =>
    have haction := hactions x (by simp)
    have hrest := fun y hy => hactions y (List.mem_cons_of_mem x hy)
    rw [denying_cons]
    split
    next hheld =>
      rcases hfind : s.screening.denylist.find? (fun y => y.val.serial == x.serial) with _ | ⟨e, bits⟩
      · exact absurd hheld (by simpa using List.find?_eq_none.mp hfind)
      · have hbits : bits = .clean := h.denied _ (List.mem_of_find?_eq_some hfind)
        have hnext := ih (s := { s with screening := s.screening.updating x }) (h.update x) harmed hrest
          { n with updated := n.updated + 1 } hn
        refine (takeDenyItems_held xs n h.valid harmed haction (by rw [hfind, hbits])).trans (hnext.trans ?_)
        refine Prod.ext (congrArg some ?_) rfl
        simp only [DenyCounts.mk.injEq, true_and, and_true]
        omega
    next hheld =>
      have habsent : ∀ y ∈ s.screening.denylist, y.val.serial ≠ x.serial := by simpa using hheld
      split
      next hlength =>
        have hparts := sorted_parts h.sorted (n := x.serial.toNat) fun y hy hnat => habsent y hy (BitVec.eq_of_toNat_eq hnat)
        have hnext := ih (s := { s with screening := s.screening.inserting x }) (h.insert x) harmed hrest { n with
          added := n.added + 1
          moved := if s.screening.suspects.any fun y => y.val.serial == x.serial then n.moved + 1 else n.moved } hn
        refine (takeDenyItems_room xs n h.valid harmed haction hparts hlength (by simp) (by simp) h.suspected).trans (hnext.trans ?_)
        refine Prod.ext (congrArg some ?_) rfl
        simp only [DenyCounts.mk.injEq, true_and]
        refine ⟨by omega, ?_⟩
        split <;> omega
      next hlength =>
        rw [takeDenyItems_full xs n h.valid (by omega) habsent]
        rfl

theorem denying_total (items : List DenyItem) (x : Screening) :
    (x.denying items).1.added + (x.denying items).1.updated + (x.denying items).1.notTaken = items.length := by
  induction items generalizing x with
  | nil => rfl
  | cons i is ih =>
    rw [denying_cons, List.length_cons]
    split
    · have h := ih (x.updating i)
      dsimp only
      omega
    · split
      · have h := ih (x.inserting i)
        dsimp only
        omega
      · simp

/-- Settles O23: one item on lists undamaged where it reads them, and the items of a request one after another. -/
theorem denyAddTakesItsItems : Obligations.DenyAddTakesItsItems := by
  intro s items hserving bad
  have hany : (items.any denyItemBad = true) ↔ ∃ x ∈ items, x.serial = 0 ∨ 1 < x.action.toNat := by
    simp only [List.any_eq_true, denyItemBad_iff]
  have hbad : (items.length < 1 ∨ 51 < items.length ∨ items.any denyItemBad = true) ↔ bad := or_congr_right (or_congr_right hany)
  have hactions (h : ¬bad) : ∀ x ∈ items, ¬1 < x.action.toNat := fun x hx hgt => h (.inr (.inr ⟨x, hx, .inr hgt⟩))
  have htaken {n : DenyCounts} {u : State} (h : ¬bad) (hvalid : s.screening.denyValid = true) (hlink : u.link = s.link)
      (htake : s.takeDenyItems items ⟨0, 0, 0, 0⟩ = (some n, u)) : Answers (.denyAdd items) s 0x0D ⟨.ok, none,
        [BitVec.ofNat 8 n.added, BitVec.ofNat 8 n.updated, BitVec.ofNat 8 n.notTaken, BitVec.ofNat 8 n.moved]⟩ u := by
    have hwork : s.addDenyItems items = (⟨.ok, none,
        [BitVec.ofNat 8 n.added, BitVec.ofNat 8 n.updated, BitVec.ofNat 8 n.notTaken, BitVec.ofNat 8 n.moved]⟩, u) := by
      rw [State.addDenyItems, if_neg (mt hbad.mp h), hvalid, htake]
      simp [ok, b1, beBytes_one]
    exact answers_of_work hserving (work := fun s => s.addDenyItems items) rfl hwork hlink
  refine ⟨fun h => ?_, fun h hinvalid => ?_, ?_, fun h hvalid harmed hdenied hsuspected hsorted => ?_⟩
  · exact answers_of_work hserving (work := fun s => s.addDenyItems items) rfl (if_pos (hbad.mpr h)) rfl
  · have hwork : s.addDenyItems items = (refused .denylistInvalid, s) := by
      rw [State.addDenyItems, if_neg (mt hbad.mp h), hinvalid]
      rfl
    exact answers_of_work hserving (work := fun s => s.addDenyItems items) rfl hwork rfl
  · rintro x rfl h hvalid harmed entry
    have haction := hactions h x (by simp)
    refine ⟨fun e hfind => ?_, fun before after hlist hlength hbefore hafter hclean => ?_, fun hfull habsent => ?_⟩
    · exact htaken (n := ⟨0, 1, 0, 0⟩) h hvalid rfl (takeDenyItems_held [] ⟨0, 0, 0, 0⟩ hvalid harmed haction hfind)
    · intro moved
      have hmoved : (s.screening.suspects.any fun y => y.val.serial == x.serial) = true ↔ moved := by simp [moved]
      have htake := takeDenyItems_room [] ⟨0, 0, 0, 0⟩ hvalid harmed haction hlist hlength hbefore hafter hclean
      have hbody : (if moved then (1 : Byte) else 0) = BitVec.ofNat 8
          (if (s.screening.suspects.any fun y => y.val.serial == x.serial) = true then 0 + 1 else 0) := by
        by_cases hm : moved
        · rw [if_pos hm, if_pos (hmoved.mpr hm)]
          rfl
        · rw [if_neg hm, if_neg (mt hmoved.mp hm)]
          rfl
      rw [hbody]
      exact htaken (n := ⟨0 + 1, 0, 0, _⟩) h hvalid rfl htake
    · exact htaken (n := ⟨0, 0, 1, 0⟩) h hvalid rfl (takeDenyItems_full [] ⟨0, 0, 0, 0⟩ hvalid hfull habsent)
  · refine ⟨denying_total items s.screening, ?_⟩
    have htake := takeDenyItems_denying items ⟨hvalid, hdenied, hsuspected, hsorted⟩ harmed (hactions h) ⟨0, 0, 0, 0⟩ rfl
    simp only [Nat.zero_add] at htake
    exact htaken h hvalid rfl htake

/-! ### The other requests on the lists -/

theorem withoutDeny_absent {ser : Serial} {xs : List (Stored DenyEntry)} (h : ∀ y ∈ xs, y.val.serial ≠ ser) : withoutDeny ser xs = xs := by
  unfold withoutDeny
  rw [List.filter_eq_self]
  simpa using h

/-- DENY REMOVE on an undamaged list: each serial is looked up once, and all of them are gone after (R32). -/
theorem removeDenySerials_clean (serials : List Serial) {s : State} (hvalid : s.screening.denyValid = true)
    (hclean : ∀ y ∈ s.screening.denylist, y.bits = .clean) (r n : Nat) : ∃ removed missing,
      removed + missing = serials.length
        ∧ (serials.Nodup → removed = serials.countP fun x => s.screening.denylist.any fun y => y.val.serial == x)
        ∧ s.removeDenySerials serials r n = (some (r + removed, n + missing),
          s.setDenylist (s.screening.denylist.filter fun y => !serials.contains y.val.serial)) := by
  induction serials generalizing s r n with
  | nil =>
    refine ⟨0, 0, rfl, fun _ => rfl, ?_⟩
    have hall : (s.screening.denylist.filter fun y => !([] : List Serial).contains y.val.serial) = s.screening.denylist := by simp
    rw [hall]
    rfl
  | cons x xs ih =>
    have hfilter (ys : List (Stored DenyEntry)) : ((withoutDeny x ys).filter fun y => !xs.contains y.val.serial)
        = ys.filter fun y => !(x :: xs).contains y.val.serial := by
      unfold withoutDeny
      rw [List.filter_filter]
      refine List.filter_congr fun y _ => ?_
      rw [List.contains_cons, Bool.not_or, Bool.and_comm]
      rfl
    have hothers (hnodup : (x :: xs).Nodup) (ys : List (Stored DenyEntry)) :
        (xs.countP fun z => (withoutDeny x ys).any fun y => y.val.serial == z) = xs.countP fun z => ys.any fun y => y.val.serial == z := by
      have hx : x ∉ xs := (List.nodup_cons.mp hnodup).1
      refine List.countP_congr fun z hz => ?_
      have hne : z ≠ x := fun h => hx (h ▸ hz)
      simp only [withoutDeny, List.any_eq_true, List.mem_filter, bne_iff_ne, beq_iff_eq]
      constructor
      · rintro ⟨y, ⟨hy, -⟩, heq⟩
        exact ⟨y, hy, heq⟩
      · rintro ⟨y, hy, heq⟩
        exact ⟨y, ⟨hy, by rw [heq]; exact hne⟩, heq⟩
    obtain ⟨hstate, hheld⟩ := lookupDeny_undamaged hclean x
    rw [State.removeDenySerials]
    dsimp only
    rw [hstate, hheld, if_neg (by simp [hvalid])]
    split
    next hany =>
      obtain ⟨removed, missing, hcount, hnodup, hremoved⟩ := ih (s := s.setDenylist (withoutDeny x s.screening.denylist)) hvalid
        (fun y hy => hclean y (List.mem_filter.mp hy).1) (r + 1) n
      refine ⟨removed + 1, missing, by rw [List.length_cons]; omega, fun hdup => ?_, ?_⟩
      · rw [List.countP_cons_of_pos (p := fun x => s.screening.denylist.any fun y => y.val.serial == x) hany, hnodup (List.nodup_cons.mp hdup).2, ← hothers hdup s.screening.denylist]
        rfl
      · rw [hremoved, ← hfilter]
        refine Prod.ext (congrArg some (Prod.ext ?_ rfl)) rfl
        dsimp only
        omega
    next hany =>
      have habsent : ∀ y ∈ s.screening.denylist, y.val.serial ≠ x := by simpa using hany
      obtain ⟨removed, missing, hcount, hnodup, hremoved⟩ := ih hvalid hclean r (n + 1)
      refine ⟨removed, missing + 1, by rw [List.length_cons]; omega, fun hdup => ?_, ?_⟩
      · rw [List.countP_cons_of_neg (p := fun x => s.screening.denylist.any fun y => y.val.serial == x) hany, hnodup (List.nodup_cons.mp hdup).2]
      · rw [hremoved, ← hfilter, withoutDeny_absent habsent]
        refine Prod.ext (congrArg some (Prod.ext rfl ?_)) rfl
        dsimp only
        omega

theorem readSuspects_clean {xs : List (Stored SuspectEntry)} (h : ∀ y ∈ xs, y.bits = .clean) (n : Nat) :
    readSuspects n xs = ⟨(xs.take n).map fun y => y.val, xs, ⟨0, 0⟩⟩ := by
  induction xs generalizing n with
  | nil => cases n <;> rfl
  | cons x xs ih =>
    cases n with
    | zero => rfl
    | succ n =>
      rw [readSuspects, h x (by simp)]
      dsimp only
      rw [ih fun y hy => h y (by simp [hy])]
      rfl

/-- Settles O24: the four requests, on lists undamaged where they read them. -/
theorem listRequestsRemoveReadAndClear : Obligations.ListRequestsRemoveReadAndClear := by
  intro s serials position count ser hserving bad noPage page
  refine ⟨fun h => ?_, fun h hinvalid => ?_, fun h hvalid hclean => ?_, ?_, fun h => ?_, fun hclean => ⟨fun h => ?_, ?_⟩⟩
  · exact answers_of_work hserving (work := fun s => s.removeDeny serials) rfl (if_pos h) rfl
  · have hwork : s.removeDeny serials = (refused .denylistInvalid, s) := by
      rw [State.removeDeny, if_neg h, hinvalid]
      rfl
    exact answers_of_work hserving (work := fun s => s.removeDeny serials) rfl hwork rfl
  · obtain ⟨removed, missing, hcount, hnodup, hremoved⟩ := removeDenySerials_clean serials hvalid hclean 0 0
    refine ⟨removed, missing, hcount, hnodup, ?_⟩
    have hwork : s.removeDeny serials = (⟨.ok, none, [BitVec.ofNat 8 removed, BitVec.ofNat 8 missing]⟩,
        s.setDenylist (s.screening.denylist.filter fun y => !serials.contains y.val.serial)) := by
      rw [State.removeDeny, if_neg h, hvalid, hremoved]
      simp [ok, b1, beBytes_one]
    exact answers_of_work hserving (work := fun s => s.removeDeny serials) rfl hwork rfl
  · exact answers_of_work hserving (work := fun s => (ok [], s.clearDeny)) rfl rfl rfl
  · exact answers_of_work hserving (work := fun s => s.readSuspectPage position.toNat count.toNat) rfl (if_pos h) rfl
  · have hread := readSuspects_clean (xs := s.screening.suspects.drop position.toNat)
      (fun y hy => hclean y (List.mem_of_mem_drop hy)) count.toNat
    have hpage : s.suspectPage position.toNat count.toNat = (beBytes 2 s.screening.suspects.length ++ beBytes 1 page.length
        ++ page.flatMap fun y => suspectBytes y.val, s) := by
      unfold State.suspectPage
      dsimp only
      rw [hread]
      dsimp only
      rw [List.take_append_drop, List.length_map, List.flatMap_map]
      rfl
    have hwork : s.readSuspectPage position.toNat count.toNat = (⟨.ok, none, beBytes 2 s.screening.suspects.length
        ++ beBytes 1 page.length ++ page.flatMap fun y => suspectBytes y.val⟩, s) := by
      rw [State.readSuspectPage, if_neg h, hpage]
      rfl
    exact answers_of_work hserving (work := fun s => s.readSuspectPage position.toNat count.toNat) rfl hwork rfl
  · obtain ⟨hstate, hheld⟩ := lookupSuspect_undamaged hclean ser
    have hexists : (s.screening.suspects.any fun y => y.val.serial == ser) = true ↔ ∃ y ∈ s.screening.suspects, y.val.serial = ser := by
      simp
    have hwork : s.clearSuspect ser = (⟨.ok, none, [if ∃ y ∈ s.screening.suspects, y.val.serial = ser then 1 else 0]⟩,
        s.setSuspects (s.screening.suspects.filter fun y => y.val.serial != ser)) := by
      unfold State.clearSuspect
      dsimp only
      rw [hstate, hheld]
      by_cases hany : ∃ y ∈ s.screening.suspects, y.val.serial = ser
      · rw [if_pos (hexists.mpr hany), if_pos hany]
        rfl
      · have habsent : (s.screening.suspects.filter fun y => y.val.serial != ser) = s.screening.suspects := by
          rw [List.filter_eq_self]
          simpa using hany
        rw [if_neg (mt hexists.mp hany), if_neg hany, habsent]
        rfl
    exact answers_of_work hserving (work := fun s => s.clearSuspect ser) rfl hwork rfl

end Sys2Proof.Machine

end

/-! ## Chapter 3: the rule walk and the pair evaluation -/

section

-- Proofs are checked in order: as one text the file would otherwise hold more waiting proofs than the check has memory for.
set_option Elab.async false

namespace Sys2Proof.Machine

/-! ### The rule walk -/

/-- The steps of a walk over an undamaged entry (R64 to R66). -/
theorem walkRules_skipping (f : PairFields) (limit count : Nat) (w : Working) {e : Stored Rule} (h : e.bits = .clean)
    (rules : List (Stored Rule)) : walkRules f limit (e :: rules) count true w = walkRules f limit rules count e.val.chain w := by
  rw [walkRules, readItem_clean _ h, Rd.ret_bind]

theorem holds_iff (r : Rule) (f : PairFields) : r.holds f = true ↔ r.low ≤ f.value r.field ∧ f.value r.field ≤ r.high := by
  simp [Rule.holds]

theorem walkRules_fails (f : PairFields) {limit count : Nat} (w : Working) {e : Rule} (hlimit : count < limit)
    (h : ¬(e.low ≤ f.value e.field ∧ f.value e.field ≤ e.high)) (rules : List (Stored Rule)) :
    walkRules f limit (⟨e, .clean⟩ :: rules) count false w = walkRules f limit rules (count + 1) e.chain w := by
  have hholds : e.holds f = false := (Bool.not_eq_true _).mp (mt (holds_iff e f).mp h)
  rw [walkRules, if_neg (by omega), readItem_clean _ rfl, Rd.ret_bind, hholds]
  rfl

theorem walkRules_holds (f : PairFields) {limit count : Nat} (w : Working) {e : Rule} (hlimit : count < limit)
    (hlow : e.low ≤ f.value e.field) (hhigh : f.value e.field ≤ e.high) (rules : List (Stored Rule)) :
    walkRules f limit (⟨e, .clean⟩ :: rules) count false w
      = if e.chain then walkRules f limit rules (count + 1) false w
        else if e.action = .stop then .ret (some w)
        else walkRules f limit rules (count + 1) false (e.apply w) := by
  have hholds : e.holds f = true := (holds_iff e f).mpr ⟨hlow, hhigh⟩
  rw [walkRules, if_neg (by omega), readItem_clean _ rfl, Rd.ret_bind, hholds]
  rfl

/-- The rest of a failed chain is passed over (R64). -/
theorem walkRules_chain (f : PairFields) (limit count : Nat) (w : Working) {chain : List Rule} {last : Rule}
    (hchain : ∀ x ∈ chain, x.chain = true) (hlast : last.chain = false) (rules : List (Stored Rule)) :
    walkRules f limit (chain.map Stored.fresh ++ ⟨last, .clean⟩ :: rules) count true w = walkRules f limit rules count false w := by
  induction chain with
  | nil => rw [List.map_nil, List.nil_append, walkRules_skipping _ _ _ _ rfl, hlast]
  | cons x xs ih =>
    rw [List.map_cons, List.cons_append, walkRules_skipping _ _ _ _ rfl]
    show walkRules f limit _ count x.chain w = _
    rw [hchain x (by simp)]
    exact ih fun y hy => hchain y (by simp [hy])

/-- A limit not less than the entries ahead is never met (R66). -/
theorem walkRules_within (f : PairFields) (limit : Nat) (rules : List (Stored Rule)) (count : Nat) (skip : Bool) (w : Working)
    (h : count + rules.length ≤ limit) : (walkRules f limit rules count skip w).val.isSome = true := by
  induction rules generalizing count skip w with
  | nil => cases skip <;> rfl
  | cons e es ih =>
    rw [List.length_cons] at h
    cases skip with
    | true => exact ih count _ w (by omega)
    | false =>
      rw [walkRules, if_neg (by omega)]
      dsimp only [Rd.bind]
      split
      · exact ih _ _ _ (by omega)
      · split
        · exact ih _ _ _ (by omega)
        · split
          · rfl
          · exact ih _ _ _ (by omega)

theorem apply_eq {e : Rule} (h : e.action ≠ .stop) (w : Working) : e.apply w = if e.action = .setBase then { w with base := e.value }
    else if e.action = .addBase then { w with base := w.base + e.value }
    else if e.action = .setFactor then { w with factor := e.value.toNat }
    else { w with discount := e.value.toNat } := by
  unfold Rule.apply
  cases haction : e.action <;> simp_all

/-- Settles O26: the steps of the walk, entry by entry. -/
theorem ruleWalkSkipsFailedChainsAndStopsAtItsLimit : Obligations.RuleWalkSkipsFailedChainsAndStopsAtItsLimit := by
  intro f limit count w rules e
  refine ⟨walkRules_within f limit rules count false w, ?_, fun hlimit hfails => ⟨fun chain last hchain hmore hlast => ?_, fun hchain => ?_⟩,
    fun hlimit hlow hhigh => ⟨fun hchain => ?_, fun hchain hstop => ?_, fun hchain hgo => ?_⟩⟩
  · rw [walkRules, if_pos rfl]
    rfl
  · rw [walkRules_fails f w hlimit hfails, hchain, walkRules_chain f limit _ w hmore hlast]
  · rw [walkRules_fails f w hlimit hfails, hchain]
  · rw [walkRules_holds f w hlimit hlow hhigh, if_pos hchain]
  · rw [walkRules_holds f w hlimit hlow hhigh, hchain, if_neg Bool.false_ne_true, if_pos hstop]
    rfl
  · rw [walkRules_holds f w hlimit hlow hhigh, hchain, if_neg Bool.false_ne_true, if_neg hgo, apply_eq hgo]

/-! ### The pair evaluation -/

theorem readAt_clean {α : Type} (damaged : α) {xs : List (Stored α)} (h : ∀ x ∈ xs, x.bits = .clean) (i : Nat) :
    readAt damaged xs i = .ret ((xs[i]?).getD (Stored.fresh damaged)).val :=
  readItem_clean damaged (lookup_clean _ h i damaged)

/-- The day type of a service day in an undamaged bank (R58). -/
theorem dayType_clean {b : Bank} (h : BankClean b) (day : Nat) : b.dayType day = .ret (
    if dayOfWeek day = 6 ∨ ∃ x ∈ b.holidays.take (b.headerVal 13), x.val = day then .sundayHoliday
    else if dayOfWeek day = 5 then .saturday else .weekday) := by
  obtain ⟨hheader, -, -, hholidays, -⟩ := h
  unfold Bank.dayType
  split
  next hsunday => rw [if_pos (.inl hsunday)]
  next hsunday =>
    rw [Bank.readHeader_clean hheader, Rd.ret_bind, findHoliday_clean day fun x hx => hholidays x (List.mem_of_mem_take hx), Rd.ret_bind]
    by_cases hholiday : ∃ x ∈ b.holidays.take (b.headerVal 13), x.val = day
    · rw [if_pos (decide_eq_true hholiday), if_pos (.inr hholiday)]
    · rw [if_neg (by simpa using hholiday), if_neg (not_or.mpr ⟨hsunday, hholiday⟩)]

/-- The band that the lookup takes is the last whose start is not above the minute (R59). -/
theorem bestBand_takes {minute : Nat} {xs : List (Stored Band)} (hclean : ∀ x ∈ xs, x.bits = .clean) {before after : List Band}
    {band : Band} (hxs : xs.map (fun x => x.val) = before ++ band :: after) (hbefore : ∀ x ∈ before, x.start < band.start)
    (hband : band.start ≤ minute) (hafter : ∀ x ∈ after, minute < x.start) : bestBand minute xs none = .ret (some band) := by
  obtain ⟨ys, zs, rfl, hys, hzs⟩ := List.map_eq_append_iff.mp hxs
  obtain ⟨x, zs, rfl, rfl, hrest⟩ := List.map_eq_cons_iff.mp hzs
  obtain ⟨kept, -, hgoOn, hkept⟩ := bestBand_append minute (xs := ys) (fun y hy => hclean y (by simp [hy])) (x :: zs) none
  have htaken : takeBand minute kept x.val = some x.val := by
    unfold takeBand
    rw [if_neg (by omega)]
    rcases kept with _ | y
    · rfl
    · obtain ⟨z, hz, rfl⟩ := (hkept y rfl).resolve_left (by simp)
      exact if_pos (.inl (hbefore _ (by rw [← hys]; exact List.mem_map_of_mem hz)))
  rw [hgoOn, bestBand, readItem_clean _ (hclean x (by simp)), Rd.ret_bind, htaken]
  exact bestBand_past minute (fun y hy => hclean y (by simp [hy]))
    (fun y hy => hafter _ (by rw [← hrest]; exact List.mem_map_of_mem hy)) _

/-- The day type that a service day has in a bank (R58). -/
def Bank.dayTypeOf (b : Bank) (day : Nat) : DayType :=
  if dayOfWeek day = 6 ∨ ∃ x ∈ b.holidays.take (b.headerVal 13), x.val = day then .sundayHoliday
  else if dayOfWeek day = 5 then .saturday else .weekday

/-- The bands of a day type in use (R59, R86). -/
def Bank.bandsOf (b : Bank) (d : DayType) : List (Stored Band) :=
  (b.bands.drop (8 * dayTypeNumber d)).take (b.headerVal (10 + dayTypeNumber d))

/-- The factor of the band kept, a free value when no band is in use (R59; log entry 31). -/
def factorOf (minute : Nat) : Option Band → Nat
  | some y => y.factor
  | none => Config.factorWithoutBand minute

/-- The price of a pair by its fields and starting values (R62 to R70). -/
def Bank.priceOf (b : Bank) (fields : PairFields) (initial : Working) : PairResult :=
  let walked := (walkRules fields (b.headerVal 9) (b.rules.take (b.headerVal 8)) 0 false initial).val
  ⟨pricedFare (b.headerVal 7) (b.headerVal 1) (walked.getD initial), false, walked.isNone⟩

/-- With no rule in use a walk needs no limit. -/
theorem walkRules_limit (b : Bank) (f : PairFields) (w : Working) :
    walkRules f (if b.headerVal 8 = 0 then 0 else b.headerVal 9) (b.rules.take (b.headerVal 8)) 0 false w
      = walkRules f (b.headerVal 9) (b.rules.take (b.headerVal 8)) 0 false w := by
  split
  next hnone => rw [hnone, List.take_zero]; rfl
  next => rfl

/-- A pair of an undamaged bank whose zones are known (R62 to R70), by the band that its lookup takes. -/
theorem pricePair_clean {b : Bank} (h : BankClean b) {kept : Option Band} (here now cls station time o d : Nat)
    (hband : bestBand (dayMinute (b.headerVal 0) time) (b.bandsOf (b.dayTypeOf (serviceDay (b.headerVal 0) time))) none = .ret kept) :
    b.pricePair here now cls station time o d (b.headerVal 7) = .ret (b.priceOf
      ⟨station, here, o, d, cls, dayTypeNumber (b.dayTypeOf (serviceDay (b.headerVal 0) time)), dayMinute (b.headerVal 0) time,
        dwellMinutes now time, if station = here then 1 else 0⟩
      ⟨((b.baseFares[o * 16 + d]?).getD (Stored.fresh 0)).val, factorOf (dayMinute (b.headerVal 0) time) kept,
        ((b.classes[cls]?).getD (Stored.fresh ⟨0, 0, 0⟩)).val.discount⟩) := by
  have hdayType := dayType_clean h (serviceDay (b.headerVal 0) time)
  obtain ⟨hheader, -, hfares, -, hbands, hclasses, hrules⟩ := h
  have hfactor : b.bandFactor (b.dayTypeOf (serviceDay (b.headerVal 0) time)) (dayMinute (b.headerVal 0) time) = .ret (factorOf (dayMinute (b.headerVal 0) time) kept) := by
    unfold Bank.bandFactor
    rw [Bank.readHeader_clean hheader, Rd.ret_bind]
    exact (congrArg (Rd.bind · _) hband).trans ((Rd.ret_bind _ _).trans (by cases kept <;> rfl))
  have hlimit : b.walkLimit (b.headerVal 8) = .ret (if b.headerVal 8 = 0 then 0 else b.headerVal 9) := by
    unfold Bank.walkLimit
    split
    · rfl
    · exact Bank.readHeader_clean hheader 9
  unfold Bank.pricePair
  rw [readAt_clean 0 hfares, Rd.ret_bind, Bank.readHeader_clean hheader, Rd.ret_bind, hdayType, Rd.ret_bind]
  refine (congrArg (Rd.bind · _) hfactor).trans ?_
  rw [Rd.ret_bind, Bank.readClass, readAt_clean _ hclasses, Rd.ret_bind, Bank.readHeader_clean hheader, Rd.ret_bind, hlimit, Rd.ret_bind]
  dsimp only
  rw [walkRules_limit, Rd.eq_ret (walkRules_clean _ _ (fun x hx => hrules x (List.mem_of_mem_take hx)) _ _ _), Rd.ret_bind,
    Bank.readHeader_clean hheader, Rd.ret_bind]
  rfl

theorem zoneOf_clean {b : Bank} (h : BankClean b) (n : Nat) : b.zoneOf n = .ret (zoneAt b n).val :=
  readItem_clean _ (lookup_clean _ h.2.1 n none)

/-- A pair with two zones is priced (R61). -/
theorem evalPair_known {b : Bank} (h : BankClean b) {here now cls station time o d : Nat} (horigin : (zoneAt b station).val = some o)
    (hdestination : (zoneAt b here).val = some d) :
    b.evalPair here now cls station time = b.pricePair here now cls station time o d (b.headerVal 7) := by
  unfold Bank.evalPair
  rw [zoneOf_clean h, Rd.ret_bind, zoneOf_clean h, Rd.ret_bind, Bank.readHeader_clean h.1, Rd.ret_bind, horigin, hdestination]

/-- A pair with a station that has no zone costs the max fare (R61). -/
theorem evalPair_unknown {b : Bank} (h : BankClean b) {here now cls station time : Nat}
    (hnone : (zoneAt b station).val = none ∨ (zoneAt b here).val = none) :
    b.evalPair here now cls station time = .ret ⟨b.headerVal 7, true, false⟩ := by
  unfold Bank.evalPair
  rw [zoneOf_clean h, Rd.ret_bind, zoneOf_clean h, Rd.ret_bind, Bank.readHeader_clean h.1, Rd.ret_bind]
  rcases hnone with hnone | hnone
  · rw [hnone]
  · rw [hnone]
    cases (zoneAt b station).val <;> rfl

theorem bandsOf_clean {b : Bank} (h : BankClean b) (d : DayType) : ∀ x ∈ b.bandsOf d, x.bits = .clean := by
  obtain ⟨-, -, -, -, hbands, -⟩ := h
  exact fun x hx => hbands x (List.mem_of_mem_drop (List.mem_of_mem_take hx))

/-- The day type as R58 numbers it. -/
theorem dayTypeNumber_eq (b : Bank) (day : Nat) : dayTypeNumber (b.dayTypeOf day)
    = if (day + 5) % 7 = 6 ∨ ∃ x ∈ b.holidays.take (b.headerVal 13), x.val = day then 2 else if (day + 5) % 7 = 5 then 1 else 0 := by
  rw [Bank.dayTypeOf, apply_ite dayTypeNumber, apply_ite dayTypeNumber]
  rfl

/-- Settles O27: the stages over the lookups of an undamaged bank. -/
theorem pairEvaluationRunsItsStages : Obligations.PairEvaluationRunsItsStages := by
  intro b here now cls station time h start day minute dayType origin destination result
  have hunknown (hnone : origin = none ∨ destination = none) : result = .ret ⟨b.headerVal 7, true, false⟩ := evalPair_unknown h hnone
  refine ⟨?_, fun hnone => by rw [hunknown hnone]; rfl, ?_⟩
  · rcases horigin : origin with _ | o
    · rw [hunknown (.inl horigin)]
      rfl
    · rcases hdestination : destination with _ | d
      · rw [hunknown (.inr hdestination)]
        rfl
      · obtain ⟨kept, hkept, -⟩ := bestBand_append (dayMinute (b.headerVal 0) time)
          (bandsOf_clean h (b.dayTypeOf (serviceDay (b.headerVal 0) time))) [] none
        have hresult : result = _ := (evalPair_known h horigin hdestination).trans
          (pricePair_clean h here now cls station time o d hkept)
        rw [hresult]
        rfl
  · intro o d band k horigin hdestination htakes hclass fields initial walked
    obtain ⟨before, after, hxs, hbefore, hband, hafter⟩ := htakes
    have hdayType : dayTypeNumber (b.dayTypeOf day) = dayType := dayTypeNumber_eq b day
    have hkept : bestBand minute (b.bandsOf (b.dayTypeOf day)) none = .ret (some band) :=
      bestBand_takes (bandsOf_clean h _) (by rw [Bank.bandsOf, hdayType]; exact hxs) hbefore hband hafter
    have hresult : result = _ := (evalPair_known h horigin hdestination).trans
      (pricePair_clean h here now cls station time o d hkept)
    have hfields : fields = ⟨station, here, o, d, cls, dayTypeNumber (b.dayTypeOf day), minute, dwellMinutes now time,
        if station = here then 1 else 0⟩ := by
      rw [hdayType]
      rfl
    rw [hresult, hclass]
    show b.priceOf _ initial = b.priceOf fields initial
    rw [hfields]
    rfl

end Sys2Proof.Machine

end

/-! ## Chapter 3: charges, answers and the transaction -/

section

-- Proofs are checked in order: as one text the file would otherwise hold more waiting proofs than the check has memory for.
set_option Elab.async false

namespace Sys2Proof.Machine

/-! ### Charges lie within the max fare -/

/-- A header field is read as it stands, or as 0 (R55). -/
theorem readHeader_le (b : Bank) (i : Nat) : (b.readHeader i).val ≤ b.headerVal i := by
  unfold Bank.readHeader readAt readItem Bank.headerVal
  cases ((b.header[i]?).getD (Stored.fresh 0)).bits
  · exact le_refl _
  · exact le_refl _
  · exact Nat.zero_le _

theorem evalPair_le (b : Bank) (here now cls station time : Nat) : (b.evalPair here now cls station time).val.fare ≤ b.headerVal 7 := by
  refine le_trans ?_ (readHeader_le b 7)
  unfold Bank.evalPair
  dsimp only [Rd.bind]
  rcases (b.zoneOf station).val with _ | o
  · exact le_refl _
  · rcases (b.zoneOf here).val with _ | d
    · exact le_refl _
    · exact Nat.min_le_left _ _

theorem penalty_le (b : Bank) (fares : List (Stored Nat)) (station : Nat) : (b.penalty fares station).val.amount ≤ b.headerVal 7 := by
  refine le_trans ?_ (readHeader_le b 7)
  unfold Bank.penalty
  dsimp only [Rd.bind]
  rcases (b.zoneOf station).val with _ | z
  · exact le_refl _
  · exact Nat.min_le_left _ _

theorem chooseCandidate_le (leg journey day week : Nat) : (chooseCandidate leg journey day week).1 ≤ leg :=
  (Nat.min_le_left _ _).trans (Nat.min_le_left _ _)

/-- The candidate chosen is the smallest, and named for the first that equals it (R74). -/
theorem chooseCandidate_first (leg journey day week : Nat) :
    let candidates := [(leg, FareReason.leg), (journey, .journey), (day, .dayCap), (week, .weekCap)]
    let x := chooseCandidate leg journey day week
    (∀ y ∈ candidates, x.1 ≤ y.1) ∧ candidates.find? (fun y => y.1 == x.1) = some x := by
  intro candidates x
  have hx : x.1 = min (min leg journey) (min day week) := rfl
  refine ⟨?_, ?_⟩
  · simp only [candidates, List.forall_mem_cons, List.not_mem_nil, false_imp_iff, implies_true, and_true]
    omega
  · have hcases : x.1 = leg ∨ x.1 = journey ∨ x.1 = day ∨ x.1 = week := by omega
    have hreason : x.2 = if leg = x.1 then .leg else if journey = x.1 then .journey else if day = x.1 then .dayCap else .weekCap := rfl
    simp only [candidates, List.find?_cons]
    by_cases hleg : leg = x.1
    · simp only [hleg, beq_self_eq_true]
      exact congrArg some (Prod.ext rfl (by rw [hreason, if_pos hleg]))
    · rw [if_neg hleg] at hreason
      by_cases hjourney : journey = x.1
      · rw [if_pos hjourney] at hreason
        simp only [beq_false_of_ne hleg, hjourney, beq_self_eq_true]
        exact congrArg some (Prod.ext rfl hreason.symm)
      · rw [if_neg hjourney] at hreason
        by_cases hday : day = x.1
        · rw [if_pos hday] at hreason
          simp only [beq_false_of_ne hleg, beq_false_of_ne hjourney, hday, beq_self_eq_true]
          exact congrArg some (Prod.ext rfl hreason.symm)
        · have hweek : week = x.1 := by omega
          rw [if_neg hday] at hreason
          simp only [beq_false_of_ne hleg, beq_false_of_ne hjourney, beq_false_of_ne hday, hweek, beq_self_eq_true]
          exact congrArg some (Prod.ext rfl hreason.symm)

theorem charge_inside {b : Bank} {c : CardImage} (h : c.w.trip = .inside) (here now today : Nat) :
    b.charge true here now today c = b.exitFare here now today c
      ∧ b.charge false here now today c = b.penalty b.incompleteFares c.w.entryStation := by
  unfold Bank.charge
  rw [h]
  exact ⟨rfl, rfl⟩

theorem charge_outside {b : Bank} {c : CardImage} (h : c.w.trip = .outside) (here now today : Nat) :
    b.charge true here now today c = b.penalty b.unrecordedFares here
      ∧ b.charge false here now today c = .ret ⟨0, .none, false, false, false⟩ := by
  unfold Bank.charge
  rw [h]
  exact ⟨rfl, rfl⟩

theorem charge_le (b : Bank) (exit : Bool) (here now today : Nat) (c : CardImage) :
    (b.charge exit here now today c).val.amount ≤ b.headerVal 7 := by
  cases htrip : c.w.trip <;> cases exit
  · rw [(charge_outside htrip here now today).2]
    exact Nat.zero_le _
  · rw [(charge_outside htrip here now today).1]
    exact penalty_le _ _ _
  · rw [(charge_inside htrip here now today).2]
    exact penalty_le _ _ _
  · rw [(charge_inside htrip here now today).1]
    exact (chooseCandidate_le _ _ _ _).trans (evalPair_le b here now _ _ _)

theorem hasExpired_iff (c : CardImage) (today : Nat) : hasExpired c today = true ↔ c.classExpiry ≠ 0 ∧ c.classExpiry < today := by
  simp [hasExpired]

/-- An undamaged penalty (R76, R77). -/
theorem penalty_clean {b : Bank} {fares : List (Stored Nat)} {station most : Nat} (hmost : b.header[7]? = some ⟨most, .clean⟩)
    (hzone : (zoneAt b station).bits = .clean) :
    ((zoneAt b station).val = none → (b.penalty fares station).val = ⟨most, .penalty, true, false, false⟩)
      ∧ ∀ z f, (zoneAt b station).val = some z → fares[z]? = some ⟨f, .clean⟩ →
        (b.penalty fares station).val = ⟨min most f, .penalty, false, false, false⟩ := by
  have hread : b.zoneOf station = .ret (zoneAt b station).val := readItem_clean _ hzone
  have hmax : b.readHeader 7 = .ret most := by
    rw [Bank.readHeader, readAt, hmost]
    rfl
  unfold Bank.penalty
  rw [hread, Rd.ret_bind, hmax, Rd.ret_bind]
  refine ⟨fun hnone => by rw [hnone]; rfl, fun z f hz hf => ?_⟩
  rw [hz]
  dsimp only
  rw [readAt, hf]
  rfl

/-- What an exit fare is made of: the effective class, the pairs, the class, the candidates and the flags (R71 to R74). -/
theorem exitFare_val (b : Bank) (here now today : Nat) (c : CardImage) :
    let cls := effectiveClass c today
    let leg := (b.evalPair here now cls c.w.entryStation c.w.entryTime).val
    let elsewhere := c.w.journeyStation ≠ c.w.entryStation
    let journey := (b.evalPair here now cls c.w.journeyStation c.w.journeyTime).val
    let k := (b.readClass cls).val
    let pick := chooseCandidate leg.fare (if elsewhere then journey.fare - c.w.journeyCharged else 65535)
      (capCandidate k.dailyCap (effectiveSpent c.w.accDay c.w.daily today))
      (capCandidate k.weeklyCap (effectiveSpent c.w.accWeek c.w.weekly (weekNumber today)))
    (b.exitFare here now today c).val = ⟨pick.1, pick.2, leg.unknownStation || (decide elsewhere && journey.unknownStation),
      hasExpired c today, leg.overrun || (decide elsewhere && journey.overrun)⟩ := by
  intro cls leg elsewhere journey k pick
  unfold Bank.exitFare
  dsimp only [Rd.bind]
  by_cases hsame : c.w.journeyStation = c.w.entryStation
  · have helse : ¬elsewhere := not_not.mpr hsame
    rw [if_pos hsame]
    simp only [pick, if_neg helse, decide_eq_false helse, Bool.false_and]
    rfl
  · have helse : elsewhere := hsame
    rw [if_neg hsame]
    simp only [pick, if_pos helse, decide_eq_true helse, Bool.true_and]
    rfl

theorem or_decide_and_iff (p q : Bool) (P : Prop) [Decidable P] : (p || (decide P && q)) = true ↔ p = true ∨ (P ∧ q = true) := by
  simp

/-- Settles O28: the charge of each kind and trip state. -/
theorem chargesAreChosenAsTheManualGives : Obligations.ChargesAreChosenAsTheManualGives := by
  intro b here now today c w charge
  refine ⟨fun exit => charge_le b exit here now today c, fun hinside => ?_, fun houtside => ?_, ?_⟩
  · intro expired cls leg elsewhere journey k daily weekly candidates x
    have hcls : effectiveClass c today = cls := by
      unfold effectiveClass
      exact if_congr (hasExpired_iff c today) rfl rfl
    have hexit := exitFare_val b here now today c
    rw [hcls] at hexit
    have hx : x = _ := (congrArg Rd.val (charge_inside hinside here now today).1).trans hexit
    obtain ⟨hsmallest, hfirst⟩ := chooseCandidate_first leg.fare (if elsewhere then journey.fare - c.w.journeyCharged else 65535)
      (capCandidate k.dailyCap daily) (capCandidate k.weeklyCap weekly)
    rw [hx]
    exact ⟨hsmallest, hfirst, or_decide_and_iff _ _ _, hasExpired_iff c today, or_decide_and_iff _ _ _⟩
  · exact congrArg Rd.val (charge_outside houtside here now today).2
  · rintro exit station fares most (⟨rfl, htrip, rfl, rfl⟩ | ⟨rfl, htrip, rfl, rfl⟩) hmost hzone
    · dsimp only [charge]
      rw [(charge_inside htrip here now today).2]
      exact penalty_clean hmost hzone
    · dsimp only [charge]
      rw [(charge_outside htrip station now today).1]
      exact penalty_clean hmost hzone

/-! ### The answer -/

/-- What a purse check answers with an undamaged header (R78, R79). -/
theorem purseCheck_clean {b : Bank} (h : HeaderClean b) (exit : Bool) (purse : Int) : b.purseCheck exit purse = .ret (
    if purse < -(b.headerVal 4 : Int) then some .insufficientFunds
    else if (b.headerVal 6 : Int) < purse then some .insufficientFunds
    else if exit then none else if purse < (b.headerVal 5 : Int) then some .lowBalance else none) := by
  unfold Bank.purseCheck
  rw [Bank.readHeader_clean h, Rd.ret_bind]
  split
  · rfl
  · rw [Bank.readHeader_clean h, Rd.ret_bind]
    split
    · rfl
    · cases exit
      · rw [Bank.readHeader_clean h, Rd.ret_bind]
        rfl
      · rfl

/-- A purse check refuses for funds alone (R78, R79). -/
theorem purseCheck_code {b : Bank} {exit : Bool} {purse : Int} {code : ResultCode} (h : (b.purseCheck exit purse).val = some code) :
    code = .insufficientFunds ∨ code = .lowBalance := by
  unfold Bank.purseCheck at h
  dsimp only [Rd.bind] at h
  (repeat' split at h) <;> simp_all [Rd.ret]

theorem continuesJourney_iff (w : Written) (now window : Nat) : continuesJourney w now window = true
    ↔ w.trip = .outside ∧ w.lastExitStation ≠ 0 ∧ w.lastExitPenalty = false ∧ now - w.lastExitTime ≤ window * 60 ∧ window ≠ 0 := by
  simp [continuesJourney, mayContinue, ageAt, and_assoc]

/-- The window that an entry writes by, read only where the journey may continue (R82). -/
theorem window_clean {b : Bank} (h : HeaderClean b) (w : Written) (now : Nat) :
    continuesJourney w now (b.window w).val = continuesJourney w now (b.headerVal 2) := by
  unfold Bank.window
  rw [Bank.readHeader_clean h]
  cases hmay : mayContinue w
  · simp [continuesJourney, hmay]
  · rfl

/-- A fare request whose purse check refuses (R53, R78, R79). -/
theorem fare_refused {b : Bank} {exit : Bool} {here now : Nat} {c : CardImage} {code : ResultCode} :
    let k := (b.charge exit here now (serviceDay (b.readHeader 0).val now) c).val
    (b.purseCheck exit (c.w.purse - k.amount)).val = some code → (b.fare exit here now c).val = (.refuse code, k.overrun) := by
  intro k hcheck
  unfold Bank.fare
  dsimp only [Rd.bind]
  rw [hcheck]
  rfl

/-- A fare request whose purse check passes (R53, R80 to R84). -/
theorem fare_charged {b : Bank} {exit : Bool} {here now : Nat} {c : CardImage} :
    let today := serviceDay (b.readHeader 0).val now
    let k := (b.charge exit here now today c).val
    (b.purseCheck exit (c.w.purse - k.amount)).val = none → (b.fare exit here now c).val
      = (.charge k.amount k.reason (k.flags c today) (b.newValues exit here now today c.w k).val, k.overrun) := by
  intro today k hcheck
  unfold Bank.fare
  dsimp only [Rd.bind]
  rw [hcheck]
  rfl

theorem fare_overrun (b : Bank) (exit : Bool) (here now : Nat) (c : CardImage) : (b.fare exit here now c).val.2
    = (b.charge exit here now (serviceDay (b.readHeader 0).val now) c).val.overrun := by
  rcases hcheck : (b.purseCheck exit (c.w.purse
      - (b.charge exit here now (serviceDay (b.readHeader 0).val now) c).val.amount)).val with _ | code
  · rw [fare_charged hcheck]
  · rw [fare_refused hcheck]

/-- What every charge writes (R80). -/
theorem newValues_charged (b : Bank) (exit : Bool) (here now today : Nat) (w : Written) (k : Charge) :
    let v := (b.newValues exit here now today w k).val
    v.status = w.status ∧ v.purse = w.purse - k.amount
      ∧ v.daily = min 65535 ((if w.accDay < today then 0 else w.daily) + k.amount) ∧ v.accDay = max w.accDay today
      ∧ v.weekly = min 65535 ((if w.accWeek < (today + 5) / 7 then 0 else w.weekly) + k.amount)
      ∧ v.accWeek = max w.accWeek ((today + 5) / 7) := by
  intro v
  cases exit
  · have hv : v = writeEntry (writeCharged w k.amount today) here now (b.window w).val := rfl
    rw [hv, writeEntry]
    split <;> exact ⟨rfl, rfl, rfl, rfl, rfl, rfl⟩
  · exact ⟨rfl, rfl, rfl, rfl, rfl, rfl⟩

/-- What an entry writes (R82). -/
theorem newValues_entry {b : Bank} (h : HeaderClean b) (here now today : Nat) (w : Written) (k : Charge) :
    let v := (b.newValues false here now today w k).val
    v.trip = .inside ∧ v.entryStation = here ∧ v.entryTime = now ∧ v.lastExitStation = w.lastExitStation
      ∧ v.lastExitTime = w.lastExitTime ∧ v.lastExitPenalty = w.lastExitPenalty
      ∧ if w.trip = .outside ∧ w.lastExitStation ≠ 0 ∧ w.lastExitPenalty = false ∧ now - w.lastExitTime ≤ b.headerVal 2 * 60
          ∧ b.headerVal 2 ≠ 0 then
          v.journeyStation = w.journeyStation ∧ v.journeyTime = w.journeyTime ∧ v.journeyCharged = w.journeyCharged
        else v.journeyStation = here ∧ v.journeyTime = now ∧ v.journeyCharged = 0 := by
  intro v
  have hv : v = writeEntry (writeCharged w k.amount today) here now (b.window w).val := rfl
  have hgoesOn : continuesJourney (writeCharged w k.amount today) now (b.window w).val = continuesJourney w now (b.headerVal 2) :=
    window_clean h w now
  have hiff := continuesJourney_iff w now (b.headerVal 2)
  rw [hv, writeEntry, hgoesOn]
  cases hgo : continuesJourney w now (b.headerVal 2)
  · rw [if_neg (fun hc => Bool.false_ne_true (hgo.symm.trans (hiff.mpr hc)))]
    exact ⟨rfl, rfl, rfl, rfl, rfl, rfl, rfl, rfl, rfl⟩
  · rw [if_pos (hiff.mp hgo)]
    exact ⟨rfl, rfl, rfl, rfl, rfl, rfl, rfl, rfl, rfl⟩

/-- Settles O29: the limits read one after another, then the values written. -/
theorem fareAnswersWithinTheBanksLimits : Obligations.FareAnswersWithinTheBanksLimits := by
  refine ⟨fun b exit purse => ⟨fun hlow => ?_, fun hlow hhigh => ?_⟩, ?_⟩
  · unfold Bank.purseCheck
    dsimp only [Rd.bind]
    rw [if_pos hlow]
    rfl
  · unfold Bank.purseCheck
    dsimp only [Rd.bind]
    rw [if_neg hlow]
    rcases hhigh with hhigh | rfl
    · rw [if_pos hhigh]
      rfl
    · split <;> rfl
  · intro b exit here now c hclean today week k purse inside low answer
    have hstart : (b.readHeader 0).val = b.headerVal 0 := congrArg Rd.val (Bank.readHeader_clean hclean 0)
    have hcheck := congrArg Rd.val (purseCheck_clean hclean exit purse)
    have hrefused (code : ResultCode) (h : (b.purseCheck exit purse).val = some code) : answer.1 = .refuse code := by
      have hfare := fare_refused (b := b) (exit := exit) (here := here) (now := now) (c := c) (code := code)
      rw [hstart] at hfare
      exact congrArg Prod.fst (hfare h)
    refine ⟨(fare_overrun b exit here now c).trans (by rw [hstart]; rfl), fun houtside => hrefused _ ?_, fun hinside hlow => hrefused _ ?_,
      fun hinside hlow => ?_⟩
    · rw [hcheck]
      dsimp only [Rd.ret]
      by_cases hlow : purse < -(b.headerVal 4 : Int)
      · rw [if_pos hlow]
      · rw [if_neg hlow, if_pos (by_contra fun hhigh => houtside ⟨not_lt.mp hlow, not_lt.mp hhigh⟩)]
    · obtain ⟨hexit, hlow⟩ := hlow
      rw [hcheck, hexit]
      dsimp only [Rd.ret]
      rw [if_neg (not_lt.mpr hinside.1), if_neg (not_lt.mpr hinside.2), if_neg Bool.false_ne_true, if_pos hlow]
    · have hnone : (b.purseCheck exit purse).val = none := by
        rw [hcheck]
        dsimp only [Rd.ret]
        rw [if_neg (not_lt.mpr hinside.1), if_neg (not_lt.mpr hinside.2)]
        cases hexit : exit
        · rw [if_neg Bool.false_ne_true, if_neg fun h => hlow ⟨hexit, h⟩]
        · rfl
      have hfare := fare_charged (b := b) (exit := exit) (here := here) (now := now) (c := c)
      rw [hstart] at hfare
      refine ⟨_, _, congrArg Prod.fst (hfare hnone), rfl, rfl, rfl, ?_, rfl, rfl, ?_⟩
      · exact Bool.or_eq_true_iff.trans (or_congr decide_eq_true_iff decide_eq_true_iff)
      · obtain ⟨hstatus, hpurse, hdaily, haccDay, hweekly, haccWeek⟩ := newValues_charged b exit here now today c.w k
        refine ⟨hstatus, hpurse, hdaily, haccDay, hweekly, haccWeek, fun hexit => ?_, fun hexit => ?_⟩
        · subst hexit
          exact ⟨rfl, rfl, rfl, beq_iff_eq, rfl, rfl, rfl, rfl, rfl⟩
        · subst hexit
          exact newValues_entry hclean here now today c.w k

/-! ### The transaction -/

/-- A bank found uncorrectable is not charged from (R94, R95). -/
theorem noteBank_unusable (s : State) (i : AreaId) {t : Tally} (h : 0 < t.uncorrected) : ¬BankUsable (s.noteBank i t) i := by
  have htariff : (s.noteBank i t).tariff = s.tariff.damage i := by
    have hfound : (s.noteFindings .tariff t.corrected t.uncorrected).tariff = s.tariff := by
      unfold State.noteFindings
      (repeat' split) <;> rfl
    unfold State.noteBank
    dsimp only
    rw [if_neg (by omega), hfound]
  unfold BankUsable
  rw [htariff]
  unfold TariffStore.damage
  by_cases hactive : i = s.tariff.active
  · rw [if_pos hactive, if_pos hactive]
    exact fun h => Bool.false_ne_true h.2
  · rw [if_neg hactive, if_neg hactive]
    exact fun h => nomatch h

theorem noteBank_version (s : State) (i j : AreaId) (t : Tally) : ((s.noteBank i t).tariff.area j).version = (s.tariff.area j).version := by
  have hdamage (x : TariffStore) : ((x.damage i).area j).version = (x.area j).version := by
    unfold TariffStore.damage
    split <;> cases j <;> rfl
  have hfound : (s.noteFindings .tariff t.corrected t.uncorrected).tariff = s.tariff := by
    unfold State.noteFindings
    (repeat' split) <;> rfl
  unfold State.noteBank
  dsimp only
  split
  · rw [hfound]
  · dsimp only
    rw [hdamage, hfound]

/-- Settles O30: the answer taken over the bank as its reads have marked it. -/
theorem fareAnswerDecidesTheTransaction : Obligations.FareAnswerDecidesTheTransaction := by
  intro s l kind bank c hawaits r read after
  have hexec : exec (.fareRequest l) s = .next (s.fareStep l kind bank c) := congrArg _ (whenAwaited_of hawaits _)
  obtain ⟨-, -, -, hkind, hbound, himage⟩ := hawaits
  have hlanes : after.lanes = s.lanes := by
    have hread : read.lanes = s.lanes := (noteBank_looked s bank r.tally).lanes
    dsimp only [after]
    split
    · exact hread
    · exact hread
  have htariff : after.tariff = read.tariff := by
    dsimp only [after]
    split <;> rfl
  have htap : after.tap l = s.tap l := by rw [State.tap, State.tap, State.lane_congr hlanes]
  have hgate : after.gate l = s.gate l := by rw [State.gate, State.gate, State.lane_congr hlanes]
  have hpurse (t : Tap) (ht : t.image = (s.tap l).image) : purseRead (after.withTap l t) l = some c.w.purse := by
    rw [purseRead, withTap_tap, ht, himage]
    rfl
  refine ⟨fun hnone => ?_, fun hdamaged => ?_, fun code hrefuse => ?_, fun amount reason flags v hcharge => ?_⟩
  · dsimp only [read]
    rw [hnone, noteBank_none]
  · have hunusable := noteBank_unusable s bank hdamaged
    unfold BankUsable at hunusable ⊢
    rwa [htariff]
  · have hstep : s.fareStep l kind bank c = after.endUnchanged l code := by
      unfold State.fareStep
      dsimp only
      rw [show ((s.tariff.area bank).bank.fare (kind == .exit) s.settings.station s.clock.time c).val.1 = .refuse code from hrefuse]
      rfl
    have hread : purseRead after l = some c.w.purse := by
      rw [purseRead, htap, himage]
      rfl
    refine ⟨by rw [hexec, hstep, endUnchanged_eq, hread], ?_⟩
    rcases hcheck : ((s.tariff.area bank).bank.purseCheck (decide (kind = .exit)) (c.w.purse
        - ((s.tariff.area bank).bank.charge (decide (kind = .exit)) s.settings.station s.clock.time
          (serviceDay ((s.tariff.area bank).bank.readHeader 0).val s.clock.time) c).val.amount)).val with _ | code'
    · have hr : r.val.1 = _ := congrArg Prod.fst (fare_charged hcheck)
      rw [hr] at hrefuse
      cases hrefuse
    · have hr : r.val.1 = _ := congrArg Prod.fst (fare_refused hcheck)
      rw [hr] at hrefuse
      cases hrefuse
      exact purseCheck_code hcheck
  · intro flagged
    have hversion : after.versionOf bank = (s.tariff.area bank).version := by
      rw [State.versionOf, htariff]
      exact noteBank_version s bank bank r.tally
    have hstep : s.fareStep l kind bank c = (after.withTap l flagged).commitDue l
        ⟨.debit, c.counter, v, amount, reason, (s.tariff.area bank).version, 0⟩ := by
      have hflagged : flagged = { after.tap l with flags := joinFlags (after.tap l).flags flags } := by rw [htap]
      rw [hflagged, ← hversion]
      unfold State.fareStep
      dsimp only
      rw [show ((s.tariff.area bank).bank.fare (kind == .exit) s.settings.station s.clock.time c).val.1 = .charge amount reason flags v
        from hcharge]
      rfl
    have hallowed : (after.withTap l flagged).commitAllowed l = true ↔ ServiceFits s l kind ∧ BankUsable after bank := by
      have h := commitAllowed_iff (s := after.withTap l flagged) (l := l) (kind := kind) (bank := bank) (by rw [withTap_tap]; exact hkind)
        (by rw [withTap_tap]; exact hbound)
      have hfits : ServiceFits (after.withTap l flagged) l kind ↔ ServiceFits s l kind := by simp [ServiceFits, hgate]
      exact h.trans (and_congr_left' hfits)
    rw [hexec, hstep, commitDue_eq]
    refine ⟨fun hfits husable => ?_, fun hno => ?_⟩
    · rw [if_pos (hallowed.mpr ⟨hfits, husable⟩), withTap_withTap, withTap_tap]
    · rw [if_neg (mt hallowed.mp hno), hpurse flagged rfl]

end Sys2Proof.Machine

end

/-! ## Chapters 4 and 6: switchovers, the end of a transaction, records -/

section

-- Proofs are checked in order: as one text the file would otherwise hold more waiting proofs than the check has memory for.
set_option Elab.async false

namespace Sys2Proof.Machine

open JournalProofs (answers_of_work)

/-! ### Switchover -/

theorem holders_eq_zero (s : State) (i : AreaId) : s.holders i = 0 ↔ ∀ l, (s.tap l).bound ≠ some i := by
  unfold State.holders
  rw [List.countP_eq_zero]
  simp [PerLane.toList, Fin.forall_fin_succ, State.tap, State.lane, PerLane.get]

/-- A switchover with room for its record (R93). -/
theorem completeSwitch_room {s : State} (h : HasRoom s) : s.completeSwitch = s.switched := by
  unfold State.completeSwitch
  dsimp only
  rw [appendUnreserved_room (by exact h)]
  rfl

theorem trySwitch_room {s : State} (h : HasRoom s) (hpending : s.tariff.pending = .switching) (hholders : s.holders s.tariff.active = 0) :
    s.trySwitch = s.switched := (if_pos ⟨hpending, hholders⟩).trans (completeSwitch_room h)

/-- What the pending bank is in does not matter to the switchover that completes. -/
theorem switched_withPending (s : State) (pending : PendingState) :
    State.switched { s with tariff := { s.tariff with pending := pending } } = s.switched := by
  rcases ht : s.tariff with ⟨areaA, areaB, active, usable, was, effective, validation⟩
  cases active <;> simp only [State.switched, ht] <;> rfl

/-- A bank scheduled for a time enters SWITCHING when that time has come (R91, R93). -/
theorem enterSwitching_scheduled {s : State} {time : Nat} (h : HasRoom s) (hpending : s.tariff.pending = .scheduled)
    (htime : s.tariff.effective = some time) : s.enterSwitching = s.scheduledAt time := by
  have hdue : s.switchDue = decide (time ≤ s.clock.time) := by simp [State.switchDue, hpending, htime]
  unfold State.enterSwitching State.scheduledAt
  rw [hdue]
  by_cases hlate : s.clock.time < time
  · rw [if_pos hlate, if_neg (by simpa using hlate)]
  · rw [if_neg hlate, if_pos (by simpa using hlate)]
    by_cases hholders : s.holders s.tariff.active = 0
    · rw [if_pos hholders]
      exact (trySwitch_room (s := { s with tariff := { s.tariff with pending := .switching } }) h rfl hholders).trans (switched_withPending s .switching)
    · rw [if_neg hholders]
      exact if_neg fun hboth => hholders hboth.2

theorem scheduledAt_pending (s : State) (time : Nat) (hpending : s.tariff.pending = .scheduled) : (s.scheduledAt time).tariff.pending
    = if s.clock.time < time then .scheduled else if s.holders s.tariff.active = 0 then .empty else .switching := by
  unfold State.scheduledAt
  split
  · exact hpending
  · split <;> rfl

theorem scheduledAt_link (s : State) (time : Nat) : (s.scheduledAt time).link = s.link := by
  unfold State.scheduledAt
  split
  · rfl
  · split <;> rfl

/-- Settles O33: the conditions of R90, then the switchover that falls due. -/
theorem tariffActivateSchedulesOrSwitches : Obligations.TariffActivateSchedulesOrSwitches := by
  intro s time hserving
  refine ⟨fun hunset => ?_, fun hset hready hscheduled => ?_, fun hset hpending hroom => ?_⟩
  · have hwork : s.activateTariff time.toNat = (refused .timeNotSet, s) := by
      rw [State.activateTariff, hunset]
      rfl
    exact answers_of_work hserving (work := fun s => s.activateTariff time.toNat) rfl hwork rfl
  · have hwork : s.activateTariff time.toNat = (refused .wrongState, s) := by
      rw [State.activateTariff, hset, if_neg (by decide), if_neg (not_or.mpr ⟨hready, hscheduled⟩)]
    exact answers_of_work hserving (work := fun s => s.activateTariff time.toNat) rfl hwork rfl
  · let scheduled : State := { s with tariff := { s.tariff with pending := .scheduled, effective := some time.toNat } }
    have henter : scheduled.enterSwitching = scheduled.scheduledAt time.toNat := enterSwitching_scheduled (by exact hroom) rfl rfl
    have hcode : [pendingCode (scheduled.scheduledAt time.toNat).tariff.pending]
        = [if s.clock.time < time.toNat then 4 else if s.holders s.tariff.active = 0 then 0 else 5] := by
      rw [scheduledAt_pending scheduled time.toNat rfl, apply_ite pendingCode, apply_ite pendingCode]
      rfl
    have hwork : s.activateTariff time.toNat = (⟨.ok, none, [if s.clock.time < time.toNat then 4
        else if s.holders s.tariff.active = 0 then 0 else 5]⟩, scheduled.scheduledAt time.toNat) := by
      rw [State.activateTariff, hset, if_neg (by decide), if_pos hpending, ← hcode]
      dsimp only
      rw [henter]
      rfl
    exact answers_of_work hserving (work := fun s => s.activateTariff time.toNat) rfl hwork (scheduledAt_link scheduled time.toNat)

/-! ### The end of a transaction -/

/-- A transaction ends with undamaged templates: the lane is done, then the bank and the lane that it held are released (R23, R93, R138). -/
theorem endTap_clean {s : State} (h : DisplayClean s) (l : Lane) (code : ResultCode) (charge : Option Nat) (purse : Option Int) :
    s.endTap l code charge purse
      = (if (s.tap l).bound = some s.tariff.active then (s.done l code charge purse).trySwitch else s.done l code charge purse).drainCheck l := by
  unfold State.endTap State.takeResult
  rw [State.compose_clean (by simpa using h)]
  simp only [State.modInd, State.modGate, State.modTap, State.modLane_modLane, State.modLane_tariff, State.gate, State.modLane_lane,
    State.tap]
  rfl

@[simp] theorem done_tap (s : State) (l : Lane) (code : ResultCode) (charge : Option Nat) (purse : Option Int) :
    (s.done l code charge purse).tap l = tapDone (s.tap l) code := by
  simp [State.done, State.tap, State.lane, laneDone]

theorem done_tap_other (s : State) {l k : Lane} (h : k ≠ l) (code : ResultCode) (charge : Option Nat) (purse : Option Int) :
    (s.done l code charge purse).tap k = s.tap k := by
  simp [State.done, State.tap, State.lane, PerLane.get_set_other _ h]

@[simp] theorem done_gate (s : State) (l : Lane) (code : ResultCode) (charge : Option Nat) (purse : Option Int) :
    (s.done l code charge purse).gate l = { s.gate l with stats := (s.gate l).stats.countResult code } := by
  simp [State.done, State.gate, State.lane, laneDone]

theorem handFrame_held (i : Indicator) (frame : List DispCell) : (i.handFrame frame).held = i.held := by
  unfold Indicator.handFrame
  (repeat' split) <;> rfl

theorem handFrame_obstructed (i : Indicator) (frame : List DispCell) : (i.handFrame frame).obstructed = i.obstructed := by
  unfold Indicator.handFrame
  (repeat' split) <;> rfl

theorem done_held (s : State) (l : Lane) (code : ResultCode) (charge : Option Nat) (purse : Option Int) :
    ((s.done l code charge purse).ind l).held = some ⟨code, charge, purse⟩ := by
  have hind : (s.done l code charge purse).ind l
      = refreshed s.display { s.ind l with held := some ⟨code, charge, purse⟩, holdTimer := some (s.gate l).config.indicatorHold } := by
    simp only [State.done, State.ind, State.lane, PerLane.get_set_self]
    rfl
  rw [hind]
  exact handFrame_held _ _

/-- A draining lane closes under a held result, which keeps the display (R138, R166). -/
theorem setService_closed_held {u : State} {l : Lane} (h : (u.ind l).held.isSome = true) :
    u.setService l .closed = (u.withGate l { u.gate l with service := .closed }).withInd l { u.ind l with service := .closed } := by
  unfold State.setService State.indicateService
  rw [modGate_eq, modInd_eq]
  dsimp only
  rw [withInd_ind, withGate_ind]
  exact if_pos (by rw [Bool.or_eq_true]; exact .inl h)

/-- The draining test of a lane that is done, in the state after its bank is released (R138). -/
theorem drainCheck_done {s u : State} {l : Lane} {code : ResultCode} {charge : Option Nat} {purse : Option Int}
    (hlanes : u.lanes = (s.done l code charge purse).lanes) :
    u.drainCheck l = if (s.gate l).service = .draining ∧ (s.gate l).credits = [] ∧ (s.gate l).passages = []
      then (u.withGate l { u.gate l with service := .closed }).withInd l { u.ind l with service := .closed } else u := by
  have hgate : u.gate l = { s.gate l with stats := (s.gate l).stats.countResult code } := by
    rw [State.gate, State.lane_congr hlanes]
    exact done_gate s l code charge purse
  have htap : u.tap l = tapDone (s.tap l) code := by
    rw [State.tap, State.lane_congr hlanes]
    exact done_tap s l code charge purse
  have hheld : (u.ind l).held.isSome = true := by
    rw [State.ind, State.lane_congr hlanes, show ((s.done l code charge purse).lane l).ind.held = _ from done_held s l code charge purse]
    rfl
  have hphase : (u.tap l).phase ≠ .committing := by
    rw [htap]
    unfold tapDone
    split <;> exact TapPhase.noConfusion
  rw [← setService_closed_held hheld]
  unfold State.drainCheck
  dsimp only
  refine if_congr ?_ rfl rfl
  rw [hgate]
  exact and_congr_right' (and_congr_right' (and_iff_left hphase))

/-- Settles O34: the bank's release, then the draining test. -/
theorem endOfTransactionReleasesBankAndLane : Obligations.EndOfTransactionReleasesBankAndLane := by
  intro s l code charge purse hclean ended releases empties closed
  have hend := endTap_clean hclean l code charge purse
  have hkeeps (h : ¬releases) :
      (if (s.tap l).bound = some s.tariff.active then ended.trySwitch else ended) = ended := by
    split
    next hbound =>
      refine if_neg fun hswitches => h ⟨hswitches.1, hbound, fun k hk hother => ?_⟩
      refine (holders_eq_zero ended _).mp hswitches.2 k ?_
      rw [done_tap_other s hk]
      exact hother
    next => rfl
  have hreleases (h : releases) (hroom : HasRoom s) :
      (if (s.tap l).bound = some s.tariff.active then ended.trySwitch else ended) = ended.switched := by
    obtain ⟨hpending, hbound, hothers⟩ := h
    rw [if_pos hbound]
    refine trySwitch_room (s := ended) hroom hpending ((holders_eq_zero ended _).mpr fun k => ?_)
    by_cases hk : k = l
    · subst hk
      rw [done_tap]
      exact fun hnone => nomatch hnone
    · rw [done_tap_other s hk]
      exact hothers k hk
  refine ⟨fun hno hfull => ?_, fun hno hempty => ?_, fun hyes hroom hfull => ?_, fun hyes hroom hempty => ?_⟩
  · rw [hend, hkeeps hno, drainCheck_done (s := s) (u := ended) rfl, if_neg hfull]
  · rw [hend, hkeeps hno, drainCheck_done (s := s) (u := ended) rfl, if_pos hempty]
  · rw [hend, hreleases hyes hroom, drainCheck_done (s := s) (u := ended.switched) rfl, if_neg hfull]
  · rw [hend, hreleases hyes hroom, drainCheck_done (s := s) (u := ended.switched) rfl, if_pos hempty]

/-! ### Records -/

/-- A record appended raises JOURNAL_HIGH when it brings the records held to 1,536 (R126). -/
theorem appendRecord_disarmed {s : State} (harmed : Disarmed s .journal) (r : JournalRecord) :
    s.appendRecord r = if s.journal.held + 1 = 1536 then (s.withRecord r).raise .journalHigh else s.withRecord r := by
  have hheld : (s.withRecord r).journal.held = s.journal.held + 1 := by simp [State.withRecord, Journal.held]
  unfold State.appendRecord
  rw [armed_none harmed, ← hheld]
  rfl

/-- Settles O35: the three branches of admission. -/
theorem recordsAreAdmittedByTheirClass : Obligations.RecordsAreAdmittedByTheirClass := by
  intro s c r hrunning taken limit appended high
  have hexec : exec (.recordAppend c r) s = .next (s.appendUnreserved c r) := congrArg _ (if_pos hrunning)
  have hlimit : classLimit c = limit := by cases c <;> rfl
  have htaken : s.journal.taken = taken := rfl
  rw [hexec]
  refine ⟨fun hroom harmed => ?_, fun hfull hclass => ?_, fun hfull hclass => ?_⟩
  · have happend := appendRecord_disarmed harmed r
    have hafter := appendRecord_taken s r
    have hcloses : (s.journal.taken < 1984 ∧ 1984 ≤ (s.appendRecord r).journal.taken) ↔ taken = 1983 := by omega
    unfold State.appendUnreserved
    dsimp only
    rw [hlimit, if_pos (by omega), State.noteClosing, if_congr hcloses rfl rfl, happend]
  · unfold State.appendUnreserved
    dsimp only
    rw [hlimit, if_neg (by omega), hclass]
    rfl
  · unfold State.appendUnreserved
    dsimp only
    rw [hlimit, if_neg (by omega), hclass]
    rfl

end Sys2Proof.Machine

end

/-! ## Chapter 4: loading a bank and closing it -/

section

-- Proofs are checked in order: as one text the file would otherwise hold more waiting proofs than the check has memory for.
set_option Elab.async false

namespace Sys2Proof.Machine

open JournalProofs (answers_of_work)

/-! ### Writing the pending bank -/

theorem storeAll_disarmed {α : Type} {s : State} {m : Memory} (h : Disarmed s m) (xs : List α) :
    s.storeAll m xs = (xs.map Stored.fresh, s) := by
  cases xs with
  | nil => rfl
  | cons x xs => rw [State.storeAll, armed_none h]; rfl

/-- Items written one after another replace as many of a section (R88). -/
theorem writePart_disarmed {α : Type} {s : State} (h : Disarmed s .tariff) (get : Bank → List (Stored α))
    (put : Bank → List (Stored α) → Bank) (start : Nat) (xs : List α) : s.writePart get put start xs
      = s.withPendingBank (put (pendingBank s) (putAt (get (pendingBank s)) start (xs.map Stored.fresh))) := by
  unfold State.writePart
  rw [storeAll_disarmed h]
  rfl

theorem putAt_seen {α : Type} (f : α → PartItem) (items : List (Stored α)) (start : Nat) (xs : List α) :
    (putAt items start (xs.map Stored.fresh)).map (seen f) = (items.map (seen f)).take start
      ++ xs.map (fun x => ⟨f x, .clean⟩) ++ (items.map (seen f)).drop (start + xs.length) := by
  simp only [putAt, List.map_append, List.map_take, List.map_drop, List.map_map, List.length_map]
  rfl

/-- A write into the section `p`, which `get` reads and `put` replaces. -/
theorem writePart_parts {α : Type} {s : State} (h : Disarmed s .tariff) {p : BankPart} (f : α → PartItem)
    {get : Bank → List (Stored α)} {put : Bank → List (Stored α) → Bank} {item : TariffItem → α}
    (hget : ∀ b, b.part p = (get b).map (seen f)) (hput : ∀ b x q, (put b x).part q = if q = p then x.map (seen f) else b.part q)
    (hwritten : ∀ x, written p x = f (item x)) (start : Nat) (items : List TariffItem) :
    ∃ b, s.writePart get put start (items.map item) = s.withPendingBank b
      ∧ ∀ q, b.part q = if q = p then ((pendingBank s).part p).take start ++ items.map (fun x => ⟨written p x, .clean⟩)
          ++ ((pendingBank s).part p).drop (start + items.length)
        else (pendingBank s).part q := by
  refine ⟨_, writePart_disarmed h get put start _, fun q => ?_⟩
  rw [hput, putAt_seen, hget, List.length_map, List.map_map]
  simp only [hwritten]
  rfl

/-- A checked TARIFF WRITE replaces the items of its section, each by what its item spells (R88). -/
theorem writeItems_parts {s : State} (h : Disarmed s .tariff) (p : BankPart) (start : Nat) (items : List TariffItem) :
    ∃ b, s.writeItems p start items = s.withPendingBank b
      ∧ ∀ q, b.part q = if q = p then ((pendingBank s).part p).take start ++ items.map (fun x => ⟨written p x, .clean⟩)
          ++ ((pendingBank s).part p).drop (start + items.length)
        else (pendingBank s).part q := by
  unfold State.writeItems
  cases p
  case header | baseFares | travelTimes | incompleteFares | unrecordedFares | holidays =>
    exact writePart_parts h .number (fun _ => rfl) (fun _ _ q => by cases q <;> rfl) (fun _ => rfl) start items
  case stations => exact writePart_parts h .zone (fun _ => rfl) (fun _ _ q => by cases q <;> rfl) (fun _ => rfl) start items
  case bands => exact writePart_parts h .band (fun _ => rfl) (fun _ _ q => by cases q <;> rfl) (fun _ => rfl) start items
  case classes => exact writePart_parts h .cls (fun _ => rfl) (fun _ _ q => by cases q <;> rfl) (fun _ => rfl) start items
  case rules => exact writePart_parts h .rule (fun _ => rfl) (fun _ _ q => by cases q <;> rfl) (fun _ => rfl) start items

theorem bankPartOf_none {part : Byte} (h : 9 < part.toNat) : bankPartOf part = none := by
  unfold bankPartOf
  split <;> first | rfl | exact absurd h (by decide)

theorem clearPending_disarmed {s : State} (h : Disarmed s .tariff) (version : Nat) : s.clearPending version
    = { s with tariff := { s.tariff.setArea s.tariff.pendingId ⟨Bank.cleared, some version⟩ with
        pending := .loading
        effective := none
        validation := .none } } := by
  unfold State.clearPending
  rw [armed_none h]
  rfl

/-- Settles O31: the checks of R87 and R88 in their order. -/
theorem loadingClearsThenWritesThePendingBank : Obligations.LoadingClearsThenWritesThePendingBank := by
  intro s version part start items hserving v inUse taken request
  have begins {a : Answer} {u : State} (hwork : s.beginTariff v = (a, u)) (hlink : u.link = s.link) :
      Answers (.tariffBegin version) s 0x07 a u :=
    answers_of_work hserving (work := fun s => s.beginTariff version.toNat) rfl hwork hlink
  have writes {a : Answer} {u : State} (hwork : s.writeTariff part start.toNat items = (a, u)) (hlink : u.link = s.link) :
      Answers request s 0x08 a u :=
    answers_of_work hserving (work := fun s => s.writeTariff part start.toNat items) rfl hwork hlink
  refine ⟨fun hzero => ?_, fun hv hused => ?_, fun hv hused htaken => ?_, fun hv hused htaken harmed => ?_, fun hitems hstate => ?_,
    fun hitems hstate hpart => ?_, fun p hp hitems hstate => ⟨fun hfits => ?_, fun hfits harmed => ?_⟩⟩
  · exact begins (by rw [State.beginTariff, if_pos hzero]; rfl) rfl
  · exact begins (by rw [State.beginTariff, if_neg hv, if_pos hused]; rfl) rfl
  · refine begins (a := busy) ?_ rfl
    rw [State.beginTariff, if_neg hv, if_neg hused]
    by_cases hswitching : s.tariff.pending = .switching
    · rw [if_pos hswitching]
    · rw [if_neg hswitching, if_pos (htaken.resolve_left hswitching)]
  · obtain ⟨hswitching, hholders⟩ := not_or.mp htaken
    refine begins (a := ok []) ?_ rfl
    rw [State.beginTariff, if_neg hv, if_neg hused, if_neg hswitching, if_neg hholders, clearPending_disarmed harmed]
  all_goals have hany : items.isEmpty = false := List.isEmpty_eq_false_iff.mpr hitems
  · exact writes (by rw [State.writeTariff, hany, if_neg (by decide), if_pos hstate]; rfl) rfl
  · refine writes (a := badRequest) ?_ rfl
    rw [State.writeTariff, hany, if_neg (by decide), if_neg (not_not_intro hstate), bankPartOf_none hpart]
  · refine writes (a := badRequest) ?_ rfl
    rw [State.writeTariff, hany, if_neg (by decide), if_neg (not_not_intro hstate), hp]
    refine if_pos ?_
    rw [← Bool.not_eq_true, List.all_eq_true, ← not_le, ← not_and_or]
    exact hfits
  · obtain ⟨b, hb, hparts⟩ := writeItems_parts harmed p start.toNat items
    refine ⟨b, writes (a := ok []) ?_ rfl, hparts⟩
    rw [State.writeTariff, hany, if_neg (by decide), if_neg (not_not_intro hstate), hp]
    refine (if_neg ?_).trans (congrArg _ hb)
    rw [← Bool.not_eq_true, List.all_eq_true, ← not_le, ← not_and_or]
    exact not_not_intro hfits

/-! ### Closing the pending bank -/

theorem readThroughTally_clean {xs : List Integrity} (h : ∀ x ∈ xs, x = .clean) : readThroughTally xs = ⟨0, 0⟩ := by
  induction xs with
  | nil => rfl
  | cons x xs ih =>
    obtain ⟨rfl, hxs⟩ := List.forall_mem_cons.mp h
    exact ih hxs

theorem readThroughTally_double {xs : List Integrity} (h : .double ∈ xs) : (readThroughTally xs).uncorrected = 1 := by
  induction xs with
  | nil => exact absurd h List.not_mem_nil
  | cons x xs ih =>
    cases x with
    | double => rfl
    | clean => exact ih ((List.mem_cons.mp h).resolve_left (by decide))
    | single => exact ih ((List.mem_cons.mp h).resolve_left (by decide))

theorem headerOk_iff (b : Bank) (i : Nat) : b.headerOk i = true ↔ FieldIn b i (headerRange i).1 (headerRange i).2 := by
  simp [Bank.headerOk, FieldIn]

/-- Neighbours that ascend are a list that ascends. -/
theorem zip_ascends (x : Stored Band) (xs : List (Stored Band)) :
    (((x :: xs).zip xs).all fun p => p.1.val.start < p.2.val.start) = true
      ↔ ((x :: xs).map fun y => y.val.start).Pairwise (· < ·) := by
  rw [← List.isChain_iff_pairwise]
  induction xs generalizing x with
  | nil => simp
  | cons y ys ih =>
    rw [List.zip_cons_cons, List.all_cons, Bool.and_eq_true, ih y, List.map_cons, List.map_cons, List.map_cons,
      List.isChain_cons_cons, decide_eq_true_eq]

theorem bandsOk_iff (b : Bank) (dayType : Nat) : bandsOk (b.bandsInUse dayType) = true ↔ BandsInOrder b dayType := by
  unfold BandsInOrder
  dsimp only
  rw [show ((b.bands.drop (8 * dayType)).take (min 8 (b.headerVal (10 + dayType)))) = b.bandsInUse dayType from rfl, List.map_map]
  cases b.bandsInUse dayType with
  | nil => simp [bandsOk]
  | cons x xs =>
    rw [bandsOk, Bool.and_eq_true, Bool.and_eq_true, zip_ascends]
    simp only [List.map_cons, List.head?_cons, Option.map_some, Option.some_inj, List.all_eq_true, List.forall_mem_cons,
      List.forall_mem_map, Bool.and_eq_true, decide_eq_true_eq, beq_iff_eq, and_assoc, Function.comp_def]
    exact and_left_comm

theorem chainOk_iff (b : Bank) : b.chainOk = true ↔ LastRuleEndsChain b := by
  simp [Bank.chainOk, LastRuleEndsChain]

theorem headerInRange_iff (b : Bank) : ([0, 1, 2, 3, 4, 5, 6, 9, 10, 11, 12, 13].all b.headerOk) = true ↔ HeaderInRange b := by
  simp only [List.all_cons, List.all_nil, Bool.and_eq_true, headerOk_iff, headerRange, HeaderInRange, and_true]

theorem ruleCount_iff (b : Bank) : b.headerOk 8 = true ↔ b.headerVal 8 ≤ 128 := by
  simp [headerOk_iff, FieldIn, headerRange]

/-- The six checks of R89, each with the result that names its failure. -/
theorem validate_eq (b : Bank) [Decidable (HeaderInRange b)] [Decidable (FieldIn b 7 1 20000)]
    [Decidable (BandsInOrder b 0 ∧ BandsInOrder b 1 ∧ BandsInOrder b 2)] [Decidable (LastRuleEndsChain b)] : b.validate
      = if ¬HeaderInRange b then .headerRange
        else if ¬b.headerVal 1 ∈ [1, 2, 5, 10, 20, 50, 100] then .step
        else if ¬FieldIn b 7 1 20000 then .maxFare
        else if ¬b.headerVal 8 ≤ 128 then .ruleCount
        else if ¬(BandsInOrder b 0 ∧ BandsInOrder b 1 ∧ BandsInOrder b 2) then .bands
        else if ¬LastRuleEndsChain b then .ruleChain
        else .none := by
  have negated (x : Bool) {P : Prop} (h : x = true ↔ P) : (!x) = true ↔ ¬P := by rw [Bool.not_eq_true', ← Bool.not_eq_true, h]
  unfold Bank.validate
  refine if_congr (negated _ (headerInRange_iff b)) rfl (if_congr (negated _ List.contains_iff_mem) rfl
    (if_congr (negated _ (headerOk_iff b 7)) rfl (if_congr (negated _ (ruleCount_iff b)) rfl
      (if_congr (negated _ ?_) rfl (if_congr (negated _ (chainOk_iff b)) rfl rfl)))))
  simp only [List.all_cons, List.all_nil, Bool.and_eq_true, bandsOk_iff, and_true]

/-- Each result of a chain of six checks, by the first check that fails. -/
theorem firstFailed_iff (p q r t u v : Prop) [Decidable p] [Decidable q] [Decidable r] [Decidable t] [Decidable u] [Decidable v]
    {x : Validation} (hx : x = if ¬p then .headerRange else if ¬q then .step else if ¬r then .maxFare else if ¬t then .ruleCount
      else if ¬u then .bands else if ¬v then .ruleChain else .none) :
    (x = .headerRange ↔ ¬p) ∧ (x = .step ↔ p ∧ ¬q) ∧ (x = .maxFare ↔ p ∧ q ∧ ¬r) ∧ (x = .ruleCount ↔ p ∧ q ∧ r ∧ ¬t)
      ∧ (x = .bands ↔ p ∧ q ∧ r ∧ t ∧ ¬u) ∧ (x = .ruleChain ↔ p ∧ q ∧ r ∧ t ∧ u ∧ ¬v) ∧ x ≠ .memoryError := by
  subst hx
  (repeat' split) <;> simp_all

theorem noteFindings_frame (s : State) (m : Memory) (corrected uncorrected : Nat) :
    s.noteFindings m corrected uncorrected = { s with
      ecc := (s.noteFindings m corrected uncorrected).ecc
      events := (s.noteFindings m corrected uncorrected).events } := by
  unfold State.noteFindings
  (repeat' split) <;> rfl

theorem noteFindings_raises (s : State) (m : Memory) (corrected : Nat) {uncorrected : Nat} (h : uncorrected ≠ 0) :
    (s.noteFindings m corrected uncorrected).events.pending.getLsbD 1 = true := by
  unfold State.noteFindings
  rw [if_neg fun hnone => h hnone.2]
  dsimp only
  rw [if_neg h]
  simp [State.raise, eventBit]

/-- A bank with an uncorrectable item in use closes INVALID, whatever its checks (R89; log entry 25). -/
theorem closeBank_double {s : State} (h : .double ∈ (pendingBank s).readThrough) : s.closeBank = { s with
    ecc := s.closeBank.ecc
    events := s.closeBank.events
    tariff := { s.tariff with
      pending := .invalid
      validation := .memoryError } } := by
  have htally : (readThroughTally (s.tariff.area s.tariff.pendingId).bank.readThrough).uncorrected = 1 := readThroughTally_double h
  unfold State.closeBank
  dsimp only
  rw [htally, if_neg (show ¬1 = 0 by decide), if_neg (by decide), noteFindings_frame]

theorem closeBank_raises {s : State} (h : .double ∈ (pendingBank s).readThrough) :
    s.closeBank.events.pending.getLsbD 1 = true := by
  have htally : (readThroughTally (s.tariff.area s.tariff.pendingId).bank.readThrough).uncorrected = 1 := readThroughTally_double h
  unfold State.closeBank
  dsimp only
  exact noteFindings_raises s .tariff _ (by rw [htally]; decide)

theorem pendingCode_closed (x : Validation) : pendingCode (if x = .none then .ready else .invalid) = if x = .none then 2 else 3 := by
  split <;> rfl

/-- Settles O32: the read-through decides first, then the six checks. -/
theorem tariffCloseValidatesTheBank : Obligations.TariffCloseValidatesTheBank := by
  classical
  intro s hserving
  have closes {a : Answer} {u : State} (hwork : s.closeTariff = (a, u)) (hlink : u.link = s.link) : Answers .tariffClose s 0x09 a u :=
    answers_of_work hserving (work := State.closeTariff) rfl hwork hlink
  refine ⟨fun hstate => ?_, fun hstate hclean => ?_, fun hstate hdouble => ?_⟩
  · exact closes (by rw [State.closeTariff, if_pos hstate]; rfl) rfl
  · let b := pendingBank s
    have htally : readThroughTally b.readThrough = ⟨0, 0⟩ := readThroughTally_clean hclean
    have hclosed : s.closeBank
        = { s with tariff := { s.tariff with
            pending := if b.validate = .none then .ready else .invalid
            validation := b.validate } } := by
      unfold State.closeBank
      dsimp only
      rw [show (s.tariff.area s.tariff.pendingId).bank = b from rfl, htally]
      simp [State.noteFindings]
    obtain ⟨h1, h2, h3, h4, h5, h6, h7⟩ := firstFailed_iff _ _ _ _ _ _ (validate_eq b)
    refine ⟨b.validate, h1, h2, h3, h4, h5, h6, h7, closes ?_ rfl⟩
    rw [State.closeTariff, if_neg (not_not_intro hstate), hclosed]
    simp only [pendingCode_closed]
    rfl
  · have hclosed := closeBank_double hdouble
    refine ⟨s.closeBank, closes ?_ (by rw [hclosed]), hclosed, ?_⟩
    · rw [State.closeTariff, if_neg (not_not_intro hstate), hclosed]
      rfl
    · exact closeBank_raises hdouble

end Sys2Proof.Machine

end

/-! ## Chapter 7: the leaf drive -/

section

-- Proofs are checked in order: as one text the file would otherwise hold more waiting proofs than the check has memory for.
set_option Elab.async false

namespace Sys2Proof.Machine

theorem enterOpening_agree {p : Passages} (h : LimitsAgree p) : p.enterOpening = ({ p with leaf := openingLeaf p }, false) := by
  unfold Passages.enterOpening openingLeaf
  rw [if_neg (by rw [h]; decide)]
  split <;> rfl

theorem enterClosing_agree {p : Passages} (h : LimitsAgree p) : p.enterClosing = ({ p with leaf := closingLeaf p }, false) := by
  unfold Passages.enterClosing closingLeaf
  rw [if_neg (by rw [h]; decide)]
  (repeat' split) <;> rfl

theorem closeCondition_iff (p : Passages) : p.closeCondition = true ↔ p.demand = false ∧ p.occ .leaves = false := by
  simp [Passages.closeCondition]

/-- The test of the close condition, whatever the leaves `v` that it finds (R149, R154). -/
theorem closeCheck_of {b p : Passages} {v : Leaf}
    (hclosing : Passages.enterClosing { p with leaf := v } = ({ p with leaf := closingLeaf p }, false)) :
    b.closeCheck { p with leaf := v } = ({ p with leaf := closeChecked (p.latch || b.latch) p v }, false) := by
  have hcondition : Passages.closeCondition { p with leaf := v } = true ↔ p.demand = false ∧ p.occ .leaves = false :=
    closeCondition_iff { p with leaf := v }
  unfold Passages.closeCheck closeChecked
  by_cases hclose : p.demand = false ∧ p.occ .leaves = false
  · rw [if_pos hclose, if_pos (hcondition.mpr hclose)]
    by_cases hlatched : (p.latch || b.latch) = true
    · rw [if_pos hlatched, if_pos (.inl hlatched), hclosing]
    · rw [if_neg hlatched]
      dsimp only
      cases hdelay : v.closeDelay with
      | some d => rw [if_pos (Option.isSome_some), if_neg (by simp [hlatched]), if_neg (by simp)]
      | none =>
        rw [if_neg (by decide)]
        by_cases hzero : p.config.closeDelay = 0
        · rw [if_pos hzero, if_pos (.inr ⟨rfl, hzero⟩), hclosing]
        · rw [if_neg hzero, if_neg (by simp [hlatched, hzero]), if_pos rfl]
  · rw [if_neg hclose, if_neg (mt hcondition.mp hclose)]

theorem closeCheck_agree {p : Passages} (h : LimitsAgree p) (b : Passages) :
    b.closeCheck p = ({ p with leaf := closeChecked (p.latch || b.latch) p p.leaf }, false) :=
  closeCheck_of (v := p.leaf) (enterClosing_agree h)

theorem closeCheck_stopOpen {p : Passages} (h : LimitsAgree p) (b : Passages) :
    b.closeCheck p.stopOpen = ({ p with leaf := closeChecked (p.latch || b.latch) p (stoppedLeaf p) }, false) :=
  closeCheck_of (v := stoppedLeaf p) (enterClosing_agree (p := p.stopOpen) h)

/-- The duty of a movement in its start phase and after it (R135). -/
theorem moveDuty_eq (v : Leaf) :
    (if v.startPhase.isSome = true then v.moveStart else v.moveRun) = if v.startPhase = none then v.moveRun else v.moveStart := by
  cases v.startPhase <;> rfl

/-! ### What the leaf drive makes of a change, state by state -/

section

variable {b p : Passages} (h : LimitsAgree p)
include h

theorem leafReact_closed (hstate : p.leaf.state = .closed) :
    b.leafReact p = ({ p with leaf := if p.demand = true then openingLeaf p else p.leaf }, false) := by
  unfold Passages.leafReact
  rw [hstate]
  dsimp only
  split
  · exact enterOpening_agree h
  · rfl

theorem leafReact_opening (hstate : p.leaf.state = .opening) : b.leafReact p = ({ p with
    leaf := closeChecked (p.latch || b.latch) p (if b.demand = true ∧ p.demand = false then stoppedLeaf p else p.leaf) }, false) := by
  unfold Passages.leafReact
  rw [hstate]
  dsimp only
  by_cases hends : b.demand = true ∧ p.demand = false
  · rw [if_pos hends, if_pos (by simpa using hends)]
    exact closeCheck_stopOpen h b
  · rw [if_neg hends, if_neg (by simpa using hends)]
    exact closeCheck_agree h b

theorem leafReact_opened (hstate : p.leaf.state = .opened) : b.leafReact p = ({ p with
    leaf := if p.demand = true ∧ p.openLimit.accepted = false then movingLeaf p .opening
      else closeChecked (p.latch || b.latch) p p.leaf }, false) := by
  unfold Passages.leafReact
  rw [hstate]
  dsimp only
  by_cases hshort : p.demand = true ∧ p.openLimit.accepted = false
  · rw [if_pos hshort, if_pos (by simpa using hshort), enterOpening_agree h, openingLeaf, if_neg (by rw [hshort.2]; decide)]
  · rw [if_neg hshort, if_neg (by simpa using hshort)]
    exact closeCheck_agree h b

theorem leafReact_closing (hstate : p.leaf.state = .closing) : b.leafReact p = ({ p with
    leaf := if p.demand = true then openingLeaf p
      else if p.occ .leaves = true ∧ b.occ .leaves = false then (if p.letIn = true then openingLeaf p else pausedLeaf p)
      else if p.occ .leaves = false ∧ p.leaf.paused = true then movingLeaf p .closing
      else p.leaf }, false) := by
  unfold Passages.leafReact
  rw [hstate]
  simp only [enterOpening_agree h, Bool.and_eq_true, Bool.not_eq_true']
  (repeat' split) <;> rfl

omit h in
theorem leafReact_jammed (hstate : p.leaf.state = .jammed) : b.leafReact p = (p, false) := by
  unfold Passages.leafReact
  rw [hstate]

/-- With at most one limit asserted no change jams the leaves (R156). -/
theorem leafReact_agree : b.leafReact p = (reacted b p, false) := by
  have hunjammed : (b.leafReact p).2 = false := by
    cases hstate : p.leaf.state
    · rw [leafReact_closed h hstate]
    · rw [leafReact_opening h hstate]
    · rw [leafReact_opened h hstate]
    · rw [leafReact_closing h hstate]
    · rw [leafReact_jammed hstate]
  exact Prod.ext (leafReact_leaf b p) hunjammed

end

/-- Settles O44: each leaf state by the equation of the leaf drive for it. -/
theorem leavesReactToDemandAndSegment : Obligations.LeavesReactToDemandAndSegment := by
  intro b p h r latched duty
  have hduty : (if p.leaf.startPhase.isSome = true then p.leaf.moveStart else p.leaf.moveRun) = duty := moveDuty_eq p.leaf
  refine ⟨leafReact_agree h, fun hstate => ⟨?_, ?_⟩, fun hstate => ⟨?_, ?_⟩, fun hstate => ⟨?_, ?_⟩, fun hstate => ⟨?_, ?_⟩,
    fun hstate => ⟨?_, ?_⟩⟩
  · rw [show r = _ from leafReact_closed h hstate]
  · rw [Passages.drive, hstate]
  · rw [show r = _ from leafReact_opening h hstate]
  · rw [Passages.drive, hstate, ← hduty]
  · rw [show r = _ from leafReact_opened h hstate]
  · rw [Passages.drive, hstate]
    simp only [Bool.and_eq_true]
  · rw [show r = _ from leafReact_closing h hstate]
  · rw [Passages.drive, hstate, ← hduty]
  · rw [show r = _ from leafReact_jammed hstate]
  · rw [Passages.drive, hstate]

end Sys2Proof.Machine

end

/-! ## Chapter 7: changes at one lane, credits, leaf timers and limits -/

section

-- Proofs are checked in order: as one text the file would otherwise hold more waiting proofs than the check has memory for.
set_option Elab.async false

namespace Sys2Proof.Machine

/-! ### Changes of one lane -/

theorem OnlyLane.refl (s : State) (l : Lane) : OnlyLane s s l := ⟨rfl, fun _ _ => rfl, rfl⟩

theorem OnlyLane.trans {s t u : State} {l : Lane} (h : OnlyLane s t l) (h' : OnlyLane t u l) : OnlyLane s u l := by
  obtain ⟨hframe, hothers, htap⟩ := h
  obtain ⟨hframe', hothers', htap'⟩ := h'
  refine ⟨?_, fun k hk => (hothers' k hk).trans (hothers k hk), htap'.trans htap⟩
  rw [← hframe]
  exact congrArg (fun v : State => { v with lanes := s.lanes }) hframe'

theorem OnlyLane.withGate (s : State) (l : Lane) (p : Passages) : OnlyLane s (s.withGate l p) l :=
  ⟨rfl, fun _ hk => PerLane.get_set_other _ hk _, withGate_tap s l l p⟩

theorem OnlyLane.withInd (s : State) (l : Lane) (i : Indicator) : OnlyLane s (s.withInd l i) l :=
  ⟨rfl, fun _ hk => PerLane.get_set_other _ hk _, withInd_tap s l l i⟩

theorem OnlyLane.display {s t : State} {l : Lane} (h : OnlyLane s t l) : t.display = s.display :=
  by rw [← h.1]

theorem withInd_withGate (s : State) (l : Lane) (i : Indicator) (p : Passages) :
    (s.withInd l i).withGate l p = (s.withGate l p).withInd l i := by
  simp [State.withInd, State.withGate, State.lane]

/-! ### The service state an indicator is told -/

theorem handFrame_service (i : Indicator) (frame : List DispCell) : (i.handFrame frame).service = i.service := by
  unfold Indicator.handFrame
  (repeat' split) <;> rfl

theorem refreshed_service (d : Display) (i : Indicator) : (refreshed d i).service = i.service := handFrame_service i _

/-- An indicator that has taken a service state (R166): EMERGENCY_OPEN and FAULT end a held result, any other state waits for it and for an
obstruction. -/
def serviceShown (d : Display) (i : Indicator) (v : Service) : Indicator :=
  if v = .emergencyOpen ∨ v = .fault then endedHold d { i with service := v }
  else if (i.held.isSome || i.obstructed) = true then { i with service := v }
  else refreshed d { i with service := v }

theorem serviceShown_service (d : Display) (i : Indicator) (v : Service) : (serviceShown d i v).service = v := by
  unfold serviceShown endedHold
  (repeat' split) <;> simp only [refreshed_service]

theorem compose_withInd {s : State} (h : DisplayClean s) (l : Lane) (i : Indicator) :
    (s.withInd l i).compose l = s.withInd l (refreshed s.display i) := by
  rw [State.compose_clean (by exact h), modInd_eq, withInd_withInd, withInd_ind]
  rfl

theorem indicateService_clean {s : State} (h : DisplayClean s) (l : Lane) (v : Service) :
    s.indicateService l v = s.withInd l (serviceShown s.display (s.ind l) v) := by
  have hcompose := compose_withInd h l
  unfold State.indicateService serviceShown
  simp only [modInd_eq, withInd_ind, withInd_withInd, hcompose]
  cases v
  case emergencyOpen | fault => rfl
  all_goals
    rw [if_neg (show ¬(_ ∨ _) by decide)]
    exact (apply_ite (s.withInd l) _ _ _).symm

theorem setService_clean {s : State} (h : DisplayClean s) (l : Lane) (v : Service) : s.setService l v
    = (s.withGate l { s.gate l with service := v }).withInd l (serviceShown s.display (s.ind l) v) := by
  rw [State.setService, modGate_eq, indicateService_clean (by exact h), withGate_ind]
  rfl

/-! ### The end of draining, and a change that the leaf drive takes -/

/-- The service state after the draining test (R138). -/
def drainedService (p : Passages) (phase : TapPhase) : Service :=
  if p.service = .draining ∧ p.credits = [] ∧ p.passages = [] ∧ phase ≠ .committing then .closed else p.service

theorem drainCheck_kept {s : State} {l : Lane}
    (h : ¬((s.gate l).service = .draining ∧ (s.gate l).credits = [] ∧ (s.gate l).passages = [] ∧ (s.tap l).phase ≠ .committing)) :
    s.drainCheck l = s := if_neg h

theorem drainCheck_clean {s : State} (h : DisplayClean s) (l : Lane) : ∃ i, s.drainCheck l
      = (s.withGate l { s.gate l with service := drainedService (s.gate l) (s.tap l).phase }).withInd l i
    ∧ ((s.ind l).service = (s.gate l).service → i.service = drainedService (s.gate l) (s.tap l).phase) := by
  unfold State.drainCheck drainedService
  dsimp only
  split
  · exact ⟨_, setService_clean h l .closed, fun _ => serviceShown_service _ _ _⟩
  · exact ⟨s.ind l, by rw [withGate_self rfl, withInd_self rfl], id⟩

theorem putLeaves_agree (s : State) (l : Lane) (p : Passages) : s.putLeaves l (p, false) = s.withGate l p := rfl

theorem leafSettle_agree {s : State} {l : Lane} (h : LimitsAgree (s.gate l)) (b : Passages) :
    s.leafSettle l b = s.withGate l (reacted b (s.gate l)) := by
  rw [State.leafSettle, leafReact_agree h, putLeaves_agree]

/-- A change at a lane with at most one limit asserted: the leaf drive takes it, then the draining test (R138, R152). -/
theorem laneChange_clean {s base : State} {l : Lane} {f : State → State} (honly : OnlyLane base (f s) l)
    (hlimits : LimitsAgree ((f s).gate l)) (hclean : DisplayClean base) : OnlyLane base (s.laneChange l f) l
      ∧ (s.laneChange l f).gate l = { reacted (s.gate l) ((f s).gate l) with
          service := drainedService ((f s).gate l) (base.tap l).phase } := by
  have hclean' : DisplayClean ((f s).withGate l (reacted (s.gate l) ((f s).gate l))) := by
    rw [DisplayClean, withGate_display, honly.display]
    exact hclean
  obtain ⟨i, hdrained, -⟩ := drainCheck_clean hclean' l
  unfold State.laneChange
  dsimp only
  rw [leafSettle_agree hlimits, hdrained, withGate_gate, withGate_tap, withGate_withGate, honly.2.2]
  exact ⟨honly.trans ((OnlyLane.withGate _ _ _).trans (OnlyLane.withInd _ _ _)), by rw [withInd_gate, withGate_gate]; rfl⟩

/-- A change that leaves a lane something to stay open for changes its service state in no case. -/
theorem laneChange_kept {s : State} {l : Lane} {f : State → State} (hlimits : LimitsAgree ((f s).gate l))
    (hkept : ((f s).gate l).service = .draining → ((f s).gate l).credits = [] → ((f s).gate l).passages = [] →
      ((f s).tap l).phase = .committing) :
    s.laneChange l f = (f s).withGate l (reacted (s.gate l) ((f s).gate l)) := by
  unfold State.laneChange
  dsimp only
  rw [leafSettle_agree hlimits]
  refine drainCheck_kept ?_
  rw [withGate_gate, withGate_tap]
  exact fun ⟨hservice, hcredits, hpassages, hphase⟩ => hphase (hkept hservice hcredits hpassages)

/-! ### Cancelled credits and jams -/

theorem HasRooms.hasRoom {s : State} {n : Nat} (h : HasRooms s (n + 1)) : HasRoom s := by
  obtain ⟨hroom, harmed⟩ := h
  exact ⟨by omega, by omega, harmed⟩

theorem HasRooms.withRecord {s : State} {n : Nat} (h : HasRooms s (n + 1)) (r : JournalRecord) : HasRooms (s.withRecord r) n := by
  obtain ⟨hroom, harmed⟩ := h
  refine ⟨?_, harmed⟩
  simp only [State.withRecord, Journal.held, Journal.outstanding, List.length_append, List.length_singleton] at hroom ⊢
  omega

/-- Records appended one after another while there is room for all of them. -/
theorem appendAll_rooms {α : Type} {s : State} {c : AdmissionClass} (f : α → JournalRecord) {xs : List α} (h : HasRooms s xs.length) :
    xs.foldl (fun s x => s.appendUnreserved c (f x)) s = s.withRecords (xs.map f) := by
  induction xs generalizing s with
  | nil => rfl
  | cons x xs ih =>
    rw [List.foldl_cons, appendUnreserved_room h.hasRoom, ih (h.withRecord (f x))]
    rfl

theorem withRecords_lanes (s : State) (rs : List JournalRecord) : (s.withRecords rs).lanes = s.lanes := by
  induction rs generalizing s with
  | nil => rfl
  | cons r rs ih => exact ih (s.withRecord r)

@[simp] theorem withRecords_gate (s : State) (rs : List JournalRecord) (l : Lane) : (s.withRecords rs).gate l = s.gate l :=
  congrArg (·.gate) (State.lane_congr (withRecords_lanes s rs) l)

@[simp] theorem withRecords_ind (s : State) (rs : List JournalRecord) (l : Lane) : (s.withRecords rs).ind l = s.ind l :=
  congrArg (·.ind) (State.lane_congr (withRecords_lanes s rs) l)

@[simp] theorem withRecords_tap (s : State) (rs : List JournalRecord) (l : Lane) : (s.withRecords rs).tap l = s.tap l :=
  congrArg (·.tap) (State.lane_congr (withRecords_lanes s rs) l)

@[simp] theorem withRecords_display (s : State) (rs : List JournalRecord) : (s.withRecords rs).display = s.display := by
  induction rs generalizing s with
  | nil => rfl
  | cons r rs ih => exact ih (s.withRecord r)

theorem withRecords_withGate (s : State) (rs : List JournalRecord) (l : Lane) (p : Passages) :
    (s.withGate l p).withRecords rs = (s.withRecords rs).withGate l p := by
  induction rs generalizing s with
  | nil => rfl
  | cons r rs ih => exact ih (s.withRecord r)

theorem withRecords_raise (s : State) (rs : List JournalRecord) (e : Event) :
    (s.raise e).withRecords rs = (s.withRecords rs).raise e := by
  induction rs generalizing s with
  | nil => rfl
  | cons r rs ih => exact ih (s.withRecord r)

/-- Every credit of a lane cancelled, with a record for each (R144). -/
theorem cancelCredits_rooms {s : State} {l : Lane} (h : HasRooms s (s.gate l).credits.length) (cause : DetailName) :
    s.cancelCredits l cause = (s.withRecords (cancelRecords l (s.gate l).credits cause)).withGate l { s.gate l with
      credits := []
      stats := (s.gate l).stats.cancelled (s.gate l).credits.length } := by
  unfold State.cancelCredits
  dsimp only
  rw [appendAll_rooms _ h, modGate_eq, withRecords_gate]
  rfl

theorem raise_withGate (s : State) (l : Lane) (p : Passages) (e : Event) : (s.withGate l p).raise e = (s.raise e).withGate l p := rfl

theorem raise_withInd (s : State) (l : Lane) (i : Indicator) (e : Event) : (s.withInd l i).raise e = (s.raise e).withInd l i := rfl

/-- A jam in EMERGENCY_OPEN records its cause alone (R156). -/
theorem jam_emergency {s : State} {l : Lane} (h : (s.gate l).service = .emergencyOpen) (cause : FaultCause) : s.jam l cause
    = State.raise (s.withGate l { s.gate l with
        faultCause := some cause
        leaf := restingLeaf (s.gate l) .jammed }) (.laneFault l) := by
  unfold State.jam
  dsimp only
  rw [if_pos h]
  rfl

/-- A jam outside EMERGENCY_OPEN puts the lane in FAULT with its credits cancelled (R144, R145, R156). -/
theorem jam_faults {s : State} {l : Lane} (h : (s.gate l).service ≠ .emergencyOpen) (hclean : DisplayClean s)
    (hrooms : HasRooms s (s.gate l).credits.length) (cause : FaultCause) : s.jam l cause = s.jammed l (s.gate l) cause := by
  let p := s.gate l
  let still : Passages := { p with
    faultCause := some cause
    leaf := restingLeaf p .jammed }
  let cancelled : Passages := { still with
    credits := []
    stats := p.stats.cancelled p.credits.length
    passages := []
    latch := false
    intrusionOpen := false }
  let recorded := (s.withRecords (cancelRecords l p.credits .fault)).raise (.laneFault l)
  have hcancel : (((s.withGate l still).raise (.laneFault l)).cancelCredits l .fault).modGate l Passages.discard
      = recorded.withGate l cancelled := by
    rw [cancelCredits_rooms (by rw [State.raise_gate, withGate_gate]; exact hrooms), State.raise_gate, withGate_gate, modGate_eq,
      withGate_gate, withGate_withGate, withRecords_raise, withRecords_withGate, raise_withGate, withGate_withGate]
    rfl
  have hjam : s.jam l cause = if p.service = .fault then recorded.withGate l cancelled
      else (recorded.withGate l cancelled).setService l .fault := by
    unfold State.jam
    dsimp only
    rw [if_neg h, ← hcancel]
    rfl
  have hclean' : DisplayClean (recorded.withGate l cancelled) := by
    rw [DisplayClean, withGate_display, State.raise_display, withRecords_display]
    exact hclean
  rw [hjam, State.jammed]
  dsimp only
  by_cases hfault : p.service = .fault
  · have hgate : cancelled = jammedGate p cause := by
      rw [show jammedGate p cause = { jammedGate p cause with service := p.service } by rw [hfault]; rfl]
      rfl
    rw [if_pos hfault, if_pos hfault, raise_withInd, raise_withGate, ← hgate]
    exact (withInd_self (by rw [withGate_ind, State.raise_ind, withRecords_ind])).symm
  · rw [if_neg hfault, if_neg hfault, setService_clean hclean', withGate_gate, withGate_withGate, withGate_ind, withGate_display,
      State.raise_ind, State.raise_display, withRecords_ind, withRecords_display, raise_withInd, raise_withGate]
    rfl

end Sys2Proof.Machine

end

/-! ## Chapter 7: credits, leaf timers and limits -/

section

-- Proofs are checked in order: as one text the file would otherwise hold more waiting proofs than the check has memory for.
set_option Elab.async false

namespace Sys2Proof.Machine

/-! ### Credits -/

theorem withGate_withRecord (s : State) (l : Lane) (p : Passages) (r : JournalRecord) :
    (s.withGate l p).withRecord r = (s.withRecord r).withGate l p := rfl

theorem grantCredit_takes {s : State} {l : Lane} {ser : Serial}
    (hservice : (s.gate l).service = .inService ∨ (s.gate l).service = .draining ∨ (s.gate l).service = .heldOpen)
    (hroom : (s.gate l).credits.length < 2) :
    s.grantCredit l ser = s.laneChange l fun s => s.modGate l fun p => p.addCredit ser := by
  unfold State.grantCredit
  dsimp only
  rw [if_neg (by omega)]
  rcases hservice with h | h | h <;> rw [h]

theorem grantCredit_none {s : State} {l : Lane} {ser : Serial}
    (h : 2 ≤ (s.gate l).credits.length ∨ (s.gate l).service = .closed ∨ (s.gate l).service = .emergencyOpen) :
    s.grantCredit l ser = s := by
  unfold State.grantCredit
  dsimp only
  split
  · rfl
  next hroom => rcases h.resolve_left hroom with h | h <;> rw [h]

theorem addCredit_eq {p : Passages} (ser : Serial) : p.addCredit ser = { p with
    credits := p.credits ++ [if p.occ .leaves = true ∧ p.passages = [] then ⟨ser, true, none⟩
      else ⟨ser, false, some p.config.creditLapse⟩]
    passages := if p.occ .leaves = true ∧ p.passages = [] then [⟨some ser, false, false⟩] else p.passages
    stats := { p.stats with grants := min 65535 (p.stats.grants + 1) } } := by
  have hatonce : (p.occ .leaves && p.passages.isEmpty) = true ↔ p.occ .leaves = true ∧ p.passages = [] := by simp
  unfold Passages.addCredit
  by_cases h : p.occ .leaves = true ∧ p.passages = []
  · simp only [hatonce, if_pos h]
    rw [h.2]
    rfl
  · simp only [hatonce, if_neg h]
    rfl

/-- A credit whose grant finds the lane in FAULT is cancelled at once, with its record (R144). -/
theorem grantCredit_fault {s : State} {l : Lane} {ser : Serial} (hservice : (s.gate l).service = .fault)
    (hcredits : (s.gate l).credits = []) (hroom : HasRoom s) : s.grantCredit l ser
      = (s.withRecord { JournalRecord.blank .creditCancelled (some l) with
          serial := some ser
          detail := some (.named .fault) }).withGate l { s.gate l with
        passages := []
        latch := false
        intrusionOpen := false
        stats := { (s.gate l).stats with
          grants := min 65535 ((s.gate l).stats.grants + 1)
          cancellations := min 65535 ((s.gate l).stats.cancellations + 1) } } := by
  have hadded : ∃ c : Credit, c.serial = ser ∧ ((s.gate l).addCredit ser).credits = [c] := by
    rw [addCredit_eq, hcredits]
    exact ⟨_, by split <;> rfl, rfl⟩
  obtain ⟨c, hserial, hadded⟩ := hadded
  have hcancelled (t : State) (ht : (t.gate l).credits = [c]) (htroom : HasRoom t) : t.cancelCredits l .fault
      = (t.withRecord { JournalRecord.blank .creditCancelled (some l) with
          serial := some ser
          detail := some (.named .fault) }).withGate l { t.gate l with
        credits := []
        stats := (t.gate l).stats.cancelled 1 } := by
    unfold State.cancelCredits
    rw [ht]
    dsimp only [List.foldl]
    rw [appendUnreserved_room htroom, hserial]
    rfl
  have hgrant : s.grantCredit l ser = ((s.modGate l fun p => p.addCredit ser).cancelCredits l .fault).modGate l Passages.discard := by
    unfold State.grantCredit
    dsimp only
    rw [hcredits, hservice]
    rfl
  rw [hgrant, hcancelled (s.modGate l fun p => p.addCredit ser) (by rw [modGate_eq, withGate_gate, hadded]) hroom, modGate_eq,
    modGate_eq, withGate_gate, withGate_gate, withGate_withRecord, withGate_withGate, withGate_withGate]
  refine congrArg _ ?_
  rw [addCredit_eq]
  simp only [Passages.discard, hcredits]
  rfl

theorem lapseCredit_none {s : State} {l : Lane} {pos : Nat} (h : ∀ c, (s.gate l).credits[pos]? = some c → c.inUse = true) :
    s.lapseCredit l pos = s := by
  unfold State.lapseCredit
  cases hcredit : (s.gate l).credits[pos]? with
  | none => rfl
  | some c => exact if_pos (by rw [h c hcredit]; rfl)

theorem lapseCredit_takes {s : State} {l : Lane} {pos : Nat} {c : Credit} (hcredit : (s.gate l).credits[pos]? = some c)
    (huse : c.inUse = false) (hlapse : c.lapse.isSome = true) : s.lapseCredit l pos = s.laneChange l fun s =>
      (s.modGate l fun p => { p with
        credits := p.credits.eraseIdx pos
        stats := { p.stats with lapses := bump p.stats.lapses } }).appendUnreserved .mandatory
        { JournalRecord.blank .creditLapsed (some l) with serial := some c.serial } := by
  unfold State.lapseCredit
  rw [hcredit]
  obtain ⟨d, hd⟩ := Option.isSome_iff_exists.mp hlapse
  exact if_neg (by rw [huse, hd]; exact Bool.false_ne_true)

theorem eraseIdx_eq_nil {α : Type} {xs : List α} {i : Nat} (h : i < xs.length) : xs.eraseIdx i = [] ↔ xs.length = 1 := by
  rw [← List.length_eq_zero_iff, List.length_eraseIdx_of_lt h]
  omega

/-- Settles O40: a grant by the lane's service state, a lapse by what stands at its position. -/
theorem creditsAreGrantedAndLapse : Obligations.CreditsAreGrantedAndLapse := by
  intro s l ser hrunning p atOnce granted
  have hgrant : exec (.creditGrant l ser) s = .next (s.grantCredit l ser) := congrArg _ (if_pos hrunning)
  have hlapses (position : Fin 2) : exec (.creditLapse l position) s = .next (s.lapseCredit l position) := congrArg _ (if_pos hrunning)
  refine ⟨fun hservice hroom hlimits => ?_, fun hservice hcredits hroom => ?_, fun hnone => ?_,
    fun position c hcredit huse hlapse hlimits hclean hroom => ?_, fun position hnone => ?_⟩
  · let q := p.addCredit ser
    have hq : q = _ := addCredit_eq ser
    have hlimits' : LimitsAgree q := hlimits
    have hcredits : q.credits ≠ [] := by rw [hq]; simp
    have hchange : s.grantCredit l ser = s.withGate l (reacted p q) := by
      rw [grantCredit_takes hservice hroom, laneChange_kept]
      · rw [modGate_eq, withGate_gate, withGate_withGate]
      · rw [modGate_eq, withGate_gate]
        exact hlimits'
      · rw [modGate_eq, withGate_gate]
        exact fun _ hnil => absurd hnil hcredits
    refine ⟨_, hgrant.trans (congrArg _ hchange), .withGate _ _ _, withGate_ind _ _ _ _, ?_, fun hlatch hclosed => ?_⟩
    · rw [withGate_gate, hq]
    · have hdemand : q.demand = true := by
        have hletin : q.letIn = true := by simp [Passages.letIn, hcredits]
        rw [Passages.demand, hletin, show q.latch = false from hlatch]
        simp
      have hreact := leafReact_closed (b := p) hlimits' hclosed
      rw [if_pos hdemand] at hreact
      rw [withGate_gate, reacted, hreact]
      rfl
  · rw [hgrant, grantCredit_fault hservice hcredits hroom]
  · rw [hgrant, grantCredit_none hnone]
  · let q : Passages := { p with
      credits := p.credits.eraseIdx position
      stats := { p.stats with lapses := min 65535 (p.stats.lapses + 1) } }
    let recorded := s.withRecord { JournalRecord.blank .creditLapsed (some l) with serial := some c.serial }
    let f : State → State := fun s => (s.modGate l fun p => { p with
        credits := p.credits.eraseIdx position
        stats := { p.stats with lapses := bump p.stats.lapses } }).appendUnreserved .mandatory
        { JournalRecord.blank .creditLapsed (some l) with serial := some c.serial }
    have hf : f s = recorded.withGate l q := appendUnreserved_room (by exact hroom) _ _
    have hgate : (f s).gate l = q := by rw [hf, withGate_gate]
    obtain ⟨honly, hafter⟩ := laneChange_clean (base := recorded) (f := f) (by rw [hf]; exact .withGate recorded l q) (by rw [hgate]; exact hlimits)
      hclean
    refine ⟨_, (hlapses position).trans (congrArg _ (lapseCredit_takes hcredit huse hlapse)), honly, hafter.trans ?_⟩
    rw [hgate]
    refine congrArg (fun v => ({ reacted p q with service := v } : Passages)) (if_congr (and_congr_right' (and_congr_left' ?_)) rfl rfl)
    exact eraseIdx_eq_nil (List.getElem?_eq_some_iff.mp hcredit).1
  · rw [hlapses, lapseCredit_none hnone]

/-! ### Leaf timers and limits -/

theorem jammed_withGate (s : State) (l : Lane) (p q : Passages) (cause : FaultCause) :
    (s.withGate l p).jammed l q cause = s.jammed l q cause := by
  simp only [State.jammed, withRecords_withGate, withGate_withGate, withGate_ind, withGate_display]

/-- The limit input after its debounce timer has expired: a low level is asserted (R140; signal summary of chapter 12). -/
theorem modLimit_accept (p : Passages) (k : Limit) :
    (p.modLimit k fun i => i.accept !(p.limit k).high) = p.modLimit k fun i => ⟨i.high, !i.high, none⟩ := by
  cases k <;> rfl

theorem modLimit_limit (p : Passages) (k : Limit) (f : Input → Input) : (p.modLimit k f).limit k = f (p.limit k) := by
  cases k <;> rfl

theorem modLimit_frame (p : Passages) (k : Limit) (f : Input → Input) : p.modLimit k f = { p with
    openLimit := (p.modLimit k f).openLimit
    closedLimit := (p.modLimit k f).closedLimit } := by
  cases k <;> rfl

/-- A limit change that jams the leaves (R156). -/
theorem limitChange_jams {s : State} {l : Lane} {k : Limit} {q : Passages}
    (hq : q = (s.gate l).modLimit k fun i => i.accept !((s.gate l).limit k).high) (hboth : q.bothLimits = true) :
    s.limitChange l k (!((s.gate l).limit k).high) = (s.withGate l q).jam l .bothLimits := by
  unfold State.limitChange
  dsimp only
  rw [modGate_eq, ← hq, withGate_gate, if_pos hboth]

/-- A limit change that the leaf drive takes (R152). -/
theorem limitChange_reacts {s : State} {l : Lane} {k : Limit} {q : Passages} {v : Leaf}
    (hq : q = (s.gate l).modLimit k fun i => i.accept !((s.gate l).limit k).high) (hboth : q.bothLimits = false)
    (hreact : (s.gate l).limitReact q k (!((s.gate l).limit k).high) = ({ q with leaf := v }, false)) :
    s.limitChange l k (!((s.gate l).limit k).high) = s.withGate l { q with leaf := v } := by
  unfold State.limitChange
  dsimp only
  rw [modGate_eq, ← hq, withGate_gate, hboth, if_neg (by decide), hreact, putLeaves_agree, withGate_withGate]

section

variable {b p : Passages}

theorem limitReact_opening (h : LimitsAgree p) (hstate : p.leaf.state = .opening) : b.limitReact p .openLimit true
    = ({ p with leaf := closeChecked (p.latch || b.latch) p (stoppedLeaf p) }, false) := by
  unfold Passages.limitReact
  rw [hstate]
  exact closeCheck_stopOpen h b

theorem limitReact_closing (hstate : p.leaf.state = .closing) :
    b.limitReact p .closedLimit true = ({ p with leaf := restingLeaf p .closed }, false) := by
  unfold Passages.limitReact
  rw [hstate]
  rfl

theorem limitReact_closed (h : LimitsAgree p) (hstate : p.leaf.state = .closed) : b.limitReact p .closedLimit false
    = ({ p with leaf := if p.demand = true then p.leaf else closingLeaf p }, false) := by
  unfold Passages.limitReact
  rw [hstate]
  dsimp only
  split
  · rfl
  · exact enterClosing_agree h

theorem limitReact_opened (h : LimitsAgree p) (hstate : p.leaf.state = .opened) : b.limitReact p .openLimit false
    = ({ p with leaf := if p.demand = true then openingLeaf p else p.leaf }, false) := by
  unfold Passages.limitReact
  rw [hstate]
  dsimp only
  split
  · exact enterOpening_agree h
  · rfl

/-- The limit changes that no rule of the leaf drive names (R152 to R154). -/
theorem limitReact_still {k : Limit} {asserted : Bool} (h : p.leaf.state = .jammed
      ∨ (p.leaf.state = .opened ∧ p.demand = false) ∨ (p.leaf.state = .closed ∧ p.demand = true)
      ∨ asserted = decide (p.leaf.state = .closed ∨ p.leaf.state = .opened)
      ∨ (k = .openLimit ∧ (p.leaf.state = .closed ∨ p.leaf.state = .closing))
      ∨ (k = .closedLimit ∧ (p.leaf.state = .opened ∨ p.leaf.state = .opening))) :
    b.limitReact p k asserted = (p, false) := by
  unfold Passages.limitReact
  split
  next hstate => simp [hstate] at h
  next hstate => simp [hstate] at h
  next hstate => rw [if_pos (by simpa [hstate] using h)]
  next hstate => rw [if_neg (by simpa [hstate] using h)]
  next => rfl

end

theorem travelTimeout_jams {s : State} {l : Lane} {cause : FaultCause} (hrunning : s.phase = .running)
    (htravel : (s.gate l).leaf.travel.isSome = true) (hcause : ((s.gate l).leaf.state = .opening ∧ cause = .jamOpening)
      ∨ ((s.gate l).leaf.state = .closing ∧ cause = .jamClosing)) : exec (.leafTravelTimeout l) s = .next (s.jam l cause) := by
  refine congrArg _ ((if_pos ⟨hrunning, htravel⟩).trans ?_)
  unfold State.travelExpired
  rcases hcause with ⟨hstate, rfl⟩ | ⟨hstate, rfl⟩ <;> rw [hstate]

/-- The debounce expiry of a limit: a jam, a rule of the leaf drive, or nothing but the accepted state (R152 to R156). -/
theorem limitExpiry_moves {s : State} {l : Lane} {k : Limit} (hrunning : s.phase = .running) (hclean : DisplayClean s)
    (htimer : ((s.gate l).limit k).timer.isSome = true) :
    let p := s.gate l
    let q : Passages := p.modLimit k fun i => ⟨i.high, !i.high, none⟩
    let run := exec (.limitDebounceExpiry l k) s
    (q.bothLimits = true → p.service ≠ .emergencyOpen → HasRooms s p.credits.length → run = .next (s.jammed l q .bothLimits))
      ∧ (q.bothLimits = true → p.service = .emergencyOpen → run
        = .next (State.raise (s.withGate l { q with faultCause := some .bothLimits, leaf := restingLeaf p .jammed }) (.laneFault l)))
      ∧ (q.bothLimits = false → p.leaf.state = .opening → k = .openLimit → q.openLimit.accepted = true → p.demand = false →
        run = .next (s.withGate l { q with leaf := closeChecked p.latch q (stoppedLeaf p) }))
      ∧ (q.bothLimits = false → (p.leaf.state = .jammed ∨ (p.leaf.state = .opened ∧ p.demand = false)
          ∨ (p.leaf.state = .closed ∧ p.demand = true) ∨ (q.limit k).accepted = decide (p.leaf.state = .closed ∨ p.leaf.state = .opened)
          ∨ (k = .openLimit ∧ (p.leaf.state = .closed ∨ p.leaf.state = .closing))
          ∨ (k = .closedLimit ∧ (p.leaf.state = .opened ∨ p.leaf.state = .opening))) → run = .next (s.withGate l q))
      ∧ (q.bothLimits = false → p.leaf.state = .opening → k = .openLimit → q.openLimit.accepted = true → p.demand = true →
        run = .next (s.withGate l { q with leaf := restingLeaf p .opened }))
      ∧ (q.bothLimits = false → p.leaf.state = .closing → k = .closedLimit → q.closedLimit.accepted = true →
        run = .next (s.withGate l { q with leaf := restingLeaf p .closed }))
      ∧ (q.bothLimits = false → p.leaf.state = .opened → k = .openLimit → q.openLimit.accepted = false → p.demand = true →
        run = .next (s.withGate l { q with leaf := movingLeaf p .opening }))
      ∧ (q.bothLimits = false → p.leaf.state = .closed → k = .closedLimit → q.closedLimit.accepted = false → p.demand = false →
        run = .next (s.withGate l { q with leaf := closingLeaf q })) := by
  intro p q run
  let asserted := !(p.limit k).high
  have hrun : run = .next (s.limitChange l k asserted) := congrArg _ (if_pos ⟨hrunning, htimer⟩)
  have hq : q = p.modLimit k fun i => i.accept asserted := (modLimit_accept p k).symm
  have hasserted : (q.limit k).accepted = asserted := by rw [modLimit_limit]
  have hservice : q.service = p.service := by rw [show q = _ from modLimit_frame p k _]
  have hcredits : q.credits = p.credits := by rw [show q = _ from modLimit_frame p k _]
  have hleaf : q.leaf = p.leaf := by rw [show q = _ from modLimit_frame p k _]
  have hdemand : q.demand = p.demand := by rw [show q = _ from modLimit_frame p k _]; rfl
  have jams (hboth : q.bothLimits = true) : run = .next ((s.withGate l q).jam l .bothLimits) := by
    rw [hrun, limitChange_jams hq hboth]
  have reacts {v : Leaf} (hboth : q.bothLimits = false) (hreact : p.limitReact q k asserted = ({ q with leaf := v }, false)) :
      run = .next (s.withGate l { q with leaf := v }) := by rw [hrun, limitChange_reacts hq hboth hreact]
  refine ⟨fun hboth hemergency hrooms => ?_, fun hboth hemergency => ?_, fun hlimits hstate hk haccepted _ => ?_,
    fun hlimits hstill => ?_, fun hlimits hstate hk haccepted hopen => ?_, fun hlimits hstate hk haccepted => ?_,
    fun hlimits hstate hk haccepted hopen => ?_, fun hlimits hstate hk haccepted hopen => ?_⟩
  · rw [jams hboth, jam_faults (s := s.withGate l q) (by rw [withGate_gate, hservice]; exact hemergency) hclean
      (by rw [withGate_gate, hcredits]; exact hrooms), withGate_gate, jammed_withGate]
  · rw [jams hboth, jam_emergency (s := s.withGate l q) (by rw [withGate_gate, hservice]; exact hemergency), withGate_gate, withGate_withGate]
    rw [restingLeaf, hleaf]
    rfl
  · subst hk
    have hreact := limitReact_opening (b := p) hlimits hstate
    rw [show (q.latch || p.latch) = p.latch from Bool.or_self _] at hreact
    exact reacts hlimits (by rw [hasserted.symm.trans haccepted]; exact hreact)
  · refine reacts (v := q.leaf) hlimits (limitReact_still ?_)
    rw [hleaf, hdemand, ← hasserted]
    exact hstill
  · subst hk
    have hreact := limitReact_opening (b := p) hlimits hstate
    rw [closeChecked, if_neg (by rw [hdemand, hopen]; exact fun h => nomatch h.1)] at hreact
    exact reacts hlimits (by rw [hasserted.symm.trans haccepted]; exact hreact)
  · subst hk
    have hreact := limitReact_closing (b := p) (p := q) hstate
    exact reacts hlimits (by rw [hasserted.symm.trans haccepted]; exact hreact)
  · subst hk
    have hreact := limitReact_opened (b := p) hlimits hstate
    rw [hdemand, if_pos hopen, openingLeaf, if_neg (by rw [haccepted]; exact Bool.false_ne_true)] at hreact
    exact reacts hlimits (by rw [hasserted.symm.trans haccepted]; exact hreact)
  · subst hk
    have hreact := limitReact_closed (b := p) hlimits hstate
    rw [hdemand, if_neg (by rw [hopen]; exact Bool.false_ne_true)] at hreact
    exact reacts hlimits (by rw [hasserted.symm.trans haccepted]; exact hreact)

/-- Settles O45: the timers, then a limit's debounce expiry by the leaf state that it finds. -/
theorem leafTimersAndLimitsMoveTheLeaves : Obligations.LeafTimersAndLimitsMoveTheLeaves := by
  intro s l hrunning hclean p
  refine ⟨fun hdelay hlimits => ?_, fun hdelay => ?_, congrArg _ (if_pos hrunning), fun htravel => ?_,
    fun cause hcause htravel => ⟨fun hservice hrooms => ?_, fun hservice => ?_⟩, fun k htimer => ?_, fun hobstruction => ?_,
    fun hobstruction => ?_⟩
  · refine congrArg _ ((if_pos ⟨hrunning, hdelay⟩).trans ?_)
    rw [show (s.gate l).enterClosing = _ from enterClosing_agree hlimits, putLeaves_agree]
  · exact congrArg _ (if_neg fun h => absurd h.2 (by rw [show (s.gate l).leaf.closeDelay = none from hdelay]; exact Bool.false_ne_true))
  · exact congrArg _ (if_neg fun h => absurd h.2 (by rw [show (s.gate l).leaf.travel = none from htravel]; exact Bool.false_ne_true))
  · rw [travelTimeout_jams hrunning htravel hcause, jam_faults hservice hclean hrooms]
  · rw [travelTimeout_jams hrunning htravel hcause, jam_emergency hservice]
  · exact limitExpiry_moves hrunning hclean htimer
  · obtain ⟨d, hd⟩ := Option.isSome_iff_exists.mp hobstruction
    refine congrArg _ ((if_pos hrunning).trans ?_)
    unfold State.obstructionExpired
    rw [hd]
    dsimp only
    rw [modGate_eq, State.indicateObstruction, if_pos rfl, modInd_eq, compose_withInd (by exact hclean), State.raise_ind, withGate_ind]
    rfl
  · refine congrArg _ ((if_pos hrunning).trans ?_)
    unfold State.obstructionExpired
    rw [hobstruction]

end Sys2Proof.Machine

end

/-! ## Chapter 7: beams, segments and the passage tracker -/

section

-- Proofs are checked in order: as one text the file would otherwise hold more waiting proofs than the check has memory for.
set_option Elab.async false

namespace Sys2Proof.Machine

/-! ### A beam's accepted state and the segments -/

/-- A segment's occupancy depends on what its own beams read (R141). -/
theorem occ_congr {p q : Passages} {g : Segment} (h : ∀ k, segmentOf k = g → q.beamReads k = p.beamReads k) : q.occ g = p.occ g := by
  cases g
  · rw [Passages.occ, Passages.occ, h 0 rfl, h 1 rfl]
  · rw [Passages.occ, Passages.occ, h 2 rfl, h 3 rfl]
  · rw [Passages.occ, Passages.occ, h 4 rfl, h 5 rfl]

theorem acceptBeam_occ_other (p : Passages) {b : Beam} {g : Segment} (h : segmentOf b ≠ g) : (p.acceptBeam b).occ g = p.occ g := by
  refine occ_congr fun k hk => ?_
  have hkb : k ≠ b := fun hkb => h (hkb ▸ hk)
  unfold Passages.beamReads Passages.acceptBeam
  dsimp only
  rw [get_setBeam_other _ hkb]

theorem laneChange_congr {s : State} {l : Lane} {f g : State → State} (h : f s = g s) : s.laneChange l f = s.laneChange l g := by
  unfold State.laneChange
  dsimp only
  rw [h]

/-! ### What the tracker takes from a beam -/

section

variable {s : State} {l : Lane} {b : Beam}

/-- A beam's debounce expiry, the tracker having taken it into `t`. -/
theorem beamExpiry_tracks {t : State} (hrunning : s.phase = .running) (htimer : ((s.gate l).beams.get b).timer.isSome = true)
    (ht : (s.withGate l ((s.gate l).acceptBeam b)).trackSegments l (s.gate l) = t) :
    exec (.beamDebounceExpiry l b) s = .next (s.laneChange l fun _ => t) := by
  have hchange : s.beamChange l (fun p => p.acceptBeam b) = s.laneChange l fun _ => t := by
    unfold State.beamChange
    exact laneChange_congr ht
  rw [← hchange]
  exact congrArg _ (if_pos ⟨hrunning, htimer⟩)

/-- A change that leaves segments L and X as they were is none for the tracker (R141). -/
theorem tracks_none (hleaves : ((s.gate l).acceptBeam b).occ .leaves = (s.gate l).occ .leaves)
    (hexit : ((s.gate l).acceptBeam b).occ .exit = (s.gate l).occ .exit) :
    (s.withGate l ((s.gate l).acceptBeam b)).trackSegments l (s.gate l) = s.withGate l ((s.gate l).acceptBeam b) := by
  unfold State.trackSegments
  dsimp only
  rw [withGate_gate, if_pos hleaves.symm, if_pos hexit.symm]

/-- A change of segment L (R146 to R151). -/
theorem tracks_leaves {after : Bool} (h : BeamTurns s l b .leaves after) :
    exec (.beamDebounceExpiry l b) s = .next (s.laneChange l fun _ =>
      if after = true then (s.withGate l ((s.gate l).acceptBeam b)).leavesOccupied l
      else (s.withGate l ((s.gate l).acceptBeam b)).leavesClear l) := by
  obtain ⟨hrunning, htimer, hsegment, hbefore, hafter⟩ := h
  have hexit : ((s.gate l).acceptBeam b).occ .exit = (s.gate l).occ .exit := acceptBeam_occ_other _ (by rw [hsegment]; decide)
  refine beamExpiry_tracks hrunning htimer ?_
  unfold State.trackSegments
  dsimp only
  rw [withGate_gate, if_pos hexit.symm, hbefore, hafter, if_neg (Bool.not_ne_self after)]

/-- A change of segment X (R147, R148, R150). -/
theorem tracks_exit {after : Bool} (h : BeamTurns s l b .exit after) :
    exec (.beamDebounceExpiry l b) s = .next (s.laneChange l fun _ =>
      if after = true then (s.withGate l ((s.gate l).acceptBeam b)).exitOccupied l
      else (s.withGate l ((s.gate l).acceptBeam b)).exitClear l) := by
  obtain ⟨hrunning, htimer, hsegment, hbefore, hafter⟩ := h
  have hleaves : ((s.gate l).acceptBeam b).occ .leaves = (s.gate l).occ .leaves := acceptBeam_occ_other _ (by rw [hsegment]; decide)
  refine beamExpiry_tracks hrunning htimer ?_
  unfold State.trackSegments
  dsimp only
  rw [withGate_gate, if_pos hleaves.symm, hbefore, hafter, if_neg (Bool.not_ne_self after)]

/-- What a lane is after a beam change that the tracker has taken. -/
theorem tracked_kept {base t : State} {r : Passages} (ht : t = base.withGate l r) (hlimits : LimitsAgree r)
    (hkept : r.service = .draining → r.credits = [] → r.passages = [] → (base.tap l).phase = .committing) :
    s.laneChange l (fun _ => t) = base.withGate l (reacted (s.gate l) r) := by
  subst ht
  rw [laneChange_kept]
  · rw [withGate_gate, withGate_withGate]
  · rw [withGate_gate]
    exact hlimits
  · rw [withGate_gate, withGate_tap]
    exact hkept

end

/-! ### Segment L becomes occupied -/

theorem hasUnstarted_iff (p : Passages) : p.hasUnstarted = true ↔ ∃ c ∈ p.credits, c.inUse = false := by
  simp [Passages.hasUnstarted]

/-- The oldest UNSTARTED credit starts (R146). -/
theorem startOldest_first {pre post : List Credit} {c : Credit} (hpre : ∀ x ∈ pre, x.inUse = true) (hc : c.inUse = false) :
    startOldest (pre ++ c :: post) = (pre ++ { c with inUse := true, lapse := none } :: post, some c.serial) := by
  induction pre with
  | nil => rw [List.nil_append, startOldest, if_neg (by rw [hc]; exact Bool.false_ne_true)]; rfl
  | cons x xs ih =>
    obtain ⟨hx, hxs⟩ := List.forall_mem_cons.mp hpre
    rw [List.cons_append, startOldest, if_pos hx, ih hxs]
    rfl

theorem markTailgate_last (ahead : List Passage) (x : Passage) :
    markTailgate (ahead ++ [x]) = ahead ++ [{ x with tailgate := true }] := by
  induction ahead with
  | nil => rfl
  | cons y ys ih =>
    rw [List.cons_append, markTailgate, ih]
    · rfl
    · exact fun h => by simp at h

section

variable {s : State} {l : Lane} {q : Passages}

/-- The controller with its obstruction timer started (R151). -/
def Passages.timed (p : Passages) : Passages := { p with obstruction := some p.config.obstruction }

theorem modGate_timed (s : State) (l : Lane) (q : Passages) :
    (s.withGate l q).modGate l (fun p => { p with obstruction := some p.config.obstruction }) = s.withGate l q.timed := by
  rw [modGate_eq, withGate_gate, withGate_withGate]
  rfl

theorem leavesOccupied_starts {pre post : List Credit} {c : Credit}
    (hservice : q.service = .inService ∨ q.service = .draining ∨ q.service = .heldOpen) (hroom : q.passages.length < 2)
    (hcredits : q.credits = pre ++ c :: post) (hpre : ∀ x ∈ pre, x.inUse = true) (hc : c.inUse = false) :
    (s.withGate l q).leavesOccupied l = s.withGate l { q.timed with
      credits := pre ++ { c with inUse := true, lapse := none } :: post
      passages := q.passages ++ [⟨some c.serial, false, false⟩] } := by
  have hunstarted : q.timed.hasUnstarted = true :=
    (hasUnstarted_iff _).mpr ⟨c, by rw [show q.timed.credits = _ from hcredits]; simp, hc⟩
  unfold State.leavesOccupied
  dsimp only
  rw [modGate_timed, withGate_gate, if_pos hunstarted, if_pos ⟨hservice, hroom⟩, modGate_eq, withGate_gate, withGate_withGate,
    show q.timed.credits = _ from hcredits, startOldest_first hpre hc]
  rfl

theorem hasUnstarted_none (h : ∀ x ∈ q.credits, x.inUse = true) : ¬q.timed.hasUnstarted = true := by
  rw [hasUnstarted_iff]
  rintro ⟨c, hc, huse⟩
  exact absurd (h c hc) (by rw [huse]; exact Bool.false_ne_true)

theorem leavesOccupied_free (hservice : q.service = .heldOpen ∨ q.service = .emergencyOpen) (hroom : q.passages.length < 2)
    (hcredits : ∀ x ∈ q.credits, x.inUse = true) : (s.withGate l q).leavesOccupied l
      = s.withGate l { q.timed with passages := q.passages ++ [⟨none, false, false⟩] } := by
  have hfree : (s.withGate l q.timed).modGate l (fun p => { p with passages := p.passages ++ [⟨none, false, false⟩] })
      = s.withGate l { q.timed with passages := q.passages ++ [⟨none, false, false⟩] } := by
    rw [modGate_eq, withGate_gate, withGate_withGate]
    rfl
  have hservice' : q.timed.service = .heldOpen ∨ q.timed.service = .emergencyOpen := hservice
  unfold State.leavesOccupied
  dsimp only
  rw [modGate_timed, withGate_gate, if_neg (hasUnstarted_none hcredits), ← hfree]
  rcases hservice' with h | h <;> rw [h] <;> exact if_pos hroom

theorem leavesOccupied_followed (hservice : q.service = .inService ∨ q.service = .draining)
    (hcredits : ∀ x ∈ q.credits, x.inUse = true) : (s.withGate l q).leavesOccupied l
      = if q.passages = [] then (s.withGate l q.timed).findIntrusion l .segmentL else (s.withGate l q.timed).findTailgate l := by
  have hservice' : q.timed.service = .inService ∨ q.timed.service = .draining := hservice
  unfold State.leavesOccupied
  dsimp only
  rw [modGate_timed, withGate_gate, if_neg (hasUnstarted_none hcredits)]
  rcases hservice' with h | h <;> rw [h] <;> rfl

theorem findTailgate_first {ahead : List Passage} {x : Passage} (hpassages : q.passages = ahead ++ [x]) (hx : x.tailgate = false)
    (hroom : HasRoom s) : (s.withGate l q).findTailgate l
      = (State.raise (s.withRecord { JournalRecord.blank .tailgate (some l) with serial := x.credit }) (.tailgate l)).withGate l
        { q with
          passages := ahead ++ [{ x with tailgate := true }]
          latch := true } := by
  have hlast : ((s.withGate l q).gate l).passages.getLast? = some x := by rw [withGate_gate, hpassages, List.getLast?_concat]
  unfold State.findTailgate
  rw [hlast]
  dsimp only
  rw [hx, if_neg Bool.false_ne_true, modGate_eq, modGate_eq, withGate_gate, withGate_withGate, hpassages, markTailgate_last,
    appendUnreserved_room (by exact hroom), withGate_withRecord, raise_withGate, withGate_gate, withGate_withGate]

theorem findTailgate_again {ahead : List Passage} {x : Passage} (hpassages : q.passages = ahead ++ [x]) (hx : x.tailgate = true) :
    (s.withGate l q).findTailgate l = s.withGate l q := by
  have hlast : ((s.withGate l q).gate l).passages.getLast? = some x := by rw [withGate_gate, hpassages, List.getLast?_concat]
  unfold State.findTailgate
  rw [hlast]
  exact if_pos hx

theorem findIntrusion_first {seg : DetailName} (hservice : q.service = .inService ∨ q.service = .draining)
    (hleaf : q.leaf.state = .closed) (hcredits : q.credits = []) (hpassages : q.passages = []) (hopen : q.intrusionOpen = false)
    (hroom : HasRoom s) : (s.withGate l q).findIntrusion l seg
      = (State.raise (s.withRecord { JournalRecord.blank .intrusion (some l) with detail := some (.named seg) }) (.intrusion l)).withGate l
        { q with intrusionOpen := true } := by
  unfold State.findIntrusion
  dsimp only
  rw [withGate_gate, if_pos ⟨hservice, hleaf, hcredits, hpassages, hopen⟩, modGate_eq, withGate_gate, withGate_withGate,
    appendUnreserved_room (by exact hroom), withGate_withRecord, raise_withGate]

end

/-- CLOSED leaves without demand stand. -/
theorem reacted_closed {b p : Passages} (hlimits : LimitsAgree p) (hstate : p.leaf.state = .closed) (hdemand : p.demand = false) :
    reacted b p = p := by
  rw [reacted, leafReact_closed hlimits hstate, hdemand]
  rfl

theorem demand_none {p : Passages} (hservice : p.service ≠ .heldOpen) (hservice' : p.service ≠ .emergencyOpen)
    (hcredits : p.credits = []) (hpassages : p.passages = []) : p.demand = false := by
  simp [Passages.demand, Passages.letIn, hservice, hservice', hcredits, hpassages]

/-- Leaves at rest stand when neither the demand nor segment L changes (R152 to R155). -/
theorem reacted_rest {p q : Passages} (hrest : LeavesAtRest p) (hlimits : LimitsAgree q) (hq : q = { p with beams := q.beams })
    (hleaves : q.occ .leaves = p.occ .leaves) : reacted p q = q := by
  obtain ⟨hclosed, hopening, hopened, hclosing⟩ := hrest
  have hleaf : q.leaf = p.leaf := by rw [hq]
  have hlatch : q.latch = p.latch := by rw [hq]
  have hlimit : q.openLimit = p.openLimit := by rw [hq]
  have hdemand : q.demand = p.demand := by rw [hq]; rfl
  have hchecked (hwaits : if p.demand = false ∧ p.occ .leaves = false then p.leaf.closeDelay.isSome = true ∧ p.latch = false
      else p.leaf.closeDelay = none) : closeChecked (q.latch || p.latch) q q.leaf = q.leaf := by
    unfold closeChecked
    rw [hdemand, hleaves, hlatch, hleaf]
    split
    next hclose =>
      rw [if_pos hclose] at hwaits
      obtain ⟨d, hd⟩ := Option.isSome_iff_exists.mp hwaits.1
      rw [if_neg (by rw [hd, hwaits.2]; simp), if_neg (by rw [hd]; simp)]
    next hclose =>
      rw [if_neg hclose] at hwaits
      rw [← hwaits]
  have hstill {v : Leaf} (hreact : p.leafReact q = ({ q with leaf := v }, false)) (hv : v = q.leaf) : reacted p q = q := by
    rw [reacted, hreact, hv]
  cases hstate : q.leaf.state
  · refine hstill (leafReact_closed hlimits hstate) ?_
    rw [hdemand, hclosed (hleaf ▸ hstate), if_neg Bool.false_ne_true]
  · refine hstill (leafReact_opening hlimits hstate) ?_
    rw [hdemand, if_neg fun h => by simp [h.1] at h]
    exact hchecked (hopening (hleaf ▸ hstate))
  · obtain ⟨hwaits, hheld⟩ := hopened (hleaf ▸ hstate)
    refine hstill (leafReact_opened hlimits hstate) ?_
    rw [hdemand, hlimit, if_neg fun h => by simp [hheld h.1] at h]
    exact hchecked hwaits
  · obtain ⟨hnone, hpaused⟩ := hclosing (hleaf ▸ hstate)
    refine hstill (leafReact_closing hlimits hstate) ?_
    rw [hdemand, hnone, if_neg Bool.false_ne_true, hleaves, if_neg fun h => by simp [h.1] at h,
      if_neg fun h => by simp [hpaused (hleaf ▸ h.2)] at h]
  · exact hstill (v := q.leaf) (leafReact_jammed hstate) rfl

end Sys2Proof.Machine

end

/-! ## Chapter 7: passages start, are marked and settle -/

section

-- Proofs are checked in order: as one text the file would otherwise hold more waiting proofs than the check has memory for.
set_option Elab.async false

namespace Sys2Proof.Machine

theorem drainedService_kept {p : Passages} (h : p.service = .draining → p.credits = [] → p.passages ≠ []) (phase : TapPhase) :
    drainedService p phase = p.service := if_neg fun ⟨hservice, hcredits, hpassages, _⟩ => h hservice hcredits hpassages

/-- An accepted state that the beam's own segment does not show leaves segments L and X as they were (R141). -/
theorem acceptBeam_still {p : Passages} {b : Beam} (h : segmentOf b = .approach ∨ (p.acceptBeam b).occ (segmentOf b) = p.occ (segmentOf b)) :
    (p.acceptBeam b).occ .leaves = p.occ .leaves ∧ (p.acceptBeam b).occ .exit = p.occ .exit := by
  have still (g : Segment) (hg : g ≠ .approach) : (p.acceptBeam b).occ g = p.occ g := by
    by_cases hb : segmentOf b = g
    · rw [hb] at h
      exact h.resolve_left hg
    · exact acceptBeam_occ_other p hb
  exact ⟨still .leaves (by decide), still .exit (by decide)⟩

/-- Settles O42: what each occupied segment finds, and a change that no segment sees. -/
theorem occupiedSegmentsStartPassagesAndFindIntruders : Obligations.OccupiedSegmentsStartPassagesAndFindIntruders := by
  intro s l b hlimits p q timed
  have occupies (h : BeamTurns s l b .leaves true) {base : State} {r : Passages}
      (hoccupied : (s.withGate l q).leavesOccupied l = base.withGate l r) (hr : LimitsAgree r)
      (hkept : r.service = .draining → r.credits = [] → r.passages = [] → (base.tap l).phase = .committing) :
      exec (.beamDebounceExpiry l b) s = .next (base.withGate l (reacted p r)) :=
    (tracks_leaves h).trans (congrArg _ (tracked_kept hoccupied hr hkept))
  have passing {r : Passages} (hne : r.passages ≠ []) {v : TapPhase} :
      r.service = .draining → r.credits = [] → r.passages = [] → v = .committing := fun _ _ hnil => absurd hnil hne
  have intruded (h : p.service = .inService ∨ (p.service = .draining ∧ (s.tap l).phase = .committing)) (hdraining : p.service = .draining) :
      (s.tap l).phase = .committing := (h.resolve_left (by rw [hdraining]; decide)).2
  have noDemand {r : Passages} (hservice : r.service = .inService ∨ r.service = .draining) (hcredits : r.credits = [])
      (hpassages : r.passages = []) : r.demand = false := by
    rcases hservice with h | h <;> exact demand_none (by rw [h]; decide) (by rw [h]; decide) hcredits hpassages
  refine ⟨fun hturns hroom => ⟨fun hservice pre c post hcredits hpre hc => ?_, fun hservice hcredits => ?_⟩,
    fun hturns hservice hcredits ahead x hpassages => ⟨fun hx hroom => ?_, fun hx => ?_⟩,
    fun hservice hleaf hcredits hpassages hopen hroom => ⟨fun hturns => ?_, fun hturns => ?_⟩,
    fun hrunning htimer hsame => ⟨fun hclean => ?_, fun hrest hdrained => ?_⟩⟩
  · have hrun := occupies hturns (leavesOccupied_starts (q := q) hservice hroom hcredits hpre hc) hlimits (passing (by simp))
    exact ⟨_, hrun, .withGate _ _ _, withGate_ind _ _ _ _, withGate_gate _ _ _⟩
  · have hrun := occupies hturns (leavesOccupied_free (q := q) hservice hroom hcredits) hlimits (passing (by simp))
    exact ⟨_, hrun, .withGate _ _ _, withGate_ind _ _ _ _, withGate_gate _ _ _⟩
  · have hne : q.passages ≠ [] := by rw [show q.passages = _ from hpassages]; simp
    have hoccupied := (leavesOccupied_followed (s := s) (l := l) (q := q) hservice hcredits).trans
      ((if_neg hne).trans (findTailgate_first (q := q.timed) hpassages hx hroom))
    have hrun := occupies hturns hoccupied hlimits (passing (by simp))
    exact ⟨_, hrun, .withGate _ _ _, withGate_ind _ _ _ _, withGate_gate _ _ _⟩
  · have hne : q.passages ≠ [] := by rw [show q.passages = _ from hpassages]; simp
    have hoccupied := (leavesOccupied_followed (s := s) (l := l) (q := q) hservice hcredits).trans
      ((if_neg hne).trans (findTailgate_again (q := q.timed) hpassages hx))
    have hrun := occupies hturns hoccupied hlimits (passing hne)
    exact ⟨_, hrun, .withGate _ _ _, withGate_ind _ _ _ _, withGate_gate _ _ _⟩
  · have hserves : q.service = .inService ∨ q.service = .draining := hservice.imp_right And.left
    have hoccupied := (leavesOccupied_followed (s := s) (l := l) (q := q) hserves (by rw [show q.credits = _ from hcredits]; simp)).trans
      ((if_pos hpassages).trans (findIntrusion_first (q := q.timed) (seg := .segmentL) hserves hleaf hcredits hpassages hopen hroom))
    rw [occupies hturns hoccupied hlimits fun h _ _ => intruded hservice h]
    rw [reacted_closed (p := { q.timed with intrusionOpen := true }) hlimits hleaf (noDemand hserves hcredits hpassages)]
    rfl
  · have hserves : q.service = .inService ∨ q.service = .draining := hservice.imp_right And.left
    have hoccupied : (s.withGate l q).exitOccupied l = _ := (if_pos (by rw [withGate_gate]; exact hpassages)).trans
      (findIntrusion_first (q := q) (seg := .segmentX) hserves hleaf hcredits hpassages hopen hroom)
    rw [tracks_exit hturns, if_pos rfl]
    rw [tracked_kept hoccupied hlimits fun h _ _ => intruded hservice h]
    rw [reacted_closed (p := { q with intrusionOpen := true }) hlimits hleaf (noDemand hserves hcredits hpassages)]
    rfl
  · obtain ⟨hleaves, hexit⟩ := acceptBeam_still hsame
    obtain ⟨honly, hgate⟩ := laneChange_clean (s := s) (l := l) (base := s) (f := fun _ => s.withGate l q) (.withGate _ _ _)
      (by rw [withGate_gate]; exact hlimits) hclean
    refine ⟨_, beamExpiry_tracks hrunning htimer (tracks_none hleaves hexit), honly, ?_⟩
    rw [hgate, withGate_gate]
    rfl
  · obtain ⟨hleaves, hexit⟩ := acceptBeam_still hsame
    rw [beamExpiry_tracks hrunning htimer (tracks_none hleaves hexit), tracked_kept (base := s) (r := q) rfl hlimits
      fun hservice hcredits hpassages => ?_, reacted_rest (q := q) hrest hlimits rfl hleaves]
    exact not_not.mp fun hphase => hdrained ⟨hservice, hcredits, hpassages, hphase⟩

/-! ### Passages are marked and settle -/

/-- The oldest unmarked passage is marked (R147). -/
theorem markOldest_first {pre post : List Passage} {x : Passage} (hpre : ∀ y ∈ pre, y.marked = true) (hx : x.marked = false) :
    markOldest (pre ++ x :: post) = pre ++ { x with marked := true } :: post := by
  induction pre with
  | nil => rw [List.nil_append, markOldest, if_neg (by rw [hx]; exact Bool.false_ne_true)]; rfl
  | cons y ys ih =>
    obtain ⟨hy, hys⟩ := List.forall_mem_cons.mp hpre
    rw [List.cons_append, markOldest, if_pos hy, ih hys]
    rfl

theorem takeInUse_first {pre post : List Credit} {c : Credit} (hpre : ∀ y ∈ pre, ¬(y.inUse = true ∧ y.serial = c.serial))
    (hc : c.inUse = true) : takeInUse c.serial (pre ++ c :: post) = some (pre ++ post) := by
  induction pre with
  | nil => rw [List.nil_append, takeInUse, if_pos (by rw [hc]; simp)]; rfl
  | cons y ys ih =>
    obtain ⟨hy, hys⟩ := List.forall_mem_cons.mp hpre
    rw [List.cons_append, takeInUse, if_neg (by simpa using hy), ih hys]
    rfl

theorem returnInUse_first {pre post : List Credit} {c : Credit} (hpre : ∀ y ∈ pre, ¬(y.inUse = true ∧ y.serial = c.serial))
    (hc : c.inUse = true) (lapse : Nat) :
    returnInUse c.serial lapse (pre ++ c :: post) = pre ++ { c with inUse := false, lapse := some lapse } :: post := by
  induction pre with
  | nil => rw [List.nil_append, returnInUse, if_pos (by rw [hc]; simp)]; rfl
  | cons y ys ih =>
    obtain ⟨hy, hys⟩ := List.forall_mem_cons.mp hpre
    rw [List.cons_append, returnInUse, if_neg (by simpa using hy), ih hys]
    rfl

/-- One passage settles as R148 gives. -/
theorem settleOne_settles {p : Passages} {x : Passage} {cs : List Credit} {st : Stats} (h : Settles p x cs st) :
    p.settleOne x = { p with credits := cs, stats := st } := by
  rcases h with ⟨hnone, rfl, rfl⟩ | ⟨pre, c, post, hcredits, hpre, hc, hserial, hmarked, hunmarked⟩
  · unfold Passages.settleOne
    rw [hnone]
    cases x.marked <;> rfl
  · unfold Passages.settleOne
    rw [hserial]
    cases hx : x.marked
    · obtain ⟨rfl, rfl⟩ := hunmarked hx
      rw [← returnInUse_first hpre hc, ← hcredits]
    · obtain ⟨rfl, rfl⟩ := hmarked hx
      dsimp only
      rw [hcredits, takeInUse_first hpre hc]
      rfl

theorem settles_congr {p q : Passages} (hcredits : q.credits = p.credits) (hstats : q.stats = p.stats) (hconfig : q.config = p.config)
    {x : Passage} {cs : List Credit} {st : Stats} (h : Settles p x cs st) : Settles q x cs st := by
  unfold Settles
  rw [hcredits, hstats, hconfig]
  exact h

theorem settlesAll_congr {p q : Passages} (hcredits : q.credits = p.credits) (hstats : q.stats = p.stats) (hconfig : q.config = p.config)
    {xs : List Passage} {cs : List Credit} {st : Stats} (h : SettlesAll p xs cs st) : SettlesAll q xs cs st := by
  induction xs generalizing p q with
  | nil =>
    obtain ⟨rfl, rfl⟩ := h
    exact ⟨hcredits.symm, hstats.symm⟩
  | cons x xs ih =>
    obtain ⟨c, t, hfirst, hrest⟩ := h
    exact ⟨c, t, settles_congr hcredits hstats hconfig hfirst, ih (p := { p with credits := c, stats := t }) (q := { q with credits := c, stats := t }) rfl rfl hconfig hrest⟩

theorem foldl_settles {p : Passages} {xs : List Passage} {cs : List Credit} {st : Stats} (h : SettlesAll p xs cs st) :
    xs.foldl Passages.settleOne p = { p with credits := cs, stats := st } := by
  induction xs generalizing p with
  | nil =>
    obtain ⟨rfl, rfl⟩ := h
    rfl
  | cons x xs ih =>
    obtain ⟨c, t, hfirst, hrest⟩ := h
    rw [List.foldl_cons, settleOne_settles hfirst, ih hrest]

/-- Every passage settles, oldest first (R148). -/
theorem settle_settles {p : Passages} {cs : List Credit} {st : Stats} (h : SettlesAll p p.passages cs st) :
    p.settle = { p with
      credits := cs
      passages := []
      latch := false
      intrusionOpen := false
      stats := st } := by
  rw [Passages.settle, foldl_settles h]
  rfl

theorem settleOne_changes (p : Passages) (x : Passage) :
    p.settleOne x = { p with credits := (p.settleOne x).credits, stats := (p.settleOne x).stats } := by
  unfold Passages.settleOne
  split
  · split <;> rfl
  all_goals rfl

/-- Settling changes the credits and the statistics, and ends every passage, the latch and the intrusion episode. -/
theorem settle_changes (p : Passages) : p.settle = { p with
    credits := p.settle.credits
    passages := []
    latch := false
    intrusionOpen := false
    stats := p.settle.stats } := by
  have fold (xs : List Passage) (q : Passages) : xs.foldl Passages.settleOne q = { q with
      credits := (xs.foldl Passages.settleOne q).credits
      stats := (xs.foldl Passages.settleOne q).stats } := by
    induction xs generalizing q with
    | nil => rfl
    | cons x xs ih => rw [List.foldl_cons, ih, settleOne_changes]
  rw [Passages.settle, fold p.passages p]
  rfl

theorem settle_limits {p : Passages} (h : LimitsAgree p) : LimitsAgree p.settle := by
  rw [settle_changes]
  exact h

/-- The controller with its obstruction ended (R151). -/
def Passages.unobstructed (p : Passages) : Passages := { p with obstruction := none, obstructionReported := false }

/-- L becomes clear, the templates undamaged (R147, R148, R151). -/
theorem leavesClear_clean {s : State} (hclean : DisplayClean s) (l : Lane) (q : Passages) :
    ∃ i, (s.withGate l q).leavesClear l = (s.withGate l (if q.occ .exit = true
      then { q.unobstructed with passages := markOldest q.passages } else q.unobstructed.settle)).withInd l i := by
  have hended : (s.withGate l q).modGate l (fun p => { p with obstruction := none, obstructionReported := false })
      = s.withGate l q.unobstructed := by
    rw [modGate_eq, withGate_gate, withGate_withGate]
    rfl
  have hended' : ∃ i, (if q.obstructionReported = true then (s.withGate l q.unobstructed).indicateObstruction l false
      else s.withGate l q.unobstructed) = (s.withGate l q.unobstructed).withInd l i := by
    split
    · unfold State.indicateObstruction
      rw [if_neg (by decide), modInd_eq]
      dsimp only
      rw [compose_withInd (by exact hclean)]
      split
      · exact ⟨_, rfl⟩
      · exact ⟨_, rfl⟩
    · exact ⟨_, (withInd_self rfl).symm⟩
  obtain ⟨i, hi⟩ := hended'
  refine ⟨i, ?_⟩
  unfold State.leavesClear
  dsimp only
  rw [hended, withGate_gate, hi, modGate_eq, withInd_gate, withGate_gate, withInd_withGate, withGate_withGate]
  rfl

/-- A lane after a change that the tracker has taken, its indicator with it. -/
theorem tracked_clean {s t : State} {l : Lane} {i : Indicator} {r : Passages} (hclean : DisplayClean s)
    (ht : t = (s.withGate l r).withInd l i) (hlimits : LimitsAgree r) : OnlyLane s (s.laneChange l fun _ => t) l
      ∧ (s.laneChange l fun _ => t).gate l = { reacted (s.gate l) r with service := drainedService r (s.tap l).phase } := by
  have hgate : t.gate l = r := by rw [ht, withInd_gate, withGate_gate]
  obtain ⟨honly, hafter⟩ := laneChange_clean (s := s) (base := s) (l := l) (f := fun _ => t)
    (by rw [ht]; exact (OnlyLane.withGate _ _ _).trans (.withInd _ _ _)) (by rw [hgate]; exact hlimits) hclean
  rw [hgate] at hafter
  exact ⟨honly, hafter⟩

/-- Settles O43: a mark while one of the segments is occupied, the settling of every passage when both are clear. -/
theorem clearSegmentsMarkAndSettlePassages : Obligations.ClearSegmentsMarkAndSettlePassages := by
  intro s l b hlimits hclean p q lClears ended
  have hended (h : segmentOf b ≠ .leaves) : ended q = q := if_neg h
  have hended' (h : segmentOf b = .leaves) : ended q = q.unobstructed := if_pos h
  have exitKept (h : lClears) : q.occ .exit = p.occ .exit := acceptBeam_occ_other p (by rw [h.2.2.1]; decide)
  have leavesKept {after : Bool} (h : BeamTurns s l b .exit after) : q.occ .leaves = p.occ .leaves :=
    acceptBeam_occ_other p (by rw [h.2.2.1]; decide)
  have marks (h : BeamTurns s l b .exit true ∨ (lClears ∧ p.occ .exit = true)) (hne : p.passages ≠ []) :
      ∃ t i, exec (.beamDebounceExpiry l b) s = .next (s.laneChange l fun _ => t)
        ∧ t = (s.withGate l { ended q with passages := markOldest p.passages }).withInd l i := by
    rcases h with h | ⟨h, hexit⟩
    · refine ⟨_, s.ind l, tracks_exit h, ?_⟩
      rw [if_pos rfl, hended (by rw [h.2.2.1]; decide), withInd_self (by rw [withGate_ind])]
      refine (if_neg (by rw [withGate_gate]; exact hne)).trans ?_
      rw [modGate_eq, withGate_gate, withGate_withGate]
      rfl
    · obtain ⟨i, hi⟩ := leavesClear_clean hclean l q
      rw [exitKept h, if_pos hexit] at hi
      refine ⟨_, i, tracks_leaves h, ?_⟩
      rw [if_neg (by decide), hended' h.2.2.1]
      exact hi
  have settles (h : (BeamTurns s l b .exit false ∧ p.occ .leaves = false) ∨ (lClears ∧ p.occ .exit = false)) :
      ∃ t i, exec (.beamDebounceExpiry l b) s = .next (s.laneChange l fun _ => t)
        ∧ t = (s.withGate l (ended q).settle).withInd l i := by
    rcases h with ⟨h, hleaves⟩ | ⟨h, hexit⟩
    · refine ⟨_, s.ind l, tracks_exit h, ?_⟩
      rw [if_neg (by decide), hended (by rw [h.2.2.1]; decide), withInd_self (by rw [withGate_ind]), State.exitClear, modGate_eq,
        withGate_gate, withGate_withGate, show (s.gate l).acceptBeam b = q from rfl, leavesKept h, hleaves]
      rfl
    · obtain ⟨i, hi⟩ := leavesClear_clean hclean l q
      rw [exitKept h, hexit, if_neg (by decide)] at hi
      refine ⟨_, i, tracks_leaves h, ?_⟩
      rw [if_neg (by decide), hended' h.2.2.1]
      exact hi
  have hlimits' : LimitsAgree (ended q) := by
    unfold ended
    split <;> exact hlimits
  refine ⟨fun h pre x post hpassages hpre hx => ?_, fun h => ⟨?_, fun cs st hall => ?_⟩⟩
  · obtain ⟨t, i, hrun, ht⟩ := marks h (by rw [hpassages]; simp)
    rw [hpassages, markOldest_first hpre hx] at ht
    obtain ⟨honly, hgate⟩ := tracked_clean hclean ht hlimits'
    refine ⟨_, hrun, honly, hgate.trans ?_⟩
    rw [drainedService_kept fun _ _ => by simp]
    rfl
  · obtain ⟨t, i, hrun, ht⟩ := settles h
    obtain ⟨honly, hgate⟩ := tracked_clean hclean ht (settle_limits hlimits')
    refine ⟨_, hrun, honly, ?_⟩
    rw [hgate]
    exact ⟨rfl, rfl, rfl⟩
  · obtain ⟨t, i, hrun, ht⟩ := settles h
    have hsettled := settle_settles (p := ended q) (cs := cs) (st := st) (by
      have hpassages : (ended q).passages = p.passages := by unfold ended; split <;> rfl
      rw [hpassages]
      refine settlesAll_congr ?_ ?_ ?_ hall <;> (unfold ended; split <;> rfl))
    rw [hsettled] at ht
    obtain ⟨honly, hgate⟩ := tracked_clean hclean ht hlimits'
    refine ⟨_, hrun, honly, hgate.trans ?_⟩
    have hservice : (ended q).service = p.service := by unfold ended; split <;> rfl
    unfold drainedService
    simp only [hservice, true_and]
    rfl

end Sys2Proof.Machine

end

/-! ## Chapter 7: LANE SERVICE -/

section

-- Proofs are checked in order: as one text the file would otherwise hold more waiting proofs than the check has memory for.
set_option Elab.async false

namespace Sys2Proof.Machine

open JournalProofs (answers_of_work)

/-! ### Lane numbers -/

theorem laneOf_none {b : Byte} (h : 3 < b.toNat) : laneOf b = none := dif_neg (by omega)

theorem laneOf_some {b : Byte} {l : Lane} (h : b.toNat = l.val) : laneOf b = some l := by
  unfold laneOf
  rw [dif_pos (by omega)]
  exact congrArg some (Fin.ext h)

/-! ### Changes of one lane beside records and events -/

theorem OnlyLane.raise {s t : State} {l : Lane} (h : OnlyLane s t l) (e : Event) : OnlyLane (s.raise e) (t.raise e) l := by
  obtain ⟨hframe, hothers, htap⟩ := h
  refine ⟨?_, hothers, htap⟩
  rw [← hframe]
  rfl

theorem OnlyLane.withRecord {s t : State} {l : Lane} (h : OnlyLane s t l) (r : JournalRecord) :
    OnlyLane (s.withRecord r) (t.withRecord r) l := by
  obtain ⟨hframe, hothers, htap⟩ := h
  refine ⟨?_, hothers, htap⟩
  rw [← hframe]
  rfl

theorem OnlyLane.withRecords {s t : State} {l : Lane} (h : OnlyLane s t l) (rs : List JournalRecord) :
    OnlyLane (s.withRecords rs) (t.withRecords rs) l := by
  induction rs generalizing s t with
  | nil => exact h
  | cons r rs ih => exact ih (h.withRecord r)

theorem jammed_only (s : State) (l : Lane) (p : Passages) (cause : FaultCause) :
    OnlyLane (State.raise (s.withRecords (cancelRecords l p.credits .fault)) (.laneFault l)) (s.jammed l p cause) l :=
  OnlyLane.raise ((OnlyLane.withGate _ _ _).trans (.withInd _ _ _)) _

theorem jammed_gate (s : State) (l : Lane) (p : Passages) (cause : FaultCause) : (s.jammed l p cause).gate l = jammedGate p cause := by
  rw [State.jammed]
  dsimp only
  rw [State.raise_gate, withInd_gate, withGate_gate]

theorem jammed_service {s : State} {l : Lane} {p : Passages} (h : p.service ≠ .fault) (cause : FaultCause) :
    ((s.jammed l p cause).ind l).service = .fault := by
  rw [State.jammed]
  dsimp only
  rw [State.raise_ind, withInd_ind, if_neg h, endedHold, refreshed_service]

/-! ### The leaf drive when both limits read asserted -/

theorem enterOpening_both {p : Passages} (h : p.enterOpening.2 = true) : p.bothLimits = true ∧ p.enterOpening.1 = p := by
  unfold Passages.enterOpening at h ⊢
  split at h
  next hboth => exact ⟨hboth, by rw [if_pos hboth]⟩
  next => split at h <;> exact Bool.noConfusion h

theorem enterClosing_both {p : Passages} (h : p.enterClosing.2 = true) : p.bothLimits = true ∧ p.enterClosing.1 = p := by
  unfold Passages.enterClosing at h ⊢
  split at h
  next hboth => exact ⟨hboth, by rw [if_pos hboth]⟩
  next => (repeat' split at h) <;> exact Bool.noConfusion h

theorem closeCheck_both {b p : Passages} (h : (b.closeCheck p).2 = true) : (b.closeCheck p).1 = p := by
  unfold Passages.closeCheck at h ⊢
  split at h
  next hclose =>
    rw [if_pos hclose]
    split at h
    next hlatched =>
      rw [if_pos hlatched]
      exact (enterClosing_both h).2
    next hlatched =>
      rw [if_neg hlatched]
      split at h
      next => exact Bool.noConfusion h
      next hdelay =>
        rw [if_neg hdelay]
        split at h
        next hzero =>
          rw [if_pos hzero]
          exact (enterClosing_both h).2
        next => exact Bool.noConfusion h
  next => exact Bool.noConfusion h

/-- Leaves that were to move when both limits were found asserted keep the duties of their latest movement (R135, R156). -/
theorem leafReact_both {b p : Passages} (h : (b.leafReact p).2 = true) (v : LeafState) :
    restingLeaf (b.leafReact p).1 v = restingLeaf p v := by
  unfold Passages.leafReact at h ⊢
  split at h
  · split at h
    next hdemand => rw [if_pos hdemand, (enterOpening_both h).2]
    next => exact Bool.noConfusion h
  · split at h
    next hends =>
      rw [if_pos hends, closeCheck_both h]
      rfl
    next hends => rw [if_neg hends, closeCheck_both h]
  · split at h
    next hshort => rw [if_pos hshort, (enterOpening_both h).2]
    next hshort => rw [if_neg hshort, closeCheck_both h]
  · split at h
    next hdemand => rw [if_pos hdemand, (enterOpening_both h).2]
    next hdemand =>
      rw [if_neg hdemand]
      split at h
      next hoccupied =>
        rw [if_pos hoccupied]
        split at h
        next hletin => rw [if_pos hletin, (enterOpening_both h).2]
        next => exact Bool.noConfusion h
      next hoccupied =>
        rw [if_neg hoccupied]
        split at h <;> exact Bool.noConfusion h
  · exact Bool.noConfusion h

theorem enterOpening_open {p : Passages} (h : p.enterOpening.2 = false) :
    p.enterOpening.1.leaf.state = .opening ∨ p.enterOpening.1.leaf.state = .opened := by
  unfold Passages.enterOpening at h ⊢
  split at h
  · exact Bool.noConfusion h
  next hboth =>
    rw [if_neg hboth]
    split
    · exact .inr rfl
    · exact .inl rfl

theorem closeCheck_demand {b p : Passages} (h : p.demand = true) :
    b.closeCheck p = ({ p with leaf := { p.leaf with closeDelay := none } }, false) := by
  unfold Passages.closeCheck
  rw [if_neg (by rw [closeCondition_iff, h]; exact fun hclose => nomatch hclose.1)]

/-- Leaves on demand come to be opening or open, unless they jam (R152, R153). -/
theorem leafReact_demand {b p : Passages} (hdemand : p.demand = true) (hstate : p.leaf.state ≠ .jammed)
    (hunjammed : (b.leafReact p).2 = false) : (reacted b p).leaf.state = .opening ∨ (reacted b p).leaf.state = .opened := by
  show (b.leafReact p).1.leaf.state = .opening ∨ (b.leafReact p).1.leaf.state = .opened
  unfold Passages.leafReact at hunjammed ⊢
  cases h : p.leaf.state <;> rw [h] at hunjammed <;> dsimp only at hunjammed ⊢
  · rw [if_pos hdemand] at hunjammed ⊢
    exact enterOpening_open hunjammed
  · rw [hdemand, Bool.not_true, Bool.and_false, if_neg Bool.false_ne_true, closeCheck_demand hdemand]
    exact .inl h
  · split
    next hshort =>
      rw [if_pos hshort] at hunjammed
      exact enterOpening_open hunjammed
    next =>
      rw [closeCheck_demand hdemand]
      exact .inr h
  · rw [if_pos hdemand] at hunjammed ⊢
    exact enterOpening_open hunjammed
  · exact absurd h hstate

theorem leafSettle_unjammed {s : State} {l : Lane} {b : Passages} (h : (b.leafReact (s.gate l)).2 = false) :
    s.leafSettle l b = s.withGate l (reacted b (s.gate l)) := by
  have hreact : b.leafReact (s.gate l) = (reacted b (s.gate l), false) := Prod.ext (leafReact_leaf b _) h
  rw [State.leafSettle, hreact, putLeaves_agree]

/-- Closing leaves without demand are where they were to go (R154, R155). -/
theorem reacted_closingLeaf {b p : Passages} (hlimits : LimitsAgree p) (hleaf : p.leaf = closingLeaf p) (hdemand : p.demand = false)
    (hleaves : b.occ .leaves = p.occ .leaves) : reacted b p = p := by
  unfold closingLeaf at hleaf
  split at hleaf
  · exact reacted_closed hlimits (by rw [hleaf]; rfl) hdemand
  · have hstate : p.leaf.state = .closing := by rw [hleaf]; split <;> rfl
    have hpaused : p.leaf.paused = p.occ .leaves := by
      rw [hleaf]
      split
      next h => exact h.symm
      next h => exact (Bool.not_eq_true _).mp h |>.symm
    rw [reacted, leafReact_closing hlimits hstate, hdemand, hleaves, hpaused, if_neg (by decide), if_neg fun h => by simp [h.1] at h,
      if_neg fun h => by simp [h.1] at h]

/-! ### A lane takes a service state from the host -/

/-- The passage controller told its service state, its fault cause cleared (R137 to R139). -/
def Passages.told (p : Passages) (v : Service) : Passages := { p with service := v, faultCause := none }

/-- JAMMED leaves commanded to open by HOLD_OPEN and to close by another request; other leaves as they are (R137 to R139, R156). -/
def freedLeaf (p : Passages) (v : Service) : Leaf :=
  if p.leaf.state ≠ .jammed then p.leaf else if v = .heldOpen then openingLeaf p else closingLeaf p

theorem freedLeaf_state {p : Passages} {v : Service} : (freedLeaf p v).state ≠ .jammed := by
  unfold freedLeaf
  split
  next h => exact h
  · split
    · unfold openingLeaf
      split <;> exact LeafState.noConfusion
    · unfold closingLeaf
      (repeat' split) <;> exact LeafState.noConfusion

/-- The passage controller told its service state, its JAMMED leaves commanded to move. -/
def Passages.freed (p : Passages) (v : Service) : Passages := { p.told v with leaf := freedLeaf p v }

theorem freed_still {p : Passages} (h : p.leaf.state ≠ .jammed) (v : Service) : p.freed v = p.told v := by
  rw [Passages.freed, freedLeaf, if_pos h]
  rfl

theorem freed_jammed {p : Passages} (h : p.leaf.state = .jammed) (hlimits : LimitsAgree p) (v : Service) :
    (if v = .heldOpen then (p.told v).enterOpening else (p.told v).enterClosing) = (p.freed v, false) := by
  have hlimits' : LimitsAgree (p.told v) := hlimits
  rw [enterOpening_agree hlimits', enterClosing_agree hlimits', Passages.freed, freedLeaf, if_neg (not_not_intro h)]
  split <;> rfl

theorem told_shown {s : State} (hclean : DisplayClean s) (l : Lane) (v : Service) :
    (s.modGate l fun p => { p with faultCause := none }).setService l v
      = (s.withGate l ((s.gate l).told v)).withInd l (serviceShown s.display (s.ind l) v) := by
  rw [setService_clean (by exact hclean), modGate_eq, withGate_gate, withGate_withGate, withGate_ind]
  rfl

/-- The host's service state reaches a lane whose leaves do not jam: the leaf drive takes it, then the draining test. -/
theorem hostService_moves {s : State} {l : Lane} {v : Service} (hclean : DisplayClean s)
    (hfree : (s.gate l).leaf.state = .jammed → LimitsAgree (s.gate l))
    (hreact : ((s.gate l).leafReact ((s.gate l).freed v)).2 = false) : ∃ i, s.hostService l v
        = (s.withGate l { reacted (s.gate l) ((s.gate l).freed v) with
            service := drainedService ((s.gate l).freed v) (s.tap l).phase }).withInd l i
      ∧ i.service = drainedService ((s.gate l).freed v) (s.tap l).phase := by
  let r := (s.gate l).freed v
  let told := serviceShown s.display (s.ind l) v
  let shown := (s.withGate l ((s.gate l).told v)).withInd l told
  have hshown : shown.gate l = (s.gate l).told v := by rw [withInd_gate, withGate_gate]
  have hfreed : (if (s.gate l).leaf.state = .jammed then
      shown.putLeaves l (if v = .heldOpen then (shown.gate l).enterOpening else (shown.gate l).enterClosing) else shown)
      = (s.withGate l r).withInd l told := by
    split
    next hjammed =>
      rw [hshown, freed_jammed hjammed (hfree hjammed), putLeaves_agree, withInd_withGate, withGate_withGate]
    next hjammed => rw [show r = (s.gate l).told v from freed_still hjammed v]
  have hsettled : s.hostService l v = ((s.withGate l (reacted (s.gate l) r)).withInd l told).drainCheck l := by
    unfold State.hostService
    dsimp only
    rw [told_shown hclean, hfreed, leafSettle_unjammed (by rw [withInd_gate, withGate_gate]; exact hreact), withInd_gate,
      withGate_gate, withInd_withGate, withGate_withGate]
  obtain ⟨i, hi, hservice⟩ := drainCheck_clean (s := (s.withGate l (reacted (s.gate l) r)).withInd l told) hclean l
  simp only [withInd_gate, withGate_gate, withInd_tap, withGate_tap, withInd_withGate, withGate_withGate, withInd_withInd] at hi
  simp only [withInd_gate, withGate_gate, withInd_tap, withGate_tap, withInd_ind] at hservice
  exact ⟨i, hsettled.trans hi, hservice (serviceShown_service _ _ _)⟩

/-- The host's service state reaches a lane whose leaves are to move while both limits read asserted: they jam (R156). -/
theorem hostService_jams {s : State} {l : Lane} {v : Service} (hclean : DisplayClean s) (hv : v ≠ .emergencyOpen)
    (hboth : (s.gate l).bothLimits = true)
    (hmoves : (s.gate l).leaf.state = .jammed ∨ ((s.gate l).leafReact ((s.gate l).told v)).2 = true)
    (hrooms : HasRooms s (s.gate l).credits.length) : ∃ q i, restingLeaf q .jammed = restingLeaf (s.gate l) .jammed
      ∧ q = { (s.gate l).told v with leaf := q.leaf }
      ∧ s.hostService l v = ((s.withGate l ((s.gate l).told v)).withInd l i).jammed l q .bothLimits := by
  let told := serviceShown s.display (s.ind l) v
  let shown := (s.withGate l ((s.gate l).told v)).withInd l told
  have hshown : shown.gate l = (s.gate l).told v := by rw [withInd_gate, withGate_gate]
  have hjam {q : Passages} (hq : q = { (s.gate l).told v with leaf := q.leaf }) :
      shown.putLeaves l (q, true) = shown.jammed l q .bothLimits := by
    have hservice : q.service = v := by rw [hq]; rfl
    have hcredits : q.credits = (s.gate l).credits := by rw [hq]; rfl
    have hrooms' : HasRooms (shown.withGate l q) q.credits.length := by rw [hcredits]; exact hrooms
    refine (jam_faults (s := shown.withGate l q) ?_ hclean ?_ _).trans ?_
    · rw [withGate_gate, hservice]
      exact hv
    · rw [withGate_gate]
      exact hrooms'
    · rw [withGate_gate, jammed_withGate]
  have hdrain (q : Passages) : (shown.jammed l q .bothLimits).drainCheck l = shown.jammed l q .bothLimits :=
    drainCheck_kept (by rw [jammed_gate]; exact fun h => nomatch h.1)
  have hhost {t : State} (ht : (if (s.gate l).leaf.state = .jammed then
      shown.putLeaves l (if v = .heldOpen then (shown.gate l).enterOpening else (shown.gate l).enterClosing) else shown) = t) :
      s.hostService l v = (t.leafSettle l (s.gate l)).drainCheck l := by
    unfold State.hostService
    dsimp only
    rw [told_shown hclean, ht]
  by_cases hjammed : (s.gate l).leaf.state = .jammed
  · have hboth' : (if v = .heldOpen then (shown.gate l).enterOpening else (shown.gate l).enterClosing)
        = ((s.gate l).told v, true) := by
      have hlimits : ((s.gate l).told v).bothLimits = true := hboth
      rw [hshown, Passages.enterOpening, Passages.enterClosing, if_pos hlimits, if_pos hlimits, ite_self]
    have hstill : (shown.jammed l ((s.gate l).told v) .bothLimits).leafSettle l (s.gate l)
        = shown.jammed l ((s.gate l).told v) .bothLimits := by
      have hstate : ((shown.jammed l ((s.gate l).told v) .bothLimits).gate l).leaf.state = .jammed := by rw [jammed_gate]; rfl
      rw [State.leafSettle, leafReact_jammed hstate, putLeaves_agree, withGate_self rfl]
    refine ⟨(s.gate l).told v, told, rfl, rfl, ?_⟩
    rw [hhost ((if_pos hjammed).trans (by rw [hboth', hjam rfl])), hstill, hdrain]
  · have hreact := hmoves.resolve_left hjammed
    have hreact' : (s.gate l).leafReact (shown.gate l) = (((s.gate l).leafReact ((s.gate l).told v)).1, true) := by
      rw [hshown]
      exact Prod.ext rfl hreact
    refine ⟨((s.gate l).leafReact ((s.gate l).told v)).1, told, leafReact_both hreact .jammed, leafReact_leaf _ _, ?_⟩
    rw [hhost (if_neg hjammed), State.leafSettle, hreact', hjam (leafReact_leaf _ _), hdrain]

/-! ### The three requests -/

/-- The effect of a LANE SERVICE request on its lane (R136). -/
def ServiceRequest.work : ServiceRequest → State → Lane → Option Reason × State
  | .into => State.serviceIn
  | .out => State.serviceOut
  | .holdOpen => State.serviceHoldOpen

theorem serviceWork_refused {q : ServiceRequest} {s : State} {l : Lane} {r : Reason}
    (h : q.refusal (s.gate l).service (s.gate l).configured s.emergency.accepted = some r) : q.work s l = (some r, s) := by
  unfold ServiceRequest.refusal at h
  split at h
  next hline =>
    obtain rfl := Option.some_inj.mp h
    cases q <;> exact if_pos hline
  next hline =>
    split at h
    next hconfigured =>
      obtain rfl := Option.some_inj.mp h
      obtain ⟨hq, hnone⟩ := hconfigured
      have hunset : (!(s.gate l).configured) = true := by rw [hnone]; rfl
      cases q
      · exact (if_neg hline).trans (if_pos hunset)
      · exact absurd rfl hq
      · exact (if_neg hline).trans (if_pos hunset)
    next hconfigured =>
      split at h
      next hfault =>
        obtain rfl := Option.some_inj.mp h
        obtain ⟨rfl, hservice⟩ := hfault
        have hset : (s.gate l).configured = true := by simpa using hconfigured
        refine (if_neg hline).trans ((if_neg (by rw [hset]; decide)).trans ?_)
        rw [hservice]
      next => exact nomatch h

/-- A LANE SERVICE request that is not refused changes nothing, or hands its state to the lane (R137 to R139). -/
theorem serviceWork_allowed {q : ServiceRequest} {s : State} {l : Lane}
    (h : q.refusal (s.gate l).service (s.gate l).configured s.emergency.accepted = none) :
    (q.idle (s.gate l).service → q.work s l = (none, s))
      ∧ (¬q.idle (s.gate l).service → q.work s l = (none, s.hostService l q.asks)) := by
  unfold ServiceRequest.refusal at h
  have hline : ¬((s.gate l).service = .emergencyOpen ∧ s.emergency.accepted = true) := fun hline => by simp [hline] at h
  rw [if_neg hline] at h
  cases q
  case out =>
    have hwork : ServiceRequest.out.work s l = _ := if_neg hline
    rw [hwork]
    cases (s.gate l).service <;> simp [ServiceRequest.idle, ServiceRequest.asks]
  case into =>
    have hset : (s.gate l).configured = true := by simpa using h
    have hwork : ServiceRequest.into.work s l = _ := (if_neg hline).trans (if_neg (by rw [hset]; decide))
    rw [hwork]
    cases (s.gate l).service <;> simp [ServiceRequest.idle, ServiceRequest.asks]
  case holdOpen =>
    have hset : (s.gate l).configured = true := by
      by_contra hunset
      rw [(Bool.not_eq_true _).mp hunset] at h
      simp at h
    have hfault : (s.gate l).service ≠ .fault := fun hfault => by simp [hset, hfault] at h
    have hwork : ServiceRequest.holdOpen.work s l = _ := (if_neg hline).trans (if_neg (by rw [hset]; decide))
    rw [hwork]
    revert hfault
    clear h hline hwork
    cases (s.gate l).service <;> simp [ServiceRequest.idle, ServiceRequest.asks]

theorem withRecords_link (s : State) (rs : List JournalRecord) : (s.withRecords rs).link = s.link := by
  induction rs generalizing s with
  | nil => rfl
  | cons r rs ih => exact ih (s.withRecord r)

theorem OnlyLane.link {s t : State} {l : Lane} (h : OnlyLane s t l) : t.link = s.link := by rw [← h.1]

theorem asks_cases (q : ServiceRequest) : q.asks ≠ .fault ∧ q.asks ≠ .emergencyOpen ∧ (q.asks = .draining ↔ q = .out)
    ∧ (q.asks = .heldOpen ↔ q = .holdOpen) := by
  cases q <;> simp [ServiceRequest.asks]

theorem closingLeaf_again {p r : Passages} (hlimit : r.closedLimit = p.closedLimit) (hleaves : r.occ .leaves = p.occ .leaves)
    (hconfig : r.config = p.config) (hleaf : r.leaf = closingLeaf p) : r.leaf = closingLeaf r := by
  unfold closingLeaf at hleaf ⊢
  rw [hlimit, hleaves]
  split
  next hclosed =>
    rw [if_pos hclosed] at hleaf
    rw [restingLeaf, hleaf]
    rfl
  next hclosed =>
    rw [if_neg hclosed] at hleaf
    split
    next hoccupied =>
      rw [if_pos hoccupied] at hleaf
      rw [hleaf]
    next hoccupied =>
      rw [if_neg hoccupied] at hleaf
      rw [hleaf, movingLeaf, movingLeaf, hconfig]

/-- Settles O39: the table of R137 to R139, then the leaves and the draining test. -/
theorem laneServiceFollowsItsTable : Obligations.LaneServiceFollowsItsTable := by
  intro q s lane hserving
  have hexec : exec (q.command lane) s = .next (s.hostServe 0x06 (q.command lane) fun s => s.laneService lane q.work) := by
    cases q <;> rfl
  have serves {a : Answer} {u : State} (hwork : s.laneService lane q.work = (a, u)) (hlink : u.link = s.link) :
      Answers (q.command lane) s 0x06 a u := answers_of_work hserving hexec hwork hlink
  refine ⟨fun hlane => ?_, fun l hlane => ?_⟩
  · refine serves (a := badRequest) ?_ rfl
    rw [State.laneService, laneOf_none hlane]
  intro p refusal jams
  obtain ⟨hfault, hemergency, hout, hhold⟩ := asks_cases q
  have grants {u : State} (hwork : q.work s l = (none, u)) (hlink : u.link = s.link) :
      Answers (q.command lane) s 0x06 ⟨.ok, none, []⟩ u := by
    refine serves ?_ hlink
    rw [State.laneService, laneOf_some hlane]
    dsimp only
    rw [hwork]
    rfl
  refine ⟨fun r hrefused => ?_, fun hallowed hidle => grants ((serviceWork_allowed hallowed).1 hidle) rfl,
    fun hallowed hidle hclean hjams hrooms => ?_, fun hallowed hidle hclean hjams => ?_⟩
  · refine serves ?_ rfl
    rw [State.laneService, laneOf_some hlane]
    dsimp only
    rw [serviceWork_refused hrefused]
    rfl
  · obtain ⟨r, i, hresting, hr, hhost⟩ := hostService_jams hclean hemergency hjams.1 hjams.2 hrooms
    have hcredits : r.credits = p.credits := by rw [hr]; rfl
    have htold : OnlyLane s ((s.withGate l (p.told q.asks)).withInd l i) l := (OnlyLane.withGate _ _ _).trans (.withInd _ _ _)
    have honly : OnlyLane (State.raise (s.withRecords (cancelRecords l p.credits .fault)) (.laneFault l)) (s.hostService l q.asks) l := by
      rw [hhost, ← hcredits]
      exact ((htold.withRecords _).raise _).trans (jammed_only _ _ _ _)
    refine ⟨_, grants ((serviceWork_allowed hallowed).2 hidle) (honly.link.trans (withRecords_link _ _)), honly, ?_, ?_⟩
    · rw [hhost, jammed_gate, jammedGate, hresting, hr]
      rfl
    · rw [hhost, jammed_service (by rw [hr]; exact hfault)]
  · intro freed
    have hfreed : freedLeaf p q.asks = freed := if_congr Iff.rfl rfl (if_congr hhold rfl rfl)
    have hfree : p.leaf.state = .jammed → LimitsAgree p := fun hjammed =>
      (Bool.not_eq_true _).mp fun hboth => hjams ⟨hboth, .inl hjammed⟩
    have hreact : (p.leafReact (p.freed q.asks)).2 = false := by
      by_cases hlimits : LimitsAgree p
      · rw [leafReact_agree (p := p.freed q.asks) hlimits]
      · have hboth : p.bothLimits = true := (Bool.not_eq_false _).mp hlimits
        have hstate : p.leaf.state ≠ .jammed := fun hjammed => hlimits (hfree hjammed)
        rw [freed_still hstate]
        exact (Bool.not_eq_true _).mp fun h => hjams ⟨hboth, .inr h⟩
    obtain ⟨i, hhost, hshown⟩ := hostService_moves hclean hfree hreact
    have honly : OnlyLane s (s.hostService l q.asks) l := hhost ▸ (OnlyLane.withGate _ _ _).trans (.withInd _ _ _)
    have hgate : (s.hostService l q.asks).gate l = { reacted p (p.freed q.asks) with
        service := drainedService (p.freed q.asks) (s.tap l).phase } := by rw [hhost, withInd_gate, withGate_gate]
    have hservice : ((s.hostService l q.asks).gate l).service = drainedService (p.freed q.asks) (s.tap l).phase := by rw [hgate]
    classical
    have hdrained : drainedService (p.freed q.asks) (s.tap l).phase = if q = .out ∧ Drained s l then .closed else q.asks :=
      if_congr (and_congr_left' hout) rfl rfl
    refine ⟨_, grants ((serviceWork_allowed hallowed).2 hidle) honly.link, honly, ⟨fun h => ?_, fun h => ?_⟩, ?_, ?_, fun h => ?_,
      fun h hjammed hletin => ?_⟩
    · rw [hservice, hdrained, if_pos h.symm]
    · rw [hservice, hdrained, if_neg (mt And.symm h)]
    · rw [hservice, hhost, withInd_ind, hshown]
    · rw [hgate, ← hfreed]
      rfl
    · rw [hgate]
      exact leafReact_demand (by rw [Passages.demand, show (p.freed q.asks).service = q.asks from rfl, hhold.mpr h]; rfl)
        freedLeaf_state hreact
    · have hdemand : (p.freed q.asks).demand = false := by
        have hletin' : (p.freed q.asks).letIn = false := hletin
        rw [Passages.demand, hletin', show (p.freed q.asks).service = q.asks from rfl]
        cases q
        · rfl
        · rfl
        · exact absurd rfl h
      have hleaf : freedLeaf p q.asks = closingLeaf p :=
        (if_neg (not_not_intro hjammed)).trans (if_neg (mt hhold.mp h))
      have hagain : (p.freed q.asks).leaf = closingLeaf (p.freed q.asks) := closingLeaf_again (p := p) rfl rfl rfl hleaf
      rw [hgate, show reacted p (p.freed q.asks) = _ from reacted_closingLeaf (hfree hjammed) hagain hdemand rfl]
      exact hleaf

end Sys2Proof.Machine

end

/-! ## Chapter 7: input levels and LANE CONFIG -/

section

-- Proofs are checked in order: as one text the file would otherwise hold more waiting proofs than the check has memory for.
set_option Elab.async false

namespace Sys2Proof.Machine

open JournalProofs (answers_of_work)

/-! ### Input levels -/

theorem inputLevel_eq (s : State) (i : Input) (high : Bool) (time : Nat) : s.inputLevel i high time
    = if s.phase ≠ .running then ⟨high, i.accepted, i.timer⟩
      else if i.high = high then i
      else ⟨high, i.accepted, if i.timer.isSome = true then none else some time⟩ := by
  unfold State.inputLevel Input.levelChange
  rw [ite_not]

/-- Settles O41: an input's level in and out of service, and the expiry of a timer that does not run. -/
theorem levelChangesRunTheDebounceTimer : Obligations.LevelChangesRunTheDebounceTimer := by
  intro s l b k high p taken
  have htaken (i : Input) (time : Nat) : s.inputLevel i high time = taken i time := inputLevel_eq s i high time
  refine ⟨?_, ?_, ?_, fun htimer => ?_, fun htimer => ?_⟩
  · rw [← htaken]
    rfl
  · rw [← htaken, ← htaken]
    cases k <;> rfl
  · rw [← htaken]
    rfl
  · exact congrArg _ (if_neg fun h => absurd h.2 (by rw [show ((s.gate l).beams.get b).timer = none from htimer]; exact Bool.false_ne_true))
  · exact congrArg _ (if_neg fun h => absurd h.2 (by rw [show ((s.gate l).limit k).timer = none from htimer]; exact Bool.false_ne_true))

/-! ### The settings of LANE CONFIG -/

theorem settingsBad_iff (x : LaneSettings) : settingsBad x = true ↔ 1 < x.kind.toNat ∨ 1 < x.polarity.toNat ∨ 1000 < x.startDuty.toNat
    ∨ 1000 < x.runDuty.toNat ∨ 1000 < x.holdDuty.toNat ∨ 63 < x.mask.toNat := by
  simp [settingsBad, or_assoc, Nat.succ_le_iff, show 64 = 63 + 1 from rfl]

theorem maskBlind_iff (m : Byte) : maskBlind (m.truncate 6) = true ↔ m &&& 3 = 3 ∨ m &&& 12 = 12 ∨ m &&& 48 = 48 := by
  revert m
  decide

theorem clamped_iff (lo hi n : Nat) (h : lo ≤ hi) : clampNat lo hi n = n ↔ lo ≤ n ∧ n ≤ hi := by
  unfold clampNat
  omega

theorem settingsClamped_iff (x : LaneSettings) : settingsClamped x = true
    ↔ ¬((2 ≤ x.creditLapse.toNat ∧ x.creditLapse.toNat ≤ 20) ∧ x.closeDelay.toNat ≤ 2000
      ∧ (300 ≤ x.leafTravel.toNat ∧ x.leafTravel.toNat ≤ 3000) ∧ (10 ≤ x.obstruction.toNat ∧ x.obstruction.toNat ≤ 120)
      ∧ (5 ≤ x.debounce.toNat ∧ x.debounce.toNat ≤ 100) ∧ x.startPhase.toNat ≤ 500
      ∧ (500 ≤ x.indicatorHold.toNat ∧ x.indicatorHold.toNat ≤ 10000)) := by
  have changed (lo hi n : Nat) (h : lo ≤ hi) : (clampNat lo hi n != n) = true ↔ ¬(lo ≤ n ∧ n ≤ hi) := by
    rw [bne_iff_ne, Ne, clamped_iff lo hi n h]
  unfold settingsClamped appliedSettings
  simp only [Bool.or_eq_true, changed _ _ _ (show 2 ≤ 20 by decide), changed _ _ _ (show 0 ≤ 2000 by decide),
    changed _ _ _ (show 300 ≤ 3000 by decide), changed _ _ _ (show 10 ≤ 120 by decide), changed _ _ _ (show 5 ≤ 100 by decide),
    changed _ _ _ (show 0 ≤ 500 by decide), changed _ _ _ (show 500 ≤ 10000 by decide), not_and_or, or_assoc]
  simp only [Nat.zero_le, not_true, false_or]

/-! ### What LANE CONFIG leaves alone -/

/-- A closed lane at rest after a change of its beams: nothing but the lane, the events and the error counters has changed, and of the lane
neither its tap controller nor its configuration and its beams. -/
structure Settled (s t : State) (l : Lane) : Prop where
  frame : t = { s with lanes := t.lanes, events := t.events, ecc := t.ecc }
  others : ∀ k, k ≠ l → t.lane k = s.lane k
  tap : t.tap l = s.tap l
  config : (t.gate l).config = (s.gate l).config
  configured : (t.gate l).configured = (s.gate l).configured
  beams : (t.gate l).beams = (s.gate l).beams
  credits : (t.gate l).credits = (s.gate l).credits
  passages : (t.gate l).passages = (s.gate l).passages

theorem Settled.refl (s : State) (l : Lane) : Settled s s l := ⟨rfl, fun _ _ => rfl, rfl, rfl, rfl, rfl, rfl, rfl⟩

theorem Settled.trans {s t u : State} {l : Lane} (h : Settled s t l) (h' : Settled t u l) : Settled s u l where
  frame := by rw [h'.frame, h.frame]
  others k hk := (h'.others k hk).trans (h.others k hk)
  tap := h'.tap.trans h.tap
  config := h'.config.trans h.config
  configured := h'.configured.trans h.configured
  beams := h'.beams.trans h.beams
  credits := h'.credits.trans h.credits
  passages := h'.passages.trans h.passages

theorem Settled.withGate (s : State) (l : Lane) {p : Passages} (hconfig : p.config = (s.gate l).config)
    (hconfigured : p.configured = (s.gate l).configured) (hbeams : p.beams = (s.gate l).beams)
    (hcredits : p.credits = (s.gate l).credits) (hpassages : p.passages = (s.gate l).passages) : Settled s (s.withGate l p) l := by
  obtain ⟨-, hothers, htap⟩ := OnlyLane.withGate s l p
  exact ⟨rfl, hothers, htap, by rw [withGate_gate, hconfig], by rw [withGate_gate, hconfigured], by rw [withGate_gate, hbeams],
    by rw [withGate_gate, hcredits], by rw [withGate_gate, hpassages]⟩

theorem Settled.withInd (s : State) (l : Lane) (i : Indicator) : Settled s (s.withInd l i) l := by
  obtain ⟨-, hothers, htap⟩ := OnlyLane.withInd s l i
  have hgate := withInd_gate s l l i
  exact ⟨rfl, hothers, htap, by rw [hgate], by rw [hgate], by rw [hgate], by rw [hgate], by rw [hgate]⟩

theorem Settled.raise (s : State) (l : Lane) (e : Event) : Settled s (s.raise e) l :=
  ⟨rfl, fun _ _ => rfl, rfl, rfl, rfl, rfl, rfl, rfl⟩

theorem compose_settled (s : State) (l : Lane) : Settled s (s.compose l) l := by
  have hread : Settled s (s.readFrame l).2 l := by
    rw [State.readFrame_keeps]
    exact ⟨rfl, fun _ _ => rfl, rfl, rfl, rfl, rfl, rfl, rfl⟩
  exact hread.trans (.withInd _ l _)

theorem indicateService_settled (s : State) (l : Lane) (v : Service) : Settled s (s.indicateService l v) l := by
  unfold State.indicateService
  cases v <;> dsimp only
  case emergencyOpen | fault => exact ((Settled.withInd _ l _).trans (.withInd _ l _)).trans (compose_settled _ l)
  all_goals
    split
    · exact .withInd _ l _
    · exact (Settled.withInd _ l _).trans (compose_settled _ l)

theorem setService_settled (s : State) (l : Lane) (v : Service) : Settled s (s.setService l v) l :=
  (Settled.withGate s l (p := { s.gate l with service := v }) rfl rfl rfl rfl rfl).trans (indicateService_settled _ l v)

theorem indicateObstruction_settled (s : State) (l : Lane) (started : Bool) : Settled s (s.indicateObstruction l started) l := by
  unfold State.indicateObstruction
  split
  · exact (Settled.withInd _ l _).trans (compose_settled _ l)
  · dsimp only
    split
    · exact .withInd _ l _
    · exact (Settled.withInd _ l _).trans (compose_settled _ l)

/-- A jam of a lane that holds no credit and no passage changes nothing outside the lane but events and counters (R156). -/
theorem jam_settled {s : State} {l : Lane} (hcredits : (s.gate l).credits = []) (hpassages : (s.gate l).passages = []) (cause : FaultCause) :
    Settled s (s.jam l cause) l := by
  let still := (s.withGate l { (s.gate l).rest .jammed with faultCause := some cause }).raise (.laneFault l)
  have hrested : Settled s (s.withGate l { (s.gate l).rest .jammed with faultCause := some cause }) l :=
    .withGate s l rfl rfl rfl rfl rfl
  have hstill : Settled s still l := hrested.trans (.raise _ l _)
  have hnone : (still.gate l).credits = [] := hstill.credits.trans hcredits
  have hcancelled : Settled still ((still.cancelCredits l .fault).modGate l Passages.discard) l := by
    unfold State.cancelCredits
    dsimp only
    rw [hnone, List.foldl_nil, modGate_eq, modGate_eq, withGate_gate, withGate_withGate]
    exact .withGate still l rfl rfl rfl hnone.symm (hstill.passages.trans hpassages).symm
  unfold State.jam
  dsimp only
  split
  · exact hstill
  · split
    · exact hstill.trans hcancelled
    · exact (hstill.trans hcancelled).trans (setService_settled _ l .fault)

theorem jam_closed {s : State} {l : Lane} (hservice : (s.gate l).service = .closed) (cause : FaultCause) :
    ((s.jam l cause).gate l).service = .fault := by
  unfold State.jam
  dsimp only
  rw [hservice, if_neg (by decide), if_neg (by decide), setService_gate_self]

/-! ### A closed lane with no credit and no passage -/

/-- A closed lane with no credit and no passage. -/
structure Passages.Empty (p : Passages) : Prop where
  service : p.service = .closed
  credits : p.credits = []
  passages : p.passages = []

theorem Settled.empty {s t : State} {l : Lane} (h : Settled s t l) (hs : (s.gate l).Empty)
    (hservice : (t.gate l).service = (s.gate l).service) : (t.gate l).Empty :=
  ⟨hservice.trans hs.service, h.credits.trans hs.credits, h.passages.trans hs.passages⟩

theorem settle_empty {p : Passages} (h : p.Empty) : p.settle = p.discard := by
  rw [Passages.settle, h.passages]
  rfl

theorem leavesOccupied_empty {s : State} {l : Lane} (h : (s.gate l).Empty) : s.leavesOccupied l = s.withGate l (s.gate l).timed := by
  have hnone : ¬((s.withGate l (s.gate l).timed).gate l).hasUnstarted = true := by
    rw [withGate_gate]
    exact hasUnstarted_none (q := s.gate l) (by rw [h.credits]; simp)
  have htimed : s.modGate l (fun p => { p with obstruction := some p.config.obstruction }) = s.withGate l (s.gate l).timed := rfl
  unfold State.leavesOccupied
  dsimp only
  rw [htimed, if_neg hnone, withGate_gate, show (s.gate l).timed.service = .closed from h.service]

theorem exitOccupied_empty {s : State} {l : Lane} (h : (s.gate l).Empty) : s.exitOccupied l = s := by
  unfold State.exitOccupied State.findIntrusion
  rw [if_pos h.passages]
  refine if_neg fun hfound => ?_
  rw [h.service] at hfound
  exact absurd hfound.1 (by decide)

theorem exitClear_empty {s : State} {l : Lane} (h : (s.gate l).Empty) :
    Settled s (s.exitClear l) l ∧ ((s.exitClear l).gate l).Empty := by
  have hsettle : (s.gate l).settle = (s.gate l).discard := settle_empty h
  have hclear : s.exitClear l = s.withGate l (if (s.gate l).occ .leaves = true then s.gate l else (s.gate l).discard) := by
    rw [State.exitClear, modGate_eq, hsettle]
  rw [hclear]
  split
  · rw [withGate_self rfl]
    exact ⟨.refl s l, h⟩
  · rw [withGate_gate]
    exact ⟨.withGate s l rfl rfl rfl rfl h.passages.symm, ⟨h.service, h.credits, rfl⟩⟩

theorem leavesClear_empty {s : State} {l : Lane} (h : (s.gate l).Empty) :
    Settled s (s.leavesClear l) l ∧ ((s.leavesClear l).gate l).Empty := by
  let ended := s.withGate l (s.gate l).unobstructed
  let shown := if (s.gate l).obstructionReported = true then ended.indicateObstruction l false else ended
  have hempty : (s.gate l).unobstructed.Empty := ⟨h.service, h.credits, h.passages⟩
  have hended : Settled s ended l := .withGate s l rfl rfl rfl rfl rfl
  have hshown : Settled ended shown l ∧ shown.gate l = (s.gate l).unobstructed := by
    unfold shown
    split
    · exact ⟨indicateObstruction_settled _ l false, by rw [indicateObstruction_gate, withGate_gate]⟩
    · exact ⟨.refl _ l, withGate_gate _ _ _⟩
  obtain ⟨hsettled, hgate⟩ := hshown
  have hclear : s.leavesClear l = shown.withGate l (if (s.gate l).unobstructed.occ .exit = true
      then { (s.gate l).unobstructed with passages := markOldest (s.gate l).unobstructed.passages }
      else (s.gate l).unobstructed.settle) := by
    rw [← hgate]
    rfl
  rw [hclear, settle_empty hempty, hempty.passages]
  have hempty' := hempty
  rw [← hgate] at hempty'
  split
  · rw [withGate_gate, ← hgate]
    exact ⟨(hended.trans hsettled).trans (.withGate _ l rfl rfl rfl rfl hempty'.passages.symm), ⟨hempty'.service, hempty'.credits, rfl⟩⟩
  · rw [withGate_gate, ← hgate]
    exact ⟨(hended.trans hsettled).trans (.withGate _ l rfl rfl rfl rfl hempty'.passages.symm), ⟨hempty'.service, hempty'.credits, rfl⟩⟩

theorem trackSegments_empty {s : State} {l : Lane} (h : (s.gate l).Empty) (b : Passages) :
    Settled s (s.trackSegments l b) l ∧ ((s.trackSegments l b).gate l).Empty := by
  have hexit (t : State) (ht : Settled s t l ∧ (t.gate l).Empty) (p : Passages) :
      Settled s (if b.occ .exit = p.occ .exit then t else if p.occ .exit = true then t.exitOccupied l else t.exitClear l) l
        ∧ ((if b.occ .exit = p.occ .exit then t else if p.occ .exit = true then t.exitOccupied l else t.exitClear l).gate l).Empty := by
    obtain ⟨hsettled, hempty⟩ := ht
    rw [exitOccupied_empty hempty]
    obtain ⟨hclear, hcleared⟩ := exitClear_empty hempty
    split
    · exact ⟨hsettled, hempty⟩
    · split
      · exact ⟨hsettled, hempty⟩
      · exact ⟨hsettled.trans hclear, hcleared⟩
  refine hexit _ ?_ _
  split
  · exact ⟨.refl s l, h⟩
  · split
    · rw [leavesOccupied_empty h, withGate_gate]
      exact ⟨.withGate s l rfl rfl rfl rfl rfl, ⟨h.service, h.credits, h.passages⟩⟩
    · exact leavesClear_empty h

/-- A change at a closed and empty lane: the leaf drive may jam its leaves, and there is nothing to drain (R138, R156). -/
theorem laneChange_empty {s : State} {l : Lane} {f : State → State} {base : State} (hf : Settled base (f s) l)
    (hempty : ((f s).gate l).Empty) : Settled base (s.laneChange l f) l := by
  obtain ⟨hservice, hcredits, hpassages⟩ := hempty
  let r := (s.gate l).leafReact ((f s).gate l)
  have hr : r.1 = { (f s).gate l with leaf := r.1.leaf } := leafReact_leaf _ _
  have hmoved : Settled (f s) ((f s).withGate l r.1) l :=
    .withGate _ l (by rw [hr]) (by rw [hr]) (by rw [hr]) (by rw [hr]) (by rw [hr])
  have hservice' : (((f s).withGate l r.1).gate l).service = .closed := by
    rw [withGate_gate, hr]
    exact hservice
  have hsettle : (f s).leafSettle l (s.gate l) = if r.2 = true then ((f s).withGate l r.1).jam l .bothLimits else (f s).withGate l r.1 := rfl
  unfold State.laneChange
  dsimp only
  rw [hsettle]
  split
  · rw [drainCheck_kept fun h => by rw [jam_closed hservice'] at h; exact nomatch h.1]
    exact (hf.trans hmoved).trans (jam_settled (hmoved.credits.trans hcredits) (hmoved.passages.trans hpassages) _)
  · rw [drainCheck_kept fun h => by rw [hservice'] at h; exact nomatch h.1]
    exact hf.trans hmoved

/-- CLOSED leaves without demand stand, whatever the limits. -/
theorem leafReact_still {b p : Passages} (hstate : p.leaf.state = .closed) (hdemand : p.demand = false) : b.leafReact p = (p, false) := by
  unfold Passages.leafReact
  rw [hstate]
  exact if_neg (by rw [hdemand]; exact Bool.false_ne_true)

theorem accept_eq (i : Input) (v : Polarity) :
    i.accept (blockedBy v i.high) = ⟨i.high, i.high == decide (v = .activeHigh), none⟩ := by
  cases v <;> cases hhigh : i.high <;> simp [Input.accept, blockedBy, hhigh]

theorem applyConfig_eq (p : Passages) (c : LaneConfig) : p.applyConfig c = { p with
    config := c
    configured := true
    beams := if c.polarity = p.config.polarity then p.beams
      else p.beams.map fun i => ⟨i.high, i.high == decide (c.polarity = .activeHigh), none⟩ } := by
  unfold Passages.applyConfig
  simp only [accept_eq]

/-- Settles O38: the checks of R134 in order, then the configuration. -/
theorem laneConfigReplacesTheConfigurationOfAClosedLane : Obligations.LaneConfigReplacesTheConfigurationOfAClosedLane := by
  intro s lane x hserving bad blind c inRange
  have hc : c = appliedSettings x := by simp [c, appliedSettings, clampNat]
  have serves {a : Answer} {u : State} (hwork : s.configureLane lane x = (a, u)) (hlink : u.link = s.link) :
      Answers (.laneConfig lane x) s 0x05 a u :=
    answers_of_work hserving (work := fun s => s.configureLane lane x) rfl hwork hlink
  refine ⟨fun hrefused => serves (a := badRequest) ?_ rfl, fun l hlane hgood => ?_⟩
  · unfold State.configureLane
    by_cases hlane : 3 < lane.toNat
    · rw [laneOf_none hlane]
    · rw [laneOf_some (l := ⟨lane.toNat, by omega⟩) rfl]
      exact if_pos ((settingsBad_iff x).mpr (hrefused.resolve_left hlane))
  intro p fresh q reply
  have hwork : s.configureLane lane x = if p.service ≠ .closed then (busy, s)
      else if maskBlind (x.mask.truncate 6) = true then (refused .segmentBlind, s)
      else (okClamped (settingsClamped x) (configBytes c), s.beamChange l fun p => p.applyConfig c) := by
    unfold State.configureLane
    rw [laneOf_some hlane, hc]
    exact if_neg (mt (settingsBad_iff x).mp hgood)
  refine ⟨fun hservice => serves (hwork.trans (if_pos hservice)) rfl, fun hservice hblind => ?_,
    fun hservice hblind hcredits hpassages => ?_⟩
  · refine serves (a := refused .segmentBlind) (hwork.trans ((if_neg (not_not_intro hservice)).trans (if_pos ?_))) rfl
    exact (maskBlind_iff x.mask).mpr hblind
  have hreply : okClamped (settingsClamped x) (configBytes c) = reply := by
    have hclamped : (if settingsClamped x = true then Status.clamped else .ok) = if inRange then .ok else .clamped := by
      by_cases hrange : inRange
      · rw [if_pos hrange, if_neg fun h => (settingsClamped_iff x).mp h hrange]
      · rw [if_neg hrange, if_pos ((settingsClamped_iff x).mpr hrange)]
    unfold okClamped
    rw [hclamped]
  have hq : p.applyConfig c = q := applyConfig_eq p c
  have hconfigured : s.configureLane lane x = (reply, s.beamChange l fun p => p.applyConfig c) := by
    rw [← hreply]
    exact hwork.trans ((if_neg (not_not_intro hservice)).trans (if_neg (mt (maskBlind_iff x.mask).mp hblind)))
  have hempty : (s.withGate l q).gate l |>.Empty := by
    rw [withGate_gate]
    exact ⟨hservice, hcredits, hpassages⟩
  have htracked : (s.modGate l fun p => p.applyConfig c).trackSegments l p = (s.withGate l q).trackSegments l p := by
    rw [modGate_eq, ← hq]
  refine ⟨?_, fun hclosed hleaves hexit => ?_⟩
  · obtain ⟨hsettled, hstays⟩ := trackSegments_empty hempty p
    have hchange : Settled (s.withGate l q) (s.beamChange l fun p => p.applyConfig c) l := by
      unfold State.beamChange
      dsimp only
      exact laneChange_empty (by rw [htracked]; exact hsettled) (by rw [htracked]; exact hstays)
    obtain ⟨hframe, hothers, htap, hconfig, hset, hbeams, -, -⟩ := hchange
    obtain ⟨-, hothers', htap'⟩ := OnlyLane.withGate s l q
    rw [withGate_gate] at hconfig hset hbeams
    refine ⟨_, serves hconfigured (by rw [hframe]; rfl), hconfig, hset, hbeams, ?_, fun k hk => (hothers k hk).trans (hothers' k hk),
      htap.trans htap'⟩
    rw [hframe]
    rfl
  · refine serves (hconfigured.trans ?_) rfl
    have hstill : (s.withGate l q).trackSegments l p = s.withGate l q := by
      unfold State.trackSegments
      dsimp only
      rw [withGate_gate, if_pos hleaves.symm, if_pos hexit.symm]
    have hdemand : q.demand = false := demand_none (by rw [show q.service = _ from hservice]; decide)
      (by rw [show q.service = _ from hservice]; decide) hcredits hpassages
    unfold State.beamChange State.laneChange
    dsimp only
    rw [show (s.modGate l fun p => p.applyConfig c).trackSegments l (s.gate l) = s.withGate l q from htracked.trans hstill,
      State.leafSettle, withGate_gate, leafReact_still (p := q) hclosed hdemand, putLeaves_agree, withGate_withGate, drainCheck_kept]
    rw [withGate_gate, show q.service = _ from hservice]
    exact fun h => nomatch h.1

end Sys2Proof.Machine

end

/-! ## Chapter 7: the EMERGENCY line -/

section

-- Proofs are checked in order: as one text the file would otherwise hold more waiting proofs than the check has memory for.
set_option Elab.async false

namespace Sys2Proof.Machine

/-! ### One lane at an assertion of the line -/

/-- The leaves stay as they are but for the close delay: they are opening, or open at the limit (R157). -/
abbrev StaysOpen (p : Passages) : Prop := p.leaf.state = .opening ∨ (p.leaf.state = .opened ∧ p.openLimit.accepted = true)

/-- The leaves are to open while both limits read asserted (R156). -/
abbrev OpensJammed (p : Passages) : Prop := ¬StaysOpen p ∧ p.bothLimits = true

/-- The passage controller that an assertion of the line leaves (R144, R145, R156, R157). -/
def emergencyGate (p : Passages) : Passages :=
  { p with
    service := .emergencyOpen
    faultCause := if OpensJammed p then some .bothLimits else none
    credits := []
    passages := []
    latch := false
    intrusionOpen := false
    stats := p.stats.cancelled p.credits.length
    leaf := if StaysOpen p then { p.leaf with closeDelay := none }
      else if p.bothLimits = true then restingLeaf p .jammed else openingLeaf p }

/-- The indicator told EMERGENCY_OPEN (R166). -/
def emergencyInd (d : Display) (i : Indicator) : Indicator := endedHold d { i with service := .emergencyOpen }

/-- The state with a lane's cancelled credits recorded and its jam, if any, raised. -/
def State.emergencyRecorded (s : State) (l : Lane) : State :=
  (if OpensJammed (s.gate l) then s.raise (.laneFault l) else s).withRecords (cancelRecords l (s.gate l).credits .emergency)

theorem emergencyLane_clean {s : State} {l : Lane} (hclean : DisplayClean s) (hrooms : HasRooms s (s.gate l).credits.length) :
    s.emergencyLane l
      = ((s.emergencyRecorded l).withGate l (emergencyGate (s.gate l))).withInd l (emergencyInd s.display (s.ind l)) := by
  let p := s.gate l
  let base := s.withRecords (cancelRecords l p.credits .emergency)
  let q : Passages :=
    { p with
      service := .emergencyOpen
      faultCause := none
      credits := []
      passages := []
      latch := false
      intrusionOpen := false
      stats := p.stats.cancelled p.credits.length }
  let told := (base.withGate l q).withInd l (emergencyInd s.display (s.ind l))
  have htold : ((s.cancelCredits l .emergency).modGate l fun p => { p.discard with faultCause := none }).setService l .emergencyOpen
      = told := by
    have hclean' : DisplayClean base := by
      rw [DisplayClean, withRecords_display]
      exact hclean
    rw [cancelCredits_rooms hrooms, modGate_eq, withGate_gate, withGate_withGate, setService_clean (by exact hclean'), withGate_gate,
      withGate_withGate, withGate_ind, withGate_display, withRecords_ind, withRecords_display]
    rfl
  have hgate : told.gate l = q := by rw [withInd_gate, withGate_gate]
  have hopened : s.emergencyLane l = if StaysOpen p then told.modGate l fun p => { p with leaf := { p.leaf with closeDelay := none } }
      else told.putLeaves l q.enterOpening := by
    unfold State.emergencyLane
    dsimp only
    rw [htold, hgate]
  rw [hopened, State.emergencyRecorded, emergencyGate]
  by_cases hstays : StaysOpen p
  · rw [if_pos hstays, if_pos hstays, if_neg fun h => h.1 hstays, if_neg fun h => h.1 hstays, modGate_eq, hgate, withInd_withGate,
      withGate_withGate]
  · rw [if_neg hstays, if_neg hstays]
    by_cases hboth : p.bothLimits = true
    · rw [if_pos ⟨hstays, hboth⟩, if_pos ⟨hstays, hboth⟩, if_pos hboth, Passages.enterOpening,
        if_pos (show q.bothLimits = true from hboth)]
      have hemergency : ((told.withGate l q).gate l).service = .emergencyOpen := by rw [withGate_gate]
      refine (jam_emergency (s := told.withGate l q) hemergency .bothLimits).trans ?_
      rw [withGate_gate, withGate_withGate, withInd_withGate, withGate_withGate, raise_withInd, raise_withGate, withRecords_raise]
      rfl
    · rw [if_neg fun h => hboth h.2, if_neg fun h => hboth h.2, if_neg hboth,
        enterOpening_agree (p := q) ((Bool.not_eq_true _).mp hboth), putLeaves_agree, withInd_withGate, withGate_withGate]
      rfl

/-- A transaction that an assertion of the line ends (R17). -/
abbrev EndsByLine (t : Tap) : Prop :=
  (t.phase = .identifying ∨ t.phase = .authenticating ∨ t.phase = .reading ∨ t.phase = .evaluating) ∧ t.kind ≠ some .emergency

theorem endsByLine_iff (t : Tap) : (beforeCommit t.phase && t.kind != some .emergency) = true ↔ EndsByLine t := by
  have hphase : beforeCommit t.phase = true
      ↔ t.phase = .identifying ∨ t.phase = .authenticating ∨ t.phase = .reading ∨ t.phase = .evaluating := by
    cases t.phase <;> simp [beforeCommit]
  rw [Bool.and_eq_true, hphase, bne_iff_ne]

/-- A lane after an assertion of the line: open, and done when its transaction ends (R17, R157). -/
def emergencyUnit (s : State) (l : Lane) : LaneUnit :=
  let opened : LaneUnit := ⟨s.tap l, emergencyGate (s.gate l), emergencyInd s.display (s.ind l)⟩
  if EndsByLine (s.tap l) then laneDone s.display opened .tapAgain none (purseRead s l) else opened

/-- The state in which an assertion of the line has reached a lane, a switchover not yet tried. -/
def State.emergencyReached (s : State) (l : Lane) : State :=
  { s.emergencyRecorded l with lanes := s.lanes.set l (emergencyUnit s l) }

theorem releaseReservation_none {s : State} {l : Lane} (h : s.journal.reservations.get l = none) : s.releaseReservation l = s := by
  unfold State.releaseReservation
  rw [← h]
  simp

theorem emergencyRecorded_lanes (s : State) (l : Lane) : (s.emergencyRecorded l).lanes = s.lanes := by
  unfold State.emergencyRecorded
  rw [withRecords_lanes]
  split <;> rfl

theorem emergencyRecorded_tariff (s : State) (l : Lane) : (s.emergencyRecorded l).tariff = s.tariff := by
  have hrecords (u : State) (rs : List JournalRecord) : (u.withRecords rs).tariff = u.tariff := by
    induction rs generalizing u with
    | nil => rfl
    | cons r rs ih => exact ih (u.withRecord r)
  unfold State.emergencyRecorded
  rw [hrecords]
  split <;> rfl

theorem emergencyRecorded_display (s : State) (l : Lane) : (s.emergencyRecorded l).display = s.display := by
  unfold State.emergencyRecorded
  rw [withRecords_display]
  split <;> rfl

theorem emergencyRecorded_journal (s : State) (l : Lane) : (s.emergencyRecorded l).journal
    = (s.withRecords (cancelRecords l (s.gate l).credits .emergency)).journal := by
  unfold State.emergencyRecorded
  split
  · rw [withRecords_raise]
    rfl
  · rfl

theorem HasRooms.withRecords {s : State} {rs : List JournalRecord} {n : Nat} (h : HasRooms s (rs.length + n)) :
    HasRooms (s.withRecords rs) n := by
  induction rs generalizing s with
  | nil => rwa [List.length_nil, Nat.zero_add] at h
  | cons r rs ih =>
    rw [List.length_cons, Nat.add_right_comm] at h
    exact ih (h.withRecord r)

theorem HasRooms.raise {s : State} {n : Nat} (h : HasRooms s n) (e : Event) : HasRooms (s.raise e) n := h

theorem HasRooms.emergencyRecorded {s : State} {l : Lane} {n : Nat} (h : HasRooms s ((s.gate l).credits.length + n)) :
    HasRooms (s.emergencyRecorded l) n := by
  have hlength : (cancelRecords l (s.gate l).credits .emergency).length = (s.gate l).credits.length := List.length_map _
  rw [← hlength] at h
  unfold State.emergencyRecorded
  split
  · exact (h.raise _).withRecords
  · exact h.withRecords

theorem withGateInd_lanes (s : State) (l : Lane) (p : Passages) (i : Indicator) :
    (s.withGate l p).withInd l i = { s with lanes := s.lanes.set l ⟨s.tap l, p, i⟩ } := by
  simp [State.withGate, State.withInd, State.lane, State.tap]

/-- The state in which the line has reached a lane has that lane's new unit, whether or not a transaction of it ends. -/
theorem emergencyReached_eq {s : State} {l : Lane} : s.emergencyReached l
    = if EndsByLine (s.tap l) then State.done (((s.emergencyRecorded l).withGate l (emergencyGate (s.gate l))).withInd l
        (emergencyInd s.display (s.ind l))) l .tapAgain none (purseRead s l)
      else ((s.emergencyRecorded l).withGate l (emergencyGate (s.gate l))).withInd l (emergencyInd s.display (s.ind l)) := by
  have htap : (s.emergencyRecorded l).tap l = s.tap l := congrArg (·.tap) (State.lane_congr (emergencyRecorded_lanes s l) l)
  have hdisplay : (s.emergencyRecorded l).display = s.display := emergencyRecorded_display s l
  rw [withGateInd_lanes, emergencyRecorded_lanes, htap]
  unfold State.emergencyReached emergencyUnit
  dsimp only
  split
  · unfold State.done
    simp [State.lane, hdisplay]
  · rfl

/-- One lane at an assertion of the line; the last transaction of the ACTIVE bank that it ends completes a switchover (R17, R93, R157). -/
theorem emergencyStep {s : State} {l : Lane} (hclean : DisplayClean s) (hrooms : HasRooms s (s.gate l).credits.length)
    (hreserved : EndsByLine (s.tap l) → s.journal.reservations.get l = none)
    (hswitch : EndsByLine (s.tap l) → s.tariff.pending = .switching → (∀ k, k ≠ l → (s.tap k).bound ≠ some s.tariff.active) →
      (s.tap l).bound = some s.tariff.active → HasRooms s ((s.gate l).credits.length + 1)) :
    (s.emergencyLane l).emergencyTap l = if EndsByLine (s.tap l) ∧ (s.tap l).bound = some s.tariff.active
        ∧ s.tariff.pending = .switching ∧ ∀ k, k ≠ l → (s.tap k).bound ≠ some s.tariff.active
      then (s.emergencyReached l).switched else s.emergencyReached l := by
  let opened := ((s.emergencyRecorded l).withGate l (emergencyGate (s.gate l))).withInd l (emergencyInd s.display (s.ind l))
  have htap (k : Lane) : opened.tap k = s.tap k := by
    rw [withInd_tap, withGate_tap]
    exact congrArg (·.tap) (State.lane_congr (emergencyRecorded_lanes s l) k)
  have hlane : s.emergencyLane l = opened := emergencyLane_clean hclean hrooms
  have hkept {t : State} (ht : (t.gate l).service = .emergencyOpen) : t.drainCheck l = t :=
    drainCheck_kept fun h => by rw [ht] at h; exact nomatch h.1
  have hreached := emergencyReached_eq (s := s) (l := l)
  by_cases hends : EndsByLine (s.tap l)
  · have hjournal : opened.journal.reservations.get l = none := by
      have hrecords (u : State) (rs : List JournalRecord) : (u.withRecords rs).journal.reservations = u.journal.reservations := by
        induction rs generalizing u with
        | nil => rfl
        | cons r rs ih => exact ih (u.withRecord r)
      rw [withInd_journal, withGate_journal, emergencyRecorded_journal, hrecords]
      exact hreserved hends
    have hclean' : DisplayClean opened := by
      rw [DisplayClean, withInd_display, withGate_display, emergencyRecorded_display]
      exact hclean
    have htariff : opened.tariff = s.tariff := by rw [withInd_tariff, withGate_tariff, emergencyRecorded_tariff]
    have hpurse : purseRead opened l = purseRead s l := purseRead_congr (by rw [htap])
    have hdone : opened.done l .tapAgain none (purseRead s l) = s.emergencyReached l := by rw [hreached, if_pos hends]
    have habort : opened.emergencyTap l = (if (s.tap l).bound = some s.tariff.active then (s.emergencyReached l).trySwitch
        else s.emergencyReached l).drainCheck l := by
      rw [State.emergencyTap, if_pos (by rw [htap]; exact (endsByLine_iff _).mpr hends), State.abortTap, releaseReservation_none hjournal,
        endUnchanged_eq, endTap_clean hclean', hpurse, hdone, htap, htariff]
    have hgate : ((s.emergencyReached l).gate l).service = .emergencyOpen := by
      rw [← hdone, done_gate, withInd_gate, withGate_gate]
      rfl
    have hholders : (s.emergencyReached l).holders s.tariff.active = 0 ↔ ∀ k, k ≠ l → (s.tap k).bound ≠ some s.tariff.active := by
      rw [holders_eq_zero]
      have hself : ((s.emergencyReached l).tap l).bound = none := by
        rw [← hdone, done_tap]
        unfold tapDone
        split <;> rfl
      have hother (k : Lane) (hk : k ≠ l) : (s.emergencyReached l).tap k = s.tap k := by
        rw [← hdone, done_tap_other _ hk, htap]
      refine ⟨fun h k hk => by rw [← hother k hk]; exact h k, fun h k => ?_⟩
      by_cases hk : k = l
      · rw [hk, hself]
        exact Option.some_ne_none _ |>.symm
      · rw [hother k hk]
        exact h k hk
    have htariff' : (s.emergencyReached l).tariff = s.tariff := emergencyRecorded_tariff s l
    rw [hlane, habort]
    by_cases hbound : (s.tap l).bound = some s.tariff.active
    · rw [if_pos hbound]
      by_cases hswitches : s.tariff.pending = .switching ∧ ∀ k, k ≠ l → (s.tap k).bound ≠ some s.tariff.active
      · obtain ⟨hpending, hothers⟩ := hswitches
        have hroom : HasRoom (s.emergencyReached l) := by
          have hrooms' : HasRooms (s.emergencyRecorded l) 1 := (hswitch hends hpending hothers hbound).emergencyRecorded
          exact hrooms'.hasRoom
        rw [if_pos ⟨hends, hbound, hpending, hothers⟩, trySwitch_room hroom (by rw [htariff']; exact hpending)
          (by rw [htariff']; exact hholders.mpr hothers)]
        exact hkept hgate
      · have hnone : (s.emergencyReached l).trySwitch = s.emergencyReached l := if_neg fun h => by
          rw [htariff'] at h
          exact hswitches ⟨h.1, hholders.mp h.2⟩
        rw [if_neg fun h => hswitches h.2.2, hnone, hkept hgate]
    · rw [if_neg hbound, if_neg fun h => hbound h.2.1, hkept hgate]
  · rw [hlane, State.emergencyTap, if_neg (by rw [htap]; exact mt (endsByLine_iff _).mp hends), if_neg fun h => hends h.1, hreached,
      if_neg hends]

/-! ### The four lanes in order -/

/-- The transaction of a lane holds the ACTIVE bank (R85). -/
abbrev HoldsActive (s : State) (l : Lane) : Prop := (s.tap l).bound = some s.tariff.active

/-- A switchover waits for transactions that an assertion of the line ends, all of them (R93). -/
abbrev LineSwitches (s : State) : Prop :=
  s.tariff.pending = .switching ∧ (∃ l, HoldsActive s l) ∧ ∀ l, HoldsActive s l → EndsByLine (s.tap l)

/-- The last lane whose transaction holds the ACTIVE bank. -/
abbrev LastHolder (s : State) (l : Lane) : Prop := HoldsActive s l ∧ ∀ k, l < k → ¬HoldsActive s k

/-- The records of one lane: of its cancelled credits, and of a switchover that its transaction completes (log entry 14). -/
def laneRecords (s : State) (l : Lane) : List JournalRecord :=
  cancelRecords l (s.gate l).credits .emergency ++ if LineSwitches s ∧ LastHolder s l then [s.tariff.switchRecord] else []

/-- The jams and the records of some lanes, at a state. -/
def State.lineOpened (s base : State) (ks : List Lane) : State :=
  ((ks.filter fun l => OpensJammed (s.gate l)).foldl (fun u l => u.raise (.laneFault l)) base).withRecords (ks.flatMap (laneRecords s))

/-- What an assertion of the line has done outside the lanes once it has reached some of them. -/
def State.lineWorld (s base : State) (ks : List Lane) : State :=
  if LineSwitches s ∧ ∃ l ∈ ks, LastHolder s l
  then State.raise { s.lineOpened base ks with tariff := s.switched.tariff } .tariffSwitched
  else s.lineOpened base ks

theorem raise_comm (s : State) (e e' : Event) : (s.raise e).raise e' = (s.raise e').raise e := by
  simp only [State.raise]
  rw [BitVec.or_assoc, BitVec.or_comm (1#29 <<< eventBit e), ← BitVec.or_assoc]

theorem withRecords_append (s : State) (rs rs' : List JournalRecord) : s.withRecords (rs ++ rs') = (s.withRecords rs).withRecords rs' :=
  List.foldl_append

theorem withRecords_withTariff (s : State) (rs : List JournalRecord) (x : TariffStore) :
    State.withRecords { s with tariff := x } rs = { s.withRecords rs with tariff := x } := by
  induction rs generalizing s with
  | nil => rfl
  | cons r rs ih => exact ih (s.withRecord r)

theorem withRecords_withLanes (s : State) (rs : List JournalRecord) (x : PerLane LaneUnit) :
    State.withRecords { s with lanes := x } rs = { s.withRecords rs with lanes := x } := by
  induction rs generalizing s with
  | nil => rfl
  | cons r rs ih => exact ih (s.withRecord r)

/-- A state with one more lane's jam raised and its cancelled credits recorded. -/
def State.recordedFor (s : State) (l : Lane) (p : Passages) : State :=
  (if OpensJammed p then s.raise (.laneFault l) else s).withRecords (cancelRecords l p.credits .emergency)

theorem recordedFor_withLanes (s : State) (l : Lane) (p : Passages) (x : PerLane LaneUnit) :
    State.recordedFor { s with lanes := x } l p = { s.recordedFor l p with lanes := x } := by
  unfold State.recordedFor
  rw [← withRecords_withLanes]
  split <;> rfl

theorem recordedFor_switched (s : State) (l : Lane) (p : Passages) (x : TariffStore) (e : Event) :
    State.recordedFor (State.raise { s with tariff := x } e) l p = State.raise { s.recordedFor l p with tariff := x } e := by
  unfold State.recordedFor
  rw [← withRecords_withTariff, ← withRecords_raise]
  split
  · rw [raise_comm]
    rfl
  · rfl

theorem lineOpened_append (s base : State) (ks : List Lane) (l : Lane) : s.lineOpened base (ks ++ [l])
    = ((s.lineOpened base ks).recordedFor l (s.gate l)).withRecords
      (if LineSwitches s ∧ LastHolder s l then [s.tariff.switchRecord] else []) := by
  unfold State.lineOpened State.recordedFor
  rw [List.filter_append, List.foldl_append, List.flatMap_append, List.flatMap_singleton, withRecords_append, laneRecords,
    withRecords_append]
  congr 2
  by_cases hjams : OpensJammed (s.gate l)
  · rw [if_pos hjams, List.filter_cons_of_pos (by exact decide_eq_true hjams), List.filter_nil, ← withRecords_raise]
    rfl
  · rw [if_neg hjams, List.filter_cons_of_neg (by rw [decide_eq_true_eq]; exact hjams), List.filter_nil]
    rfl

theorem lineOpened_tariff (s base : State) (ks : List Lane) : (s.lineOpened base ks).tariff = base.tariff := by
  have hrecords (u : State) (rs : List JournalRecord) : (u.withRecords rs).tariff = u.tariff := by
    induction rs generalizing u with
    | nil => rfl
    | cons r rs ih => exact ih (u.withRecord r)
  have hraised (u : State) (xs : List Lane) : (xs.foldl (fun u l => u.raise (.laneFault l)) u).tariff = u.tariff := by
    induction xs generalizing u with
    | nil => rfl
    | cons x xs ih => exact ih (u.raise (.laneFault x))
  exact (hrecords _ _).trans (hraised _ _)

theorem lastHolder_unique {s : State} {k l : Lane} (hk : LastHolder s k) (hl : LastHolder s l) : k = l := by
  rcases lt_trichotomy k l with h | h | h
  · exact absurd hl.1 (hk.2 l h)
  · exact h
  · exact absurd hk.1 (hl.2 k h)

/-- What an assertion of the line has left once it has reached the lanes `ks`. -/
structure LineReached (s base : State) (ks : List Lane) (t : State) : Prop where
  world : { t with lanes := s.lanes } = s.lineWorld base ks
  reached : ∀ k ∈ ks, t.lane k = emergencyUnit s k
  others : ∀ k, k ∉ ks → t.lane k = s.lane k

theorem lineOpened_rooms {s base : State} {ks : List Lane} {n : Nat}
    (h : HasRooms base ((ks.flatMap (laneRecords s)).length + n)) : HasRooms (s.lineOpened base ks) n := by
  have hraised {u : State} (xs : List Lane) {m : Nat} (hu : HasRooms u m) :
      HasRooms (xs.foldl (fun u l => u.raise (.laneFault l)) u) m := by
    induction xs generalizing u with
    | nil => exact hu
    | cons x xs ih => exact ih (hu.raise _)
  exact (hraised _ h).withRecords

theorem lineOpened_display (s base : State) (ks : List Lane) : (s.lineOpened base ks).display = base.display := by
  have hraised (u : State) (xs : List Lane) : (xs.foldl (fun u l => u.raise (.laneFault l)) u).display = u.display := by
    induction xs generalizing u with
    | nil => rfl
    | cons x xs ih => exact ih (u.raise (.laneFault x))
  exact (withRecords_display _ _).trans (hraised _ _)

theorem lineOpened_reservations (s base : State) (ks : List Lane) :
    (s.lineOpened base ks).journal.reservations = base.journal.reservations := by
  have hrecords (u : State) (rs : List JournalRecord) : (u.withRecords rs).journal.reservations = u.journal.reservations := by
    induction rs generalizing u with
    | nil => rfl
    | cons r rs ih => exact ih (u.withRecord r)
  have hraised (u : State) (xs : List Lane) :
      (xs.foldl (fun u l => u.raise (.laneFault l)) u).journal.reservations = u.journal.reservations := by
    induction xs generalizing u with
    | nil => rfl
    | cons x xs ih => exact ih (u.raise (.laneFault x))
  exact (hrecords _ _).trans (hraised _ _)

/-- What the switchover of the world does not touch is as the lanes left it. -/
theorem lineWorld_frame (s base : State) (ks : List Lane) : (s.lineWorld base ks).display = base.display
    ∧ (s.lineWorld base ks).journal = (s.lineOpened base ks).journal ∧ (s.lineWorld base ks).ecc = (s.lineOpened base ks).ecc := by
  unfold State.lineWorld
  split
  · exact ⟨lineOpened_display s base ks, rfl, rfl⟩
  · exact ⟨lineOpened_display s base ks, rfl, rfl⟩

theorem lineWorld_tariff {s base : State} (hbase : base.tariff = s.tariff) (ks : List Lane) : (s.lineWorld base ks).tariff
    = if LineSwitches s ∧ ∃ l ∈ ks, LastHolder s l then s.switched.tariff else s.tariff := by
  unfold State.lineWorld
  split
  · rfl
  · rw [lineOpened_tariff, hbase]

theorem switched_of_tariff {s u : State} (h : u.tariff = s.tariff) :
    u.switched = State.raise { u.withRecord s.tariff.switchRecord with tariff := s.switched.tariff } .tariffSwitched := by
  unfold State.switched
  rw [h]
  rfl

theorem HasRooms.congr {s t : State} {n : Nat} (hjournal : t.journal = s.journal) (hecc : t.ecc = s.ecc) (h : HasRooms s n) :
    HasRooms t n := by
  unfold HasRooms Disarmed
  rw [hjournal, hecc]
  exact h

theorem laneRecords_length (s : State) (l : Lane) : (laneRecords s l).length
    = (s.gate l).credits.length + if LineSwitches s ∧ LastHolder s l then 1 else 0 := by
  rw [laneRecords, List.length_append, cancelRecords, List.length_map]
  split <;> rfl

/-- A lane that the line has reached holds the ACTIVE bank no more when its transaction has ended. -/
theorem emergencyUnit_bound (s : State) (l : Lane) : (emergencyUnit s l).tap.bound
    = if EndsByLine (s.tap l) then none else (s.tap l).bound := by
  unfold emergencyUnit
  dsimp only
  split
  · show (tapDone (s.tap l) .tapAgain).bound = none
    unfold tapDone
    split <;> rfl
  · rfl

/-- The lane whose end completes the switchover is the last that holds the ACTIVE bank. -/
theorem LineReached.completes_iff {s base t : State} {ks : List Lane} {l : Lane} (h : LineReached s base ks t)
    (hks : ∀ k, k ∈ ks ↔ k < l)
    (htariff : t.tariff = if LineSwitches s ∧ ∃ k ∈ ks, LastHolder s k then s.switched.tariff else s.tariff) :
    (EndsByLine (t.tap l) ∧ (t.tap l).bound = some t.tariff.active ∧ t.tariff.pending = .switching
      ∧ ∀ k, k ≠ l → (t.tap k).bound ≠ some t.tariff.active) ↔ LineSwitches s ∧ LastHolder s l := by
  have hl : l ∉ ks := fun hmem => absurd ((hks l).mp hmem) (lt_irrefl l)
  have hafter {k : Lane} (hk : ¬k < l) : t.tap k = s.tap k := congrArg (·.tap) (h.others k (mt (hks k).mp hk))
  have hbefore {k : Lane} (hk : k < l) : (t.tap k).bound = if EndsByLine (s.tap k) then none else (s.tap k).bound :=
    (congrArg (fun u => u.tap.bound) (h.reached k ((hks k).mpr hk))).trans (emergencyUnit_bound s k)
  have htap : t.tap l = s.tap l := hafter (lt_irrefl l)
  by_cases hdone : LineSwitches s ∧ ∃ k ∈ ks, LastHolder s k
  · rw [if_pos hdone] at htariff
    obtain ⟨-, k, hk, hlast⟩ := hdone
    refine ⟨fun hcompletes => ?_, fun hcompletes => ?_⟩
    · have hpending := hcompletes.2.2.1
      rw [htariff] at hpending
      exact nomatch (hpending : PendingState.empty = PendingState.switching)
    · exact absurd (lastHolder_unique hlast hcompletes.2 ▸ hk) hl
  · rw [if_neg hdone] at htariff
    rw [htariff, htap]
    refine ⟨fun ⟨hends, hbound, hpending, hothers⟩ => ?_, fun ⟨⟨hpending, _, hall⟩, hholds, hlast⟩ => ?_⟩
    · have hnone (k : Lane) (hk : l < k) : ¬HoldsActive s k := by
        rw [HoldsActive, ← hafter (lt_asymm hk)]
        exact hothers k hk.ne'
      refine ⟨⟨hpending, ⟨l, hbound⟩, fun k hk => ?_⟩, hbound, hnone⟩
      rcases lt_trichotomy k l with hkl | hkl | hkl
      · by_contra hstays
        have hkbound := hothers k hkl.ne
        rw [hbefore hkl, if_neg hstays] at hkbound
        exact hkbound hk
      · exact hkl ▸ hends
      · exact absurd hk (hnone k hkl)
    · refine ⟨hall l hholds, hholds, hpending, fun k hkl => ?_⟩
      rcases lt_or_gt_of_ne hkl with hkl | hkl
      · rw [hbefore hkl]
        split
        · exact Option.some_ne_none _ |>.symm
        next hstays => exact fun hk => hstays (hall k hk)
      · rw [hafter (lt_asymm hkl)]
        exact hlast k hkl

/-- The line reaches one more lane. -/
theorem LineReached.step {s base t : State} {ks : List Lane} {l : Lane} (h : LineReached s base ks t) (hbase : base.tariff = s.tariff)
    (hdisplay : base.display = s.display) (hclean : DisplayClean s) (hks : ∀ k, k ∈ ks ↔ k < l)
    (hrooms : HasRooms base ((ks ++ [l]).flatMap (laneRecords s)).length)
    (hreserved : EndsByLine (s.tap l) → base.journal.reservations.get l = none) :
    LineReached s base (ks ++ [l]) ((t.emergencyLane l).emergencyTap l) := by
  obtain ⟨hworld, hreached, hothers⟩ := h
  have hl : l ∉ ks := fun hmem => absurd ((hks l).mp hmem) (lt_irrefl l)
  have hlane : t.lane l = s.lane l := hothers l hl
  have hgate : t.gate l = s.gate l := congrArg (·.gate) hlane
  have htap : t.tap l = s.tap l := congrArg (·.tap) hlane
  have hind : t.ind l = s.ind l := congrArg (·.ind) hlane
  obtain ⟨hwdisplay, hwjournal, hwecc⟩ := lineWorld_frame s base ks
  have htdisplay : t.display = s.display := ((congrArg (fun u : State => u.display) hworld).trans hwdisplay).trans hdisplay
  have htjournal : t.journal = (s.lineOpened base ks).journal := (congrArg (fun u : State => u.journal) hworld).trans hwjournal
  have htecc : t.ecc = (s.lineOpened base ks).ecc := (congrArg (fun u : State => u.ecc) hworld).trans hwecc
  have httariff : t.tariff = if LineSwitches s ∧ ∃ k ∈ ks, LastHolder s k then s.switched.tariff else s.tariff :=
    (congrArg (fun u : State => u.tariff) hworld).trans (lineWorld_tariff hbase ks)
  have htclean : DisplayClean t := by
    rw [DisplayClean, htdisplay]
    exact hclean
  have hunit : emergencyUnit t l = emergencyUnit s l := by
    have hpurse : purseRead t l = purseRead s l := purseRead_congr (by rw [htap])
    unfold emergencyUnit
    rw [hgate, htap, hind, htdisplay, hpurse]
  have hrooms' : HasRooms t ((s.gate l).credits.length + if LineSwitches s ∧ LastHolder s l then 1 else 0) := by
    rw [List.flatMap_append, List.flatMap_singleton, List.length_append, laneRecords_length] at hrooms
    exact (lineOpened_rooms hrooms).congr htjournal htecc
  have hcompletes := LineReached.completes_iff ⟨hworld, hreached, hothers⟩ hks httariff
  have hstep := emergencyStep (s := t) (l := l) htclean
    (by
      rw [hgate]
      exact ⟨by have := hrooms'.1; omega, hrooms'.2⟩)
    (fun hends => by
      rw [htap] at hends
      rw [htjournal, lineOpened_reservations]
      exact hreserved hends)
    (fun hends hpending hnone hbound => by
      rw [if_pos (hcompletes.mp ⟨hends, hbound, hpending, hnone⟩)] at hrooms'
      rw [hgate]
      exact hrooms')
  have hlanes (k : Lane) : (t.emergencyReached l).lane k = if k = l then emergencyUnit s l else t.lane k := by
    split
    next hk =>
      rw [hk, ← hunit]
      exact PerLane.get_set_self _ _ _
    next hk => exact PerLane.get_set_other _ hk _
  have hframe : { t.emergencyReached l with lanes := s.lanes } = (s.lineWorld base ks).recordedFor l (s.gate l) := by
    rw [← hworld, recordedFor_withLanes, ← hgate]
    rfl
  have hcurrent (hdone : ¬(LineSwitches s ∧ ∃ k ∈ ks, LastHolder s k)) : (t.emergencyReached l).tariff = s.tariff := by
    rw [if_neg hdone] at httariff
    exact (emergencyRecorded_tariff t l).trans httariff
  have hnotDone (hlast : LineSwitches s ∧ LastHolder s l) : ¬(LineSwitches s ∧ ∃ k ∈ ks, LastHolder s k) := fun ⟨_, k, hk, hk'⟩ =>
    hl (lastHolder_unique hk' hlast.2 ▸ hk)
  have hmem : (∃ k ∈ ks ++ [l], LastHolder s k) ↔ (∃ k ∈ ks, LastHolder s k) ∨ LastHolder s l := by
    simp only [List.mem_append, List.mem_singleton, or_and_right, exists_or, exists_eq_left]
  rw [hstep]
  refine ⟨?_, fun k hk => ?_, fun k hk => ?_⟩
  · by_cases hlast : LineSwitches s ∧ LastHolder s l
    · rw [if_pos (hcompletes.mpr hlast), switched_of_tariff (hcurrent (hnotDone hlast)), State.lineWorld,
        if_pos ⟨hlast.1, hmem.mpr (.inr hlast.2)⟩, lineOpened_append, if_pos hlast]
      rw [State.lineWorld, if_neg (hnotDone hlast)] at hframe
      rw [← hframe]
      rfl
    · rw [if_neg (mt hcompletes.mp hlast), hframe, State.lineWorld, State.lineWorld, lineOpened_append, if_neg hlast]
      by_cases hdone : LineSwitches s ∧ ∃ k ∈ ks, LastHolder s k
      · rw [if_pos hdone, if_pos ⟨hdone.1, hmem.mpr (.inl hdone.2)⟩, recordedFor_switched]
        rfl
      · rw [if_neg hdone, if_neg fun h => (hmem.mp h.2).elim (fun hk => hdone ⟨h.1, hk⟩) fun hk => hlast ⟨h.1, hk⟩]
        rfl
  · have hlane' : (if EndsByLine (t.tap l) ∧ (t.tap l).bound = some t.tariff.active ∧ t.tariff.pending = .switching
        ∧ ∀ k, k ≠ l → (t.tap k).bound ≠ some t.tariff.active then (t.emergencyReached l).switched else t.emergencyReached l).lane k
        = (t.emergencyReached l).lane k := by split <;> rfl
    rw [hlane', hlanes]
    split
    next hkl => rw [hkl]
    next hkl => exact hreached k ((List.mem_append.mp hk).resolve_right (by simpa using hkl))
  · have hlane' : (if EndsByLine (t.tap l) ∧ (t.tap l).bound = some t.tariff.active ∧ t.tariff.pending = .switching
        ∧ ∀ k, k ≠ l → (t.tap k).bound ≠ some t.tariff.active then (t.emergencyReached l).switched else t.emergencyReached l).lane k
        = (t.emergencyReached l).lane k := by split <;> rfl
    have hk' : k ∉ ks ∧ k ≠ l := by simpa [not_or] using hk
    rw [hlane', hlanes, if_neg hk'.2]
    exact hothers k hk'.1

theorem exists_lastHolder {s : State} (h : ∃ l, HoldsActive s l) : ∃ l, LastHolder s l := by
  obtain ⟨l, hl⟩ := h
  obtain ⟨m, hm, hmax⟩ := Finset.exists_max_image (Finset.univ.filter fun l => HoldsActive s l) id ⟨l, by simpa using hl⟩
  refine ⟨m, by simpa using hm, fun k hk hholds => ?_⟩
  exact absurd (hmax k (by simpa using hholds)) (not_le_of_gt hk)

theorem HasRooms.mono {s : State} {m n : Nat} (hmn : m ≤ n) (h : HasRooms s n) : HasRooms s m :=
  ⟨by have := h.1; omega, h.2⟩

/-- The line has reached the four lanes in order. -/
theorem emergencyAsserted_reached {s : State} (hclean : DisplayClean s)
    (hrooms : HasRooms s (allLanes.flatMap (laneRecords s)).length)
    (hreserved : ∀ l, EndsByLine (s.tap l) → s.journal.reservations.get l = none) :
    LineReached s (State.raise { s with emergency := ⟨true, true, none⟩ } .emergency) allLanes s.emergencyAsserted := by
  let base := State.raise { s with emergency := ⟨true, true, none⟩ } .emergency
  have hstart : LineReached s base [] base := by
    refine ⟨?_, fun k hk => absurd hk List.not_mem_nil, fun _ _ => rfl⟩
    rw [State.lineWorld, if_neg fun h => by obtain ⟨k, hk, -⟩ := h.2; exact absurd hk List.not_mem_nil]
    rfl
  have hnext {ks rest : List Lane} {l : Lane} {t : State} (h : LineReached s base ks t) (hall : allLanes = (ks ++ [l]) ++ rest)
      (hks : ∀ k, k ∈ ks ↔ k < l) : LineReached s base (ks ++ [l]) ((t.emergencyLane l).emergencyTap l) := by
    refine h.step rfl rfl hclean hks (HasRooms.mono ?_ hrooms) (hreserved l)
    have hlength : (allLanes.flatMap (laneRecords s)).length
        = ((ks ++ [l]).flatMap (laneRecords s)).length + (rest.flatMap (laneRecords s)).length := by
      rw [hall, ← List.length_append, ← List.flatMap_append]
    omega
  have hfold : s.emergencyAsserted = [0, 1, 2, 3].foldl (fun s l => (s.emergencyLane l).emergencyTap l) base := rfl
  rw [hfold, List.foldl_cons, List.foldl_cons, List.foldl_cons, List.foldl_cons, List.foldl_nil]
  have h0 := hnext (ks := []) (rest := [1, 2, 3]) (l := 0) hstart rfl (by decide)
  have h1 := hnext (ks := [0]) (rest := [2, 3]) (l := 1) h0 rfl (by decide)
  have h2 := hnext (ks := [0, 1]) (rest := [3]) (l := 2) h1 rfl (by decide)
  exact hnext (ks := [0, 1, 2]) (rest := []) (l := 3) h2 rfl (by decide)

theorem emergencyAssert_exec (s : State) : exec .emergencyAssert s
    = .next (if s.phase = .running ∧ s.emergency.accepted = false then s.emergencyAsserted else s) := rfl

/-- Settles O46: the lanes in order, each with its leaves, its transaction and the switchover that its end may complete. -/
theorem emergencyOpensEveryLane : Obligations.EmergencyOpensEveryLane := by
  intro s hrunning ends holds switches last stays jams records
  refine ⟨fun haccepted hclean hrooms hreserved => ?_, fun haccepted => ?_, fun haccepted => ?_, fun haccepted => ?_⟩
  · intro asserted faulted opened
    obtain ⟨hworld, hreached, -⟩ := emergencyAsserted_reached hclean hrooms hreserved
    refine ⟨s.emergencyAsserted, by rw [emergencyAssert_exec, if_pos ⟨hrunning, haccepted⟩], hworld.trans ?_, fun l => ?_⟩
    · unfold State.lineWorld
      refine if_congr ⟨And.left, fun h => ⟨h, ?_⟩⟩ rfl rfl
      obtain ⟨l, hl⟩ := exists_lastHolder h.2.1
      exact ⟨l, mem_allLanes l, hl⟩
    · have hunit := hreached l (mem_allLanes l)
      exact ⟨fun hends => hunit.trans (if_neg hends), fun hends => hunit.trans (if_pos hends)⟩
  · rw [emergencyAssert_exec, if_neg fun h => by rw [haccepted] at h; exact nomatch h.2]
  · exact congrArg _ (if_pos ⟨hrunning, haccepted⟩)
  · exact congrArg _ (if_neg fun h => by rw [haccepted] at h; exact nomatch h.2)

end Sys2Proof.Machine

end

/-! ## Chapters 10 and 11: the clock, the settings, the keys, resets -/

section

-- Proofs are checked in order: as one text the file would otherwise hold more waiting proofs than the check has memory for.
set_option Elab.async false

namespace Sys2Proof.Machine

open JournalProofs (answers_of_work beBytes_one)

/-! ### The station clock -/

/-- Only a SCHEDULED bank enters SWITCHING (R91). -/
theorem enterSwitching_unscheduled {s : State} (h : s.tariff.pending ≠ .scheduled) : s.enterSwitching = s := by
  have hdue : s.switchDue = false := by simp [State.switchDue, h]
  rw [State.enterSwitching, hdue]
  rfl

/-- What a change of station time asks of the pending bank (R91, R93). -/
theorem enterSwitching_room {s : State} (h : HasRoom s) (htime : s.tariff.pending = .scheduled → s.tariff.effective.isSome = true) :
    s.enterSwitching = if s.tariff.pending = .scheduled then s.scheduledAt (s.tariff.effective.getD 0) else s := by
  split
  next hpending =>
    obtain ⟨time, heffective⟩ := Option.isSome_iff_exists.mp (htime hpending)
    rw [heffective]
    exact enterSwitching_scheduled h hpending heffective
  next hpending => exact enterSwitching_unscheduled hpending

theorem isStep_iff (s : State) (time : Nat) : s.isStep time = true
    ↔ s.clock.timeSet = true ∧ (s.settings.skew < time - s.clock.time ∨ s.settings.skew < s.clock.time - time) := by
  simp [State.isStep]

/-- The state in which station time is replaced, a step with its record and its event (R184). -/
def State.timeReplaced (s : State) (time : Nat) : State :=
  let set : State := { s with clock := ⟨time, true⟩ }
  if s.isStep time = true then
    State.raise (set.withRecord { JournalRecord.blank .timeStep none with secondTime := some s.clock.time }) .timeStep
  else set

theorem timeReplaced_tariff (s : State) (time : Nat) : (s.timeReplaced time).tariff = s.tariff := by
  unfold State.timeReplaced
  dsimp only
  split <;> rfl

theorem timeReplaced_link (s : State) (time : Nat) : (s.timeReplaced time).link = s.link := by
  unfold State.timeReplaced
  dsimp only
  split <;> rfl

/-- TIME SET with room for its record and a switchover's (R91, R184). -/
theorem setTime_room {s : State} {time : Nat} (hroom : HasRoom s) (hafter : HasRoom (s.timeReplaced time))
    (htime : s.tariff.pending = .scheduled → s.tariff.effective.isSome = true) :
    s.setTime time = (ok (beBytes 4 s.clock.time ++ beBytes 4 time ++ [boolByte (s.isStep time)]),
      if s.tariff.pending = .scheduled then (s.timeReplaced time).scheduledAt (s.tariff.effective.getD 0) else s.timeReplaced time) := by
  have hreplaced : s.setTime time = (ok (beBytes 4 s.clock.time ++ beBytes 4 time ++ [boolByte (s.isStep time)]),
      (s.timeReplaced time).enterSwitching) := by
    unfold State.setTime State.timeReplaced
    dsimp only
    rw [appendUnreserved_room (by exact hroom)]
  rw [hreplaced, enterSwitching_room hafter (by rwa [timeReplaced_tariff]), timeReplaced_tariff]

theorem ite_scheduledAt_link {s u : State} (c : Prop) [Decidable c] (time : Nat) (h : u.link = s.link) :
    (if c then u.scheduledAt time else u).link = s.link := by
  split
  · exact (scheduledAt_link u time).trans h
  · exact h

/-! ### Settings -/

/-- STATION SET clamps the station, the skew allowance and the timeout (R185). -/
theorem setStation_eq (s : State) {station network skew timeout : Nat} (hstation : station ≤ 255) :
    s.setStation station network skew timeout =
      (⟨if 1 ≤ station ∧ skew ≤ 600 ∧ 10 ≤ timeout ∧ timeout ≤ 100 then .ok else .clamped, none,
        beBytes 1 (max 1 station) ++ beBytes 2 network ++ beBytes 2 (min 600 skew) ++ beBytes 1 (max 10 (min 100 timeout))⟩,
       { s with settings := ⟨max 1 station, network, min 600 skew, max 10 (min 100 timeout), true⟩ }) := by
  have hvalues : appliedStation station network skew timeout
      = ⟨max 1 station, network, min 600 skew, max 10 (min 100 timeout), true⟩ := by
    simp [appliedStation, clampNat, hstation]
  have hclamped : (max 1 station != station || min 600 skew != skew || max 10 (min 100 timeout) != timeout) = true
      ↔ ¬(1 ≤ station ∧ skew ≤ 600 ∧ 10 ≤ timeout ∧ timeout ≤ 100) := by
    simp only [Bool.or_eq_true, bne_iff_ne]
    omega
  unfold State.setStation okClamped
  dsimp only
  rw [hvalues]
  refine Prod.ext ?_ rfl
  dsimp only
  rw [if_congr hclamped rfl rfl, ite_not]
  rfl

/-! ### O51 -/

/-- Settles O51: station time with the step and the switchover that it may bring, then the settings and the keys. -/
theorem clockSettingsAndKeysAreSet : Obligations.ClockSettingsAndKeysAreSet := by
  intro s
  refine ⟨fun hserving time => ?_, ⟨fun hidle => ?_, fun time hrunning hpending htime hroom => ?_⟩, fun hserving station network skew timeout => ?_,
    fun hserving slot version wrapped => ?_⟩
  · intro old step set stepped htime hroom hafter
    have hstep : s.isStep time.toNat = decide step := by
      rw [Bool.eq_iff_iff, isStep_iff, decide_eq_true_iff]
    have hstepped : stepped = s.timeReplaced time.toNat := by
      unfold State.timeReplaced
      dsimp only
      rw [hstep, if_congr decide_eq_true_iff rfl rfl]
    have hbyte : boolByte (s.isStep time.toNat) = if step then 1 else 0 := by
      rw [hstep, boolByte, if_congr decide_eq_true_iff rfl rfl]
    have hwork : s.setTime time.toNat = (⟨.ok, none, beBytes 4 old ++ beBytes 4 time.toNat ++ [if step then 1 else 0]⟩,
        if s.tariff.pending = .scheduled then stepped.scheduledAt (s.tariff.effective.getD 0) else stepped) := by
      rw [← hbyte, hstepped]
      exact setTime_room hroom (hstepped ▸ hafter) htime
    exact answers_of_work hserving (work := fun s => s.setTime time.toNat) rfl hwork
      (ite_scheduledAt_link _ _ (hstepped ▸ timeReplaced_link s time.toNat))
  · show Host.Outcome.next s.tick = _
    unfold State.tick
    dsimp only
    split
    next hrunning => exact congrArg _ (enterSwitching_unscheduled (hidle.resolve_left (not_not_intro hrunning)))
    next => rfl
  · show Host.Outcome.next s.tick = _
    unfold State.tick
    dsimp only
    rw [if_pos hrunning]
    exact congrArg _ (enterSwitching_scheduled hroom hpending htime)
  · intro inRange x
    exact answers_of_work hserving (work := fun s => s.setStation station.toNat network.toNat skew.toNat timeout.toNat) rfl
      (setStation_eq s (Nat.le_of_lt_succ station.isLt)) rfl
  · intro bad
    refine ⟨fun h => ?_, fun h hkey => ?_, fun key h hkey => ?_⟩
    · exact answers_of_work hserving (work := fun s => s.loadKey slot.toNat version.toNat wrapped) rfl (if_pos h) rfl
    · have hwork : s.loadKey slot.toNat version.toNat wrapped = (refused .keyCheckFailed, s) := by
        rw [State.loadKey, if_neg h, hkey]
      exact answers_of_work hserving (work := fun s => s.loadKey slot.toNat version.toNat wrapped) rfl hwork rfl
    · have hwork : s.loadKey slot.toNat version.toNat wrapped
          = (ok [], { s with keys := s.keys.set slot.toNat (some ⟨version.toNat, key⟩) }) := by
        rw [State.loadKey, if_neg h, hkey]
      exact answers_of_work hserving (work := fun s => s.loadKey slot.toNat version.toNat wrapped) rfl hwork rfl

/-! ### Resets (R191) -/

theorem resetFalls_eq (s : State) (cause : ResetCause) (phase : PartPhase) : s.resetFalls cause phase = s.fallen cause phase := rfl

/-- Settles O55: each command of the supply and of the RESET input by the phase and the input it finds. -/
theorem resetsKeepWhatIsRetained : Obligations.ResetsKeepWhatIsRetained := by
  intro s
  refine ⟨rfl, fun hline => ?_, fun hline hoff => ?_, fun hline hon => ?_, rfl, rfl, fun hoff => ?_, fun hon => ?_⟩
  · exact congrArg _ (if_pos hline)
  · show Host.Outcome.next (if s.resetLine then s else s.lineAsserted) = _
    rw [hline]
    exact congrArg _ (if_pos hoff)
  · show Host.Outcome.next (if s.resetLine then s else s.lineAsserted) = _
    rw [hline]
    exact congrArg _ (if_neg hon)
  · refine ⟨s.loseRetention, congrArg _ (if_pos hoff), rfl, rfl, rfl, rfl, rfl, rfl, rfl, rfl, fun l => ?_⟩
    exact PerLane.get_map s.lanes _ l
  · exact congrArg _ (if_neg hon)

/-- Settles O60: every lane of the reset state stands cleared, and every list is empty. -/
theorem resetMeetsWhatEveryStepKeeps : Obligations.ResetMeetsWhatEveryStepKeeps := by
  have htap (l : Lane) : State.reset.tap l = Tap.cleared := congrArg LaneUnit.tap (PerLane.get_all _ l)
  have hgate (l : Lane) : State.reset.gate l = Passages.cleared := congrArg LaneUnit.gate (PerLane.get_all _ l)
  have hind (l : Lane) : State.reset.ind l = Indicator.cleared := congrArg LaneUnit.ind (PerLane.get_all _ l)
  refine ⟨⟨by decide, fun h => nomatch h⟩, fun k l ser h => ?_, ?_, rfl, fun l => ?_, fun l => ?_, rfl, rfl, rfl⟩
  · rw [htap] at h
    exact nomatch h
  · unfold ListsSound
    decide
  · rw [hgate]
    unfold CreditsSound LeavesSound
    decide
  · rw [htap, hgate, hind]
    exact ⟨rfl, rfl, rfl⟩

end Sys2Proof.Machine

end

/-! ## Chapter 10: what the reporting requests reply with -/

section

-- Proofs are checked in order: as one text the file would otherwise hold more waiting proofs than the check has memory for.
set_option Elab.async false

namespace Sys2Proof.Machine

open JournalProofs (answers_of_work)

/-! ### PART, SCREENING and JOURNAL -/

theorem partBytes_eq {s : State} {cause : ResetCause} {result : RetentionResult} (h : s.report = some (cause, result)) :
    s.partBytes = partReport s cause result := by
  have hreport : s.reportBytes = [causeCode cause, retentionCode result] := by rw [State.reportBytes, h]
  unfold State.partBytes partReport
  rw [hreport]
  simp only [Settings.bytes, LinkCounters.bytes, Input.stateByte, Events.enableBytes, boolByte, mark, b1, b2, List.flatMap_cons,
    List.flatMap_nil, List.append_nil, List.append_assoc, List.cons_append, List.nil_append]

theorem screeningBytes_eq (s : State) : s.screeningBytes = screeningReport s := by
  simp only [State.screeningBytes, screeningReport, ScreenCounters.bytes, Doubt.count, boolByte, mark, b1, b2, List.flatMap_cons,
    List.flatMap_nil, List.append_nil, List.append_assoc, beq_true, beq_false]

theorem journalBytes_eq (j : Journal) : j.bytes = journalReport j := by
  have holdest : j.oldestSeq = (if j.held = 0 then none else some (seqBack j.nextSequence j.held, seqBack j.nextSequence 1)).map (·.1) := by
    unfold Journal.oldestSeq
    split <;> rfl
  have hnewest : j.newestSeq = (if j.held = 0 then none else some (seqBack j.nextSequence j.held, seqBack j.nextSequence 1)).map (·.2) := by
    unfold Journal.newestSeq
    split <;> rfl
  have hopen : (!j.isOpen) = decide (1984 ≤ j.held + j.outstanding) := by
    unfold Journal.isOpen Journal.taken
    rw [← decide_not, decide_eq_decide]
    exact Nat.not_lt
  unfold Journal.bytes journalReport
  rw [holdest, hnewest, hopen]
  rfl

/-! ### LANE -/

/-- The readiness reason that the five conditions of R9 give, as a byte. -/
theorem readinessCode_readiness (s : State) (ordinary : Bool) : readinessCode (s.readiness ordinary)
    = if s.clock.timeSet = false then 1
      else if s.settings.isSet = false then 2
      else if ¬(s.tariff.pending = .switching ∨ (s.tariff.activeVersion.isSome = true ∧ s.tariff.usable = true))
        ∨ (zoneEntry s).bits = .double then 3
      else if (zoneEntry s).val = none then 4
      else if ordinary = true ∧ 1984 ≤ s.journal.held + s.journal.outstanding then 5
      else 0 := by
  have hzone := zoneEntry_eq s
  rw [← toBind_eq] at hzone
  have husable : (!s.tariff.isUsable s.tariff.toBind) = true
      ↔ ¬(s.tariff.pending = .switching ∨ (s.tariff.activeVersion.isSome = true ∧ s.tariff.usable = true)) := by
    rw [← isUsable_toBind, Bool.not_eq_true', Bool.not_eq_true]
  have hfull : (ordinary && !s.journal.isOpen) = true ↔ ordinary = true ∧ 1984 ≤ s.journal.held + s.journal.outstanding := by
    rw [Bool.and_eq_true, Bool.not_eq_true', Journal.isOpen, decide_eq_false_iff_not, Journal.taken, Nat.not_lt]
  unfold State.readiness
  dsimp only
  rw [← hzone, ite_or]
  simp only [apply_ite readinessCode]
  exact if_congr (Bool.not_eq_true' _).to_iff rfl <| if_congr (Bool.not_eq_true' _).to_iff rfl <| if_congr husable rfl <| if_congr Iff.rfl rfl
    <| if_congr Option.isNone_iff_eq_none rfl <| if_congr hfull rfl rfl

theorem readinessCode_lane (s : State) (l : Lane) : readinessCode (s.laneReadiness l) = readinessNumber s l := by
  have hcode := readinessCode_readiness s
  unfold State.laneReadiness readinessNumber
  cases hservice : (s.gate l).service <;> simp [hcode] <;> rfl

theorem tapBytes_eq (s : State) (l : Lane) :
    s.tapBytes l ++ [reservationCode (s.journal.reservations.get l)] = tapReport s l := by
  unfold State.tapBytes tapReport
  rw [readinessCode_lane]
  simp only [boolByte, mark, List.append_assoc, List.cons_append, List.nil_append]

/-- The credits of a lane are reported in list order, a free value drawn for the lapse time left of each (R160; log entry 7). -/
theorem creditsBytes_eq (cs : List Credit) (s : State) (n : Nat) (draws : Nat) (h : s.draws = draws + n) :
    s.creditsBytes cs = ((cs.zipIdx n).flatMap fun x => beBytes 8 x.1.serial.toNat ++ [mark x.1.inUse]
        ++ optionalNat 2 (x.1.lapse.map fun d => min (d * 1000) (Config.millisecondsLeft (draws + x.2))),
      { s with draws := s.draws + cs.length }) := by
  induction cs generalizing s n with
  | nil => rfl
  | cons c cs ih =>
    unfold State.creditsBytes State.timeLeft
    dsimp only
    rw [ih { s with draws := s.draws + 1 } (n + 1) (by rw [← Nat.add_assoc, ← h])]
    simp [h, creditBytes, mark, boolByte, Function.comp_def]
    omega

theorem laneBytes_eq (s : State) (l : Lane) : s.laneBytes l
    = (tapReport s l ++ passageReport s l ++ indicatorReport s l, { s with draws := s.draws + (s.gate l).credits.length + 1 }) := by
  unfold State.laneBytes
  rw [creditsBytes_eq _ s 0 s.draws rfl]
  dsimp only [State.timeLeft]
  rw [tapBytes_eq]
  refine Prod.ext ?_ rfl
  simp only [Passages.bytes, passageReport, Indicator.bytes, indicatorReport, Stats.bytes, Input.stateByte,
    boolByte, mark, b1, b2, List.flatMap_cons, List.append_assoc, List.cons_append, List.nil_append]
  rfl

/-! ### TARIFF STATUS -/

theorem tariffBytes_eq (s : State) : s.tariffBytes = optionalNat 2 s.tariff.activeVersion
    ++ [if s.tariff.usable = true then 0 else 1, pendingCode s.tariff.pending] ++ optionalNat 2 s.tariff.pendingVersion
    ++ optionalNat 4 s.tariff.effective ++ [validationCode s.tariff.validation] ++ beBytes 1 (s.holders s.tariff.active)
    ++ beBytes 1 (s.holders s.tariff.pendingId) := by
  have hbyte : boolByte (!s.tariff.usable) = if s.tariff.usable = true then 0 else 1 := by cases s.tariff.usable <;> rfl
  rw [← hbyte]
  rfl

/-! ### O50 -/

/-- Settles O50: each selector's report is the bytes of its blocks. -/
theorem reportingRequestsChangeNothing : Obligations.ReportingRequestsChangeNothing := by
  intro s selector lane hserving status
  have answers {a : Answer} {u : State} (hwork : s.status selector lane = (a, u)) (hlink : u.link = s.link) :
      Answers (.statusGet selector lane) s 0x01 a u :=
    answers_of_work hserving (work := fun s => s.status selector lane) rfl hwork hlink
  refine ⟨fun h => answers ?_ rfl, fun cause result hselector hreport => answers ?_ rfl, fun hselector => answers ?_ rfl,
    fun hselector => answers ?_ rfl, fun l hselector hl => answers ?_ rfl, ?_, ?_⟩
  · unfold State.status
    rcases h with h | ⟨rfl, hlane⟩
    · have hne (n : Byte) (hn : n.toNat ≤ 3) : selector ≠ n := fun heq => by
        rw [heq] at h
        omega
      rw [if_neg (hne 0 (by decide)), if_neg (hne 1 (by decide)), if_neg (hne 2 (by decide)), if_neg (hne 3 (by decide))]
      rfl
    · rw [laneOf_none hlane]
      rfl
  · rw [hselector, ← partBytes_eq hreport]
    rfl
  · rw [hselector, ← screeningBytes_eq]
    rfl
  · rw [hselector, ← journalBytes_eq]
    rfl
  · rw [hselector, State.status, laneOf_some hl]
    dsimp only
    rw [laneBytes_eq]
    rfl
  · exact answers_of_work hserving (work := fun s => (ok (beBytes 4 s.clock.time ++ [boolByte s.clock.timeSet]), s)) rfl rfl rfl
  · exact answers_of_work hserving (work := fun s => (ok s.tariffBytes, s)) rfl (by rw [tariffBytes_eq]; rfl) rfl

end Sys2Proof.Machine

end

/-! ## Chapters 10 and 11: how requests are answered -/

section

-- Proofs are checked in order: as one text the file would otherwise hold more waiting proofs than the check has memory for.
set_option Elab.async false

namespace Sys2Proof.Machine

open JournalProofs (answers_of_work)

/-! ### What serves a request leaves the host link alone -/

theorem Effect.link_same {ps : List Part} {s t : State} (h : Effect ps s t) (hps : Part.link ∉ ps := by simp) : t.link = s.link :=
  h.same .link hps

theorem configureLane_link (s : State) (lane : Byte) (x : LaneSettings) : (s.configureLane lane x).2.link = s.link := by
  unfold State.configureLane
  split
  · rfl
  · split
    · rfl
    · split
      · rfl
      · split
        · rfl
        · exact (beamChange_effect (applyConfig_credits _) ⟨rfl, id, .inl⟩).link_same

theorem laneService_link (s : State) (lane : Byte) {f : State → Lane → Option Reason × State}
    (hf : ∀ l, (f s l).2.link = s.link) : (s.laneService lane f).2.link = s.link := by
  unfold State.laneService
  split
  · rfl
  next l _ =>
    dsimp only
    split <;> exact hf l

/-- A request is served by its block's work, which leaves the host link alone. -/
theorem exec_request {c : Instr} {kind : Byte} (h : requestKind c = some kind) (hreset : c ≠ .reset) :
    ∃ work : State → Answer × State, ∀ s, exec c s = .next (s.hostServe kind c work) ∧ (work s).2.link = s.link := by
  cases c with
  | statusGet selector lane => cases h; exact ⟨_, fun s => ⟨rfl, (status_effect s selector lane).link_same⟩⟩
  | timeSet time => cases h; exact ⟨_, fun s => ⟨rfl, (setTime_effect s _).link_same⟩⟩
  | timeGet => cases h; exact ⟨_, fun s => ⟨rfl, rfl⟩⟩
  | stationSet station network skew timeout => cases h; exact ⟨_, fun s => ⟨rfl, rfl⟩⟩
  | laneConfig lane settings => cases h; exact ⟨_, fun s => ⟨rfl, configureLane_link s lane settings⟩⟩
  | laneServiceIn lane => cases h; exact ⟨_, fun s => ⟨rfl, laneService_link s lane fun l => (serviceIn_effect s l).link_same⟩⟩
  | laneServiceOut lane => cases h; exact ⟨_, fun s => ⟨rfl, laneService_link s lane fun l => (serviceOut_effect s l).link_same⟩⟩
  | laneServiceHoldOpen lane =>
    cases h; exact ⟨_, fun s => ⟨rfl, laneService_link s lane fun l => (serviceHoldOpen_effect s l).link_same⟩⟩
  | tariffBegin version => cases h; exact ⟨_, fun s => ⟨rfl, (beginTariff_effect s _).link_same⟩⟩
  | tariffWrite part start items => cases h; exact ⟨_, fun s => ⟨rfl, (writeTariff_effect s part _ items).link_same⟩⟩
  | tariffClose => cases h; exact ⟨_, fun s => ⟨rfl, (closeTariff_effect s).link_same⟩⟩
  | tariffActivate time => cases h; exact ⟨_, fun s => ⟨rfl, (activateTariff_effect s _).link_same⟩⟩
  | tariffStatus => cases h; exact ⟨_, fun s => ⟨rfl, rfl⟩⟩
  | keyLoad slot version wrapped => cases h; exact ⟨_, fun s => ⟨rfl, (loadKey_effect s _ _ _).link_same⟩⟩
  | denyAdd items => cases h; exact ⟨_, fun s => ⟨rfl, (addDenyItems_effect s items).link_same⟩⟩
  | denyRemove serials => cases h; exact ⟨_, fun s => ⟨rfl, (removeDeny_effect s serials).link_same⟩⟩
  | denyClear => cases h; exact ⟨_, fun s => ⟨rfl, (clearDeny_effect s).link_same⟩⟩
  | suspectRead position count => cases h; exact ⟨_, fun s => ⟨rfl, (readSuspectPage_effect s _ _).link_same⟩⟩
  | suspectClear serial => cases h; exact ⟨_, fun s => ⟨rfl, (clearSuspect_effect s serial).link_same⟩⟩
  | feedSightings items => cases h; exact ⟨_, fun s => ⟨rfl, (feed_effect s items).link_same⟩⟩
  | journalRead start count => cases h; exact ⟨_, fun s => ⟨rfl, (journalRead_effect s _ _).link_same⟩⟩
  | journalRelease upto => cases h; exact ⟨_, fun s => ⟨rfl, (journalRelease_effect s _).link_same⟩⟩
  | eventsPeek => cases h; exact ⟨_, fun s => ⟨rfl, rfl⟩⟩
  | eventsTake => cases h; exact ⟨_, fun s => ⟨rfl, rfl⟩⟩
  | eventsEnable flags => cases h; exact ⟨_, fun s => ⟨rfl, rfl⟩⟩
  | templateWrite number cells slots => cases h; exact ⟨_, fun s => ⟨rfl, (writeTemplate_effect s number cells slots).link_same⟩⟩
  | resultMap items => cases h; exact ⟨_, fun s => ⟨rfl, (mapResults_effect s items).link_same⟩⟩
  | eccCounts clear => cases h; exact ⟨_, fun s => ⟨rfl, (eccCounts_effect s clear).link_same⟩⟩
  | eccInject memory kind => cases h; exact ⟨_, fun s => ⟨rfl, (inject_effect s memory kind).link_same⟩⟩
  | reset => exact absurd rfl hreset
  | unknownKind kind body => cases h; exact ⟨_, fun s => ⟨rfl, rfl⟩⟩
  | _ => cases h

/-! ### Replies to the requests of the receive queue -/

/-- The oldest unanswered request is marked (R180). -/
theorem markAnswered_oldest {before after : List QueuedRequest} {q : QueuedRequest} (hbefore : ∀ x ∈ before, x.answered = true)
    (hq : q.answered = false) : markAnswered (before ++ q :: after) = before ++ { q with answered := true } :: after := by
  induction before with
  | nil => simp [markAnswered, hq]
  | cons x xs ih =>
    obtain ⟨hx, hxs⟩ := List.forall_mem_cons.mp hbefore
    rw [List.cons_append, markAnswered, if_pos hx, ih hxs]
    rfl

theorem next_oldest {before after : List QueuedRequest} {q : QueuedRequest} {k : Link} (hqueue : k.queue = before ++ q :: after)
    (hbefore : ∀ x ∈ before, x.answered = true) (hq : q.answered = false) : k.next = some q := by
  have hnone : before.find? (fun x => !x.answered) = none := by
    rw [List.find?_eq_none]
    exact fun x hx => by rw [hbefore x hx]; decide
  rw [Link.next, hqueue, List.find?_append, hnone, List.find?_cons_of_pos (by rw [hq]; rfl)]
  rfl

/-- A request of the receive queue is answered under its own tag (R180, R181). -/
theorem answerRequest_queued {s : State} {kind : Byte} {a : Answer} {begins : Bool} {before after : List QueuedRequest} {q : QueuedRequest}
    (hqueue : s.link.queue = before ++ q :: after) (hbefore : ∀ x ∈ before, x.answered = true) (hq : q.answered = false) :
    s.answerRequest kind (decodeRequest q.kind q.body) a begins = { s with link := { s.link with
      queue := before ++ { q with answered := true } :: after
      replies := s.link.replies ++ [⟨replyKind kind, some q.tag, a, true, begins⟩] } } := by
  unfold State.answerRequest
  rw [next_oldest hqueue hbefore hq]
  dsimp only
  rw [if_pos rfl, ← markAnswered_oldest hbefore hq, ← hqueue]
  rfl

/-- Answering a request places one reply and marks at most its request. -/
theorem answerRequest_replied (s : State) (kind : Byte) (c : Instr) (a : Answer) (begins : Bool) : ∃ tag place queue,
    s.answerRequest kind c a begins = { s with link := { s.link with
      queue := queue
      replies := s.link.replies ++ [⟨replyKind kind, tag, a, place, begins⟩] } }
    ∧ Link.requests { s.link with queue := queue } = s.link.requests := by
  unfold State.answerRequest
  split
  · split
    · exact ⟨_, _, _, rfl, markAnswered_requests _⟩
    · exact ⟨_, _, _, rfl, rfl⟩
  · exact ⟨_, _, _, rfl, rfl⟩

/-! ### O52 -/

theorem exec_reset_serving {s : State} (h : Serving s) : exec .reset s = .next s.acceptReset := congrArg _ (if_pos h)

theorem exec_reset_notServing {s : State} (h : ¬Serving s) :
    exec .reset s = .next (s.hostServe 0x1C .reset fun s => (ok [], s)) := congrArg _ (if_neg h)

/-- A request that is not served is a call of `hostServe`, RESET too. -/
theorem exec_notServing {c : Instr} {kind : Byte} (h : requestKind c = some kind) {s : State} (hs : ¬Serving s) :
    ∃ work, exec c s = .next (s.hostServe kind c work) := by
  by_cases hreset : c = .reset
  · subst hreset
    cases h
    exact ⟨_, exec_reset_notServing hs⟩
  · obtain ⟨work, hwork⟩ := exec_request h hreset
    exact ⟨work, (hwork s).1⟩

theorem hostServe_startUp {s : State} (h : s.phase = .startUp) (kind : Byte) (c : Instr) (work : State → Answer × State) :
    s.hostServe kind c work = s.addReply ⟨replyKind kind, none, starting, false, false⟩ := by
  unfold State.hostServe
  rw [h]

theorem hostServe_notHanded {s : State} (h : s.phase = .held ∨ s.phase = .unpowered ∨ (s.phase = .running ∧ s.link.reset ≠ .none))
    (kind : Byte) (c : Instr) (work : State → Answer × State) : s.hostServe kind c work = s := by
  unfold State.hostServe
  rcases h with h | h | ⟨h, hreset⟩
  · rw [h]
  · rw [h]
  · rw [h]
    exact if_neg hreset

theorem hostServe_queued {s : State} (h : Serving s) {kind : Byte} {work : State → Answer × State}
    (hlink : (work s).2.link = s.link) {before after : List QueuedRequest} {q : QueuedRequest}
    (hqueue : s.link.queue = before ++ q :: after) (hbefore : ∀ x ∈ before, x.answered = true) (hq : q.answered = false) :
    s.hostServe kind (decodeRequest q.kind q.body) work = { (work s).2 with link := { s.link with
      queue := before ++ { q with answered := true } :: after
      replies := s.link.replies ++ [⟨replyKind kind, some q.tag, (work s).1, true, false⟩] } } := by
  unfold State.hostServe
  rw [h.1]
  dsimp only
  rw [if_pos h.2, answerRequest_queued (by rw [hlink]; exact hqueue) hbefore hq, hlink]

/-- Settles O52: the phases that hand nothing on, then the answer of the block under the tag of its request. -/
theorem requestsAreAnsweredOrNotHandedOn : Obligations.RequestsAreAnsweredOrNotHandedOn := by
  intro c kind s hkind answered
  refine ⟨fun hstart => ?_, fun hidle => ?_, fun before q after hserving hqueue hbefore hq hc => ?_, fun hreset hserving => ?_,
    fun body hc hserving => ?_⟩
  · obtain ⟨work, hexec⟩ := exec_notServing hkind (s := s) fun h => by simp [h.1] at hstart
    rw [hexec, hostServe_startUp hstart]
    rfl
  · obtain ⟨work, hexec⟩ := exec_notServing hkind (s := s) fun h => by simp [h.1, h.2] at hidle
    rw [hexec, hostServe_notHanded hidle]
  · subst hc
    by_cases hreset : decodeRequest q.kind q.body = .reset
    · have hone : kind = 0x1C := by rw [hreset] at hkind; exact (Option.some.inj hkind).symm
      rw [hreset, exec_reset_serving hserving, State.acceptReset, ← hreset, answerRequest_queued hqueue hbefore hq, ← hone]
      exact ⟨_, _, _, rfl, rfl, rfl⟩
    · obtain ⟨work, hwork⟩ := exec_request hkind hreset
      obtain ⟨hexec, hlink⟩ := hwork s
      rw [hexec, hostServe_queued hserving hlink hqueue hbefore hq]
      exact ⟨_, _, _, rfl, rfl, rfl⟩
  · subst hreset
    cases hkind
    obtain ⟨tag, place, queue, hreply, hrequests⟩ := answerRequest_replied s 0x1C .reset (ok []) true
    rw [exec_reset_serving hserving, State.acceptReset, hreply]
    exact ⟨_, tag, place, rfl, rfl, hrequests⟩
  · subst hc
    cases hkind
    exact answers_of_work hserving (work := fun s => (badRequest, s)) rfl rfl rfl

end Sys2Proof.Machine

end

/-! ## Chapter 8: templates and the result map -/

section

-- Proofs are checked in order: as one text the file would otherwise hold more waiting proofs than the check has memory for.
set_option Elab.async false

namespace Sys2Proof.Machine

open JournalProofs (answers_of_work)

/-! ### Composing frames anew -/

/-- A lane whose indicator a condition picks composes its frame anew. -/
def redraw (d : Display) (which : Indicator → Bool) (u : LaneUnit) : LaneUnit :=
  if which u.ind then { u with ind := refreshed d u.ind } else u

/-- The state with one lane redrawn where a condition picks it. -/
def State.redrawLane (s : State) (which : Indicator → Bool) (l : Lane) : State :=
  { s with lanes := s.lanes.set l (redraw s.display which (s.lane l)) }

theorem compose_redrawLane {s : State} (h : DisplayClean s) (which : Indicator → Bool) (l : Lane) :
    (if which (s.ind l) then s.compose l else s) = s.redrawLane which l := by
  by_cases hwhich : which (s.ind l) = true
  · rw [if_pos hwhich, State.compose_clean h, State.redrawLane, show redraw s.display which (s.lane l) = _ from if_pos hwhich]
    rfl
  · rw [if_neg hwhich, State.redrawLane, show redraw s.display which (s.lane l) = _ from if_neg hwhich]
    exact congrArg (fun x => { s with lanes := x }) (PerLane.set_get_self s.lanes l).symm

/-- With undamaged templates each lane is redrawn on its own (R162, R163). -/
theorem recompose_clean {s : State} (h : DisplayClean s) (which : Indicator → Bool) :
    s.recompose which = { s with lanes := s.lanes.map (redraw s.display which) } := by
  have hfold (ls : List Lane) (u : State) (hu : DisplayClean u) :
      ls.foldl (fun s l => if which (s.ind l) then s.compose l else s) u = ls.foldl (State.redrawLane · which ·) u := by
    induction ls generalizing u with
    | nil => rfl
    | cons l ls ih =>
      rw [List.foldl_cons, compose_redrawLane hu]
      exact ih (u.redrawLane which l) hu
  exact hfold allLanes s h

/-- No lane is redrawn when the condition picks none. -/
theorem recompose_none {s : State} {which : Indicator → Bool} (h : ∀ l, which (s.ind l) = false) : s.recompose which = s := by
  have hstep (l : Lane) : (if which (s.ind l) then s.compose l else s) = s := if_neg (by rw [h l]; decide)
  unfold State.recompose allLanes
  simp only [List.foldl_cons, List.foldl_nil, hstep]

theorem redraw_iff (d : Display) {which : Indicator → Bool} {picks : Indicator → Prop} (h : ∀ i, which i = true ↔ picks i) (u : LaneUnit) :
    (picks u.ind → redraw d which u = { u with ind := refreshed d u.ind }) ∧ (¬picks u.ind → redraw d which u = u) :=
  ⟨fun hpicks => if_pos ((h _).mpr hpicks), fun hpicks => if_neg (mt (h _).mp hpicks)⟩

/-! ### The checks of R162 and R163 -/

theorem cellOk_iff (c : RawCell) : cellOk c = true ↔ c.glyph.toNat ≤ 127 ∧ c.colour.toNat ≤ 7 := by
  simp [cellOk]

theorem slotOk_iff (x : RawSlot) : slotOk x = true ↔ x.kind.toNat ≤ 1 ∧ x.line.toNat ≤ 1 ∧ x.rightEnd.toNat ≤ 15 ∧ 1 ≤ x.width.toNat
    ∧ x.width.toNat ≤ 10 ∧ x.width.toNat ≤ x.rightEnd.toNat + 1 := by
  simp only [slotOk, Bool.and_eq_true, decide_eq_true_iff, and_assoc]

/-- Slots that are not empty overlap when they have a cell in common. -/
theorem slotsOverlap_iff {x y : RawSlot} (hx : slotOk x = true) (hy : slotOk y = true) : slotsOverlap x y = true
    ↔ x.line = y.line ∧ ∃ n : Nat, x.rightEnd.toNat + 1 - x.width.toNat ≤ n ∧ n ≤ x.rightEnd.toNat
      ∧ y.rightEnd.toNat + 1 - y.width.toNat ≤ n ∧ n ≤ y.rightEnd.toNat := by
  obtain ⟨_, _, _, hxwidth, -, -⟩ := (slotOk_iff x).mp hx
  obtain ⟨_, _, _, hywidth, -, -⟩ := (slotOk_iff y).mp hy
  simp only [slotsOverlap, Bool.and_eq_true, beq_iff_eq, decide_eq_true_iff, and_assoc]
  refine and_congr_right' ⟨fun ⟨hxy, hyx⟩ => ?_, fun ⟨n, hxn, hnx, hyn, hny⟩ => by omega⟩
  exact ⟨max (x.rightEnd.toNat + 1 - x.width.toNat) (y.rightEnd.toNat + 1 - y.width.toNat), by omega, by omega, by omega, by omega⟩

theorem templateOk_iff (number : Byte) (cells : List RawCell) (slots : List RawSlot) : templateOk number cells slots = true
    ↔ number.toNat ≤ 47 ∧ cells.length = 32 ∧ (∀ c ∈ cells, cellOk c = true) ∧ slots.length ≤ 2 ∧ (∀ x ∈ slots, slotOk x = true)
      ∧ slots.Pairwise fun x y => ¬slotsOverlap x y = true := by
  unfold templateOk
  simp only [Bool.and_eq_true, decide_eq_true_iff, beq_iff_eq, List.all_eq_true, and_assoc]
  refine and_congr_right' (and_congr_right' (and_congr_right' ?_))
  match slots with
  | [] => simp
  | [x] => simp
  | [x, y] => simp
  | x :: y :: z :: xs => simp

theorem displayKeyOf_isSome (b : Byte) : (displayKeyOf b).isSome = true ↔ b.toNat ≤ 26 := by
  unfold displayKeyOf
  split
  next hresult =>
    have hlength : resultCodes.length = 23 := rfl
    rw [List.getElem?_eq_getElem (by rw [hlength]; exact hresult)]
    simp only [Option.map_some, Option.isSome_some, true_iff]
    omega
  next hstate =>
    have hnumber (n : Byte) : b = n ↔ b.toNat = n.toNat := BitVec.toNat_inj.symm
    simp only [hnumber, BitVec.reduceToNat]
    (repeat' split) <;> simp <;> omega

theorem mapItemOk_iff (x : Byte × Byte) : mapItemOk x = true ↔ x.1.toNat ≤ 26 ∧ x.2.toNat ≤ 47 := by
  rw [mapItemOk, Bool.and_eq_true, displayKeyOf_isSome, decide_eq_true_iff]

/-! ### Writing templates and the map -/

theorem DisplayClean.withTemplate {s : State} (h : DisplayClean s) (n : Nat) (t : Template) : DisplayClean
    { s with display := { s.display with templates := s.display.templates.set n ⟨t, .clean⟩ } } := by
  obtain ⟨hmap, htemplates⟩ := h
  refine ⟨hmap, fun x hx => ?_⟩
  rcases List.mem_or_eq_of_mem_set hx with hmem | rfl
  · exact htemplates x hmem
  · rfl

/-- The map with the items of a RESULT MAP applied in order (R163). -/
def mapped (map : List (Stored Nat)) (items : List (Byte × Byte)) : List (Stored Nat) :=
  items.foldl (fun m x => m.set x.1.toNat ⟨x.2.toNat, .clean⟩) map

theorem mapped_clean (items : List (Byte × Byte)) {map : List (Stored Nat)} (h : ∀ x ∈ map, x.bits = .clean) :
    ∀ x ∈ mapped map items, x.bits = .clean := by
  induction items generalizing map with
  | nil => exact h
  | cons i is ih =>
    refine ih fun x hx => ?_
    rcases List.mem_or_eq_of_mem_set hx with hmem | rfl
    · exact h x hmem
    · rfl

theorem mapItems_disarmed (items : List (Byte × Byte)) {s : State} (harmed : Disarmed s .templates) :
    s.mapItems items = { s with display := { s.display with map := mapped s.display.map items } } := by
  induction items generalizing s with
  | nil => rfl
  | cons x xs ih =>
    rw [State.mapItems, armed_none harmed]
    exact ih (s := { s with display := { s.display with map := s.display.map.set x.1.toNat ⟨x.2.toNat, .clean⟩ } }) harmed

/-- Settles O48: the checks made on the whole request, then each lane redrawn. -/
theorem templatesAndMapAreReplacedWhole : Obligations.TemplatesAndMapAreReplacedWhole := by
  intro s number cells slots items hserving share slotGood good itemsGood redrawn
  have hcells : (∀ c ∈ cells, cellOk c = true) ↔ ∀ c ∈ cells, c.glyph.toNat ≤ 127 ∧ c.colour.toNat ≤ 7 := by simp only [cellOk_iff]
  have hslots : (∀ x ∈ slots, slotOk x = true) ↔ ∀ x ∈ slots, slotGood x := by simp only [slotOk_iff]; rfl
  have hapart (h : ∀ x ∈ slots, slotOk x = true) : (slots.Pairwise fun x y => ¬slotsOverlap x y = true)
      ↔ slots.Pairwise fun x y => ¬share x y :=
    List.Pairwise.iff_of_mem fun hx hy => not_congr (slotsOverlap_iff (h _ hx) (h _ hy))
  have hgood : templateOk number cells slots = true ↔ good := by
    rw [templateOk_iff]
    refine and_congr_right' (and_congr_right' (and_congr hcells (and_congr_right' ?_)))
    exact ⟨fun ⟨h, hpairs⟩ => ⟨hslots.mp h, (hapart h).mp hpairs⟩, fun ⟨h, hpairs⟩ => ⟨hslots.mpr h, (hapart (hslots.mpr h)).mpr hpairs⟩⟩
  have hitems : ¬itemsGood ↔ items.length < 1 ∨ 27 < items.length ∨ items.all mapItemOk = false := by
    rw [← Bool.not_eq_true, List.all_eq_true]
    simp only [mapItemOk_iff, itemsGood, not_and_or, not_le]
  have writes {a : Answer} {u : State} (hwork : s.writeTemplate number cells slots = (a, u)) (hlink : u.link = s.link) :
      Answers (.templateWrite number cells slots) s 0x18 a u :=
    answers_of_work hserving (work := fun s => s.writeTemplate number cells slots) rfl hwork hlink
  have maps {a : Answer} {u : State} (hwork : s.mapResults items = (a, u)) (hlink : u.link = s.link) :
      Answers (.resultMap items) s 0x19 a u :=
    answers_of_work hserving (work := fun s => s.mapResults items) rfl hwork hlink
  refine ⟨fun h => writes (if_neg (mt hgood.mp h)) rfl, fun h hclean harmed => ?_, fun h => maps (if_pos (hitems.mp h)) rfl,
    fun h hclean harmed => ?_⟩
  · intro written d
    have hwork : s.writeTemplate number cells slots
        = (ok [], { s with display := d, lanes := s.lanes.map (redraw d (d.uses number.toNat)) }) := by
      rw [State.writeTemplate, if_pos (hgood.mpr h), armed_none harmed]
      exact congrArg (Prod.mk _) (recompose_clean (hclean.withTemplate number.toNat written) _)
    refine ⟨_, writes hwork rfl, rfl, fun l => ?_⟩
    dsimp only [State.lane]
    rw [PerLane.get_map]
    exact redraw_iff d (fun i => beq_iff_eq) (s.lane l)
  · intro d
    have hcleaned : DisplayClean { s with display := d } := ⟨mapped_clean items hclean.1, hclean.2⟩
    have hwork : s.mapResults items = (ok [], { s with
        display := d
        lanes := s.lanes.map (redraw d fun i => items.any fun x => x.1.toNat == keyIndex i.key) }) := by
      rw [State.mapResults, if_neg (mt hitems.mpr (not_not_intro h)), mapItems_disarmed items harmed]
      exact congrArg (Prod.mk _) (recompose_clean hcleaned _)
    refine ⟨_, maps hwork rfl, rfl, fun l => ?_⟩
    dsimp only [State.lane]
    rw [PerLane.get_map]
    refine redraw_iff d (picks := fun i => ∃ x ∈ items, x.1.toNat = keyIndex i.key) (fun i => ?_) (s.lane l)
    simp only [List.any_eq_true, beq_iff_eq]

end Sys2Proof.Machine

end

/-! ## Chapters 9 and 10: events, memory check counters, injections -/

section

-- Proofs are checked in order: as one text the file would otherwise hold more waiting proofs than the check has memory for.
set_option Elab.async false

namespace Sys2Proof.Machine

open JournalProofs (answers_of_work beBytes_one)

/-! ### Events -/

/-- A set of flags is empty when none of its bits is set. -/
theorem flags_ne_zero_iff (x y : BitVec 29) : (x &&& y) ≠ 0 ↔ ∃ n < 29, x.getLsbD n = true ∧ y.getLsbD n = true := by
  constructor
  · intro h
    by_contra hnone
    refine h (BitVec.eq_of_getLsbD_eq fun n hn => ?_)
    refine (Bool.eq_false_iff.mpr fun hbit => hnone ⟨n, hn, ?_⟩).trans BitVec.getLsbD_zero.symm
    rwa [BitVec.getLsbD_and, Bool.and_eq_true] at hbit
  · rintro ⟨n, -, hx, hy⟩ h
    have hbit : (x &&& y).getLsbD n = false := by rw [h]; exact BitVec.getLsbD_zero
    rw [BitVec.getLsbD_and, hx, hy] at hbit
    exact Bool.noConfusion hbit

theorem atn_iff {s : State} (h : s.phase = .running) :
    s.atn = true ↔ ∃ n < 29, s.events.pending.getLsbD n = true ∧ s.events.enabled.getLsbD n = true := by
  rw [State.atn, h, ← flags_ne_zero_iff, ← bne_iff_ne]
  rfl

theorem listBytes_eq (e : Events) : e.listBytes = beBytes 1 ((List.range 29).filter fun n => e.pending.getLsbD n).length
    ++ ((List.range 29).filter fun n => e.pending.getLsbD n).flatMap eventName := by
  rw [beBytes_one]
  rfl

/-! ### Injections -/

theorem memoryOf_none {b : Byte} (h : 4 < b.toNat) : memoryOf b = none := by
  unfold memoryOf
  split <;> first | rfl | exact absurd h (by decide)

theorem injectionOf_none {b : Byte} (h : 1 < b.toNat) : injectionOf b = none := by
  unfold injectionOf
  split <;> first | rfl | exact absurd h (by decide)

theorem injectionOf_some {b : Byte} {j : Injection} (h : b.toNat = if j = .single then 0 else 1) : injectionOf b = some j := by
  cases j with
  | single => rw [show b = 0 from BitVec.eq_of_toNat_eq h]; rfl
  | double => rw [show b = 1 from BitVec.eq_of_toNat_eq h]; rfl

theorem injectionCode_eq (a : Option Injection) : injectionCode a = if a = none then 0 else if a = some .single then 1 else 2 := by
  rcases a with _ | _ | _ <;> rfl

theorem armedBytes_eq (e : Ecc) : e.armedBytes = [e.journal, e.sighting, e.lists, e.tariff, e.templates].map fun u =>
    if u.armed = none then 0 else if u.armed = some .single then 1 else 2 := by
  simp only [← injectionCode_eq]
  rfl

theorem get_setUnit (e : Ecc) (m n : Memory) (u : MemoryUnit) : (e.set m u).get n = if n = m then u else e.get n := by
  cases m <;> cases n <;> rfl

/-- What an armed injection leaves of the item it is applied to (R178). -/
def struckBits (j : Injection) : Integrity := if j = .single then .single else .double

/-- An armed injection is applied to the next item written and spent (R178). -/
theorem store_armed {s : State} {m : Memory} {j : Injection} (h : (s.ecc.get m).armed = some j) {α : Type} (x : α) :
    s.store m x = (⟨x, struckBits j⟩, s.spent m) := by
  unfold State.store
  dsimp only
  rw [h]
  cases j <;> rfl

/-- A record that takes an armed injection, admitted with no event (R123, R126, R178). -/
theorem appendUnreserved_armed {s : State} {j : Injection} (harmed : (s.ecc.get .journal).armed = some j)
    (hroom : s.journal.held + s.journal.outstanding + 1 < 1984) (hhigh : s.journal.held + 1 ≠ 1536) (c : AdmissionClass) (r : JournalRecord) :
    s.appendUnreserved c r = { s.spent .journal with journal := { s.journal with
      records := s.journal.records ++ [⟨{ r with time := s.clock.time }, struckBits j⟩]
      nextSequence := seqForward s.journal.nextSequence 1 } } := by
  have hlimit : 1984 ≤ classLimit c := by cases c <;> decide
  have hbefore : s.journal.taken < classLimit c := by unfold Journal.taken; omega
  have hafter : ¬(s.journal.taken < 1984 ∧ 1984 ≤ (s.appendRecord r).journal.taken) := by
    rw [appendRecord_taken]
    unfold Journal.taken
    omega
  unfold State.appendUnreserved
  dsimp only
  rw [if_pos hbefore, State.noteClosing, if_neg hafter, State.appendRecord, store_armed harmed]
  refine if_neg ?_
  simpa [Journal.held, State.spent] using hhigh

/-- A card update of a serial without an entry that takes an armed injection (R28, R178). -/
theorem cardUpdate_armed {s : State} {j : Injection} (harmed : (s.ecc.get .sighting).armed = some j)
    (hroom : s.screening.sightings.length < 16384) {ser : Serial} (habsent : ∀ x ∈ s.screening.sightings, x.val.serial ≠ ser)
    (l : Lane) (counter : Nat) (purse : Int) (trip : Trip) :
    s.cardUpdate l ser counter purse trip = { s.spent .sighting with screening := { s.screening with
      sightings := s.screening.sightings ++ [⟨updateOf s l ser counter purse trip, struckBits j⟩] } } := by
  rw [State.cardUpdate, lookupSighting_none habsent]
  dsimp only
  rw [State.insertSighting, State.makeSightingRoom, if_pos hroom, store_armed harmed]
  rfl

/-- A denylist entry whose update takes an armed injection (R31, R178). -/
theorem addDenyItems_armed {s : State} {j : Injection} (harmed : (s.ecc.get .lists).armed = some j) {x : DenyItem} {e : DenyEntry}
    (hserial : x.serial ≠ 0) (haction : x.action.toNat ≤ 1) (hvalid : s.screening.denyValid = true)
    (hfind : s.screening.denylist.find? (fun y => y.val.serial == x.serial) = some ⟨e, .clean⟩) :
    s.addDenyItems [x] = (ok [0, 1, 0, 0], { s.spent .lists with screening := { s.screening with
      denylist := s.screening.denylist.map fun y => if y.val.serial = x.serial then ⟨deniedEntry x, struckBits j⟩ else y } }) := by
  have hbad : ¬([x].length < 1 ∨ 51 < [x].length ∨ [x].any denyItemBad = true) := by
    simp only [List.length_singleton, List.any_cons, List.any_nil, Bool.or_false, denyItemBad_iff]
    have hlow : ¬1 < x.action.toNat := by omega
    exact fun h => h.elim (by decide) fun h => h.elim (by decide) fun h => h.elim hserial hlow
  rw [State.addDenyItems, if_neg hbad, hvalid, State.takeDenyItems, lookupDeny_clean hfind]
  dsimp only
  rw [if_neg (by decide), if_neg (by simp [hvalid]), if_pos Option.isSome_some, denyEntryOf_eq (by omega), State.updateDeny, store_armed harmed]
  simp [State.takeDenyItems, b1, beBytes_one]
  rfl

theorem clearPending_armed {s : State} {j : Injection} (harmed : (s.ecc.get .tariff).armed = some j) (version : Nat) :
    s.clearPending version = { s.spent .tariff with tariff := { s.tariff.setArea s.tariff.pendingId
        ⟨{ Bank.cleared with header := ⟨0, struckBits j⟩ :: List.replicate 13 ⟨0, .clean⟩ }, some version⟩ with
      pending := .loading
      effective := none
      validation := .none } } := by
  unfold State.clearPending
  rw [store_armed harmed]
  rfl

/-- A map entry that takes an armed injection, of a key that no lane displays (R163, R178). -/
theorem mapResults_armed {s : State} {j : Injection} (harmed : (s.ecc.get .templates).armed = some j) {key number : Byte}
    (hkey : key.toNat ≤ 26) (hnumber : number.toNat ≤ 47) (hshown : ∀ l, keyIndex (s.ind l).key ≠ key.toNat) :
    s.mapResults [(key, number)] = (ok [], { s.spent .templates with display := { s.display with
      map := s.display.map.set key.toNat ⟨number.toNat, struckBits j⟩ } }) := by
  have hok : ¬([(key, number)].length < 1 ∨ 27 < [(key, number)].length ∨ [(key, number)].all mapItemOk = false) := by
    simp [mapItemOk_iff, hkey, hnumber]
  rw [State.mapResults, if_neg hok, State.mapItems, store_armed harmed]
  refine congrArg (Prod.mk _) (recompose_none fun l => ?_)
  show ((key.toNat == keyIndex (s.ind l).key) || false) = false
  rw [Bool.or_false, beq_eq_false_iff_ne]
  exact (hshown l).symm

/-! ### O49 -/

/-- Settles O49: the events and the counters by their requests, an injection by the write that takes it. -/
theorem eventsCountersAndInjectionsAreServed : Obligations.EventsCountersAndInjectionsAreServed := by
  intro s flags clear memory kind hserving listed list zeroed arms counts
  have hlist : s.events.listBytes = list := listBytes_eq s.events
  have harms (e : Ecc) : e.armedBytes = arms e := armedBytes_eq e
  have hcounts : s.ecc.bytes = counts ++ arms s.ecc := by
    rw [← harms]
    rfl
  have hserve {a : Answer} {u : State} (hwork : s.eccCounts clear = (a, u)) (hlink : u.link = s.link) :
      Answers (.eccCounts clear) s 0x1A a u :=
    answers_of_work hserving (work := fun s => s.eccCounts clear) rfl hwork hlink
  have hinject {a : Answer} {u : State} (hwork : s.inject memory kind = (a, u)) (hlink : u.link = s.link) :
      Answers (.eccInject memory kind) s 0x1B a u :=
    answers_of_work hserving (work := fun s => s.inject memory kind) rfl hwork hlink
  refine ⟨?_, ?_, ?_, atn_iff hserving.1, fun h => ?_, fun h => ?_, fun h => ?_, fun h => ?_, fun m j hm hj => ?_, fun m j harmed => ?_⟩
  · rw [← hlist]
    exact answers_of_work hserving (work := fun s => (ok s.events.listBytes, s)) rfl rfl rfl
  · rw [← hlist]
    exact answers_of_work hserving (work := State.takeEvents) rfl rfl rfl
  · refine answers_of_work hserving (work := fun s => s.enableEvents flags) rfl ?_ rfl
    unfold State.enableEvents Events.enableBytes
    simp [ok, BitVec.ofNat_toNat]
  · refine hserve ?_ rfl
    rw [State.eccCounts, if_pos h, hcounts]
    rfl
  · refine hserve ?_ rfl
    rw [State.eccCounts, if_neg (by rw [h]; decide), if_pos h, hcounts]
    rfl
  · refine hserve ?_ rfl
    have hne (n : Byte) (hn : n.toNat ≤ 1) : clear ≠ n := fun heq => by
      rw [heq] at h
      omega
    rw [State.eccCounts, if_neg (hne 0 (by decide)), if_neg (hne 1 (by decide))]
    rfl
  · refine hinject ?_ rfl
    rcases h with h | h
    · rw [State.inject, memoryOf_none h]
      rfl
    · rw [State.inject, injectionOf_none h]
      cases memoryOf memory <;> rfl
  · refine ⟨s.ecc.set m { s.ecc.get m with armed := some j }, ?_, fun n => ?_⟩
    · rw [← harms]
      refine hinject ?_ rfl
      rw [State.inject, hm, injectionOf_some hj]
      rfl
    · rw [get_setUnit]
      by_cases hn : n = m
      · subst hn
        rfl
      · rw [if_neg hn, if_neg hn]
  · intro struck
    refine ⟨fun α x => store_armed harmed x, ?_, ?_, ?_, ?_, ?_⟩
    · rintro rfl c r hroom hhigh
      exact congrArg _ ((if_pos hserving.1).trans (appendUnreserved_armed harmed hroom hhigh c r))
    · rintro rfl l ser counter purse trip hroom habsent
      exact congrArg _ ((if_pos hserving.1).trans (cardUpdate_armed harmed hroom habsent l counter.toNat purse trip))
    · rintro rfl x e hserial haction hvalid hfind
      exact answers_of_work hserving (work := fun s => s.addDenyItems [x]) rfl (addDenyItems_armed harmed hserial haction hvalid hfind) rfl
    · rintro rfl version hversion hactive hpending hholders
      refine answers_of_work hserving (work := fun s => s.beginTariff version.toNat) rfl ?_ rfl
      have hzero : version.toNat ≠ 0 := fun h => hversion (BitVec.eq_of_toNat_eq h)
      rw [State.beginTariff, if_neg hzero, if_neg hactive, if_neg hpending, if_neg (not_not_intro hholders), clearPending_armed harmed]
      rfl
    · rintro rfl key number hkey hnumber hshown
      exact answers_of_work hserving (work := fun s => s.mapResults [(key, number)]) rfl (mapResults_armed harmed hkey hnumber hshown) rfl

end Sys2Proof.Machine

end

/-! ## Chapter 8: what a lane shows -/

section

-- Proofs are checked in order: as one text the file would otherwise hold more waiting proofs than the check has memory for.
set_option Elab.async false

namespace Sys2Proof.Machine

/-! ### Glyphs put into consecutive cells (R167) -/

/-- The glyph of a cell replaced, its colour kept. -/
def DispCell.withGlyph (g : Nat) (c : DispCell) : DispCell := { c with glyph := g }

theorem putGlyphs_getElem? (gs : List Nat) (cells : List DispCell) (start n : Nat) : (putGlyphs cells start gs)[n]?
    = if start ≤ n then match gs[n - start]? with
        | some g => cells[n]?.map (DispCell.withGlyph g)
        | none => cells[n]?
      else cells[n]? := by
  induction gs generalizing cells start with
  | nil => simp [putGlyphs]
  | cons g gs ih =>
    rw [putGlyphs, ih]
    simp only [List.getElem?_modify]
    by_cases heq : start = n
    · subst heq
      simp
      rfl
    · by_cases hle : start ≤ n
      · obtain ⟨k, hk⟩ : ∃ k, n - start = k + 1 := ⟨n - start - 1, by omega⟩
        have hrest : n - (start + 1) = k := by omega
        simp [heq, hle, hk, hrest, show start + 1 ≤ n by omega]
      · simp [heq, hle, show ¬start + 1 ≤ n by omega]

theorem putGlyphs_length (gs : List Nat) (cells : List DispCell) (start : Nat) : (putGlyphs cells start gs).length = cells.length := by
  induction gs generalizing cells start with
  | nil => rfl
  | cons g gs ih => rw [putGlyphs, ih, List.length_modify]

theorem putGlyphs_colour (gs : List Nat) (cells : List DispCell) (start : Nat) :
    (putGlyphs cells start gs).map (·.colour) = cells.map (·.colour) := by
  induction gs generalizing cells start with
  | nil => rfl
  | cons g gs ih =>
    rw [putGlyphs, ih]
    refine List.ext_getElem? fun n => ?_
    rw [List.getElem?_map, List.getElem?_map, List.getElem?_modify]
    cases cells[n]? with
    | none => rfl
    | some c =>
      by_cases heq : start = n
      · simp [heq]
      · simp [heq]

/-- A cell outside the glyphs' places is kept. -/
theorem putGlyphs_kept {gs : List Nat} {start n : Nat} (h : ∀ k < gs.length, start + k ≠ n) (cells : List DispCell) :
    (putGlyphs cells start gs)[n]? = cells[n]? := by
  rw [putGlyphs_getElem?]
  split
  next hle =>
    have hbeyond : gs.length ≤ n - start := by
      by_contra hlt
      exact h (n - start) (by omega) (by omega)
    rw [List.getElem?_eq_none hbeyond]
  next => rfl

/-- The places of the glyphs show them. -/
theorem putGlyphs_shown {gs : List Nat} {cells : List DispCell} {start : Nat} (hfits : start + gs.length ≤ cells.length) :
    (List.range gs.length).map (fun k => (putGlyphs cells start gs)[start + k]?.map (·.glyph)) = gs.map some := by
  refine List.ext_getElem (by simp) fun k hk _ => ?_
  have hlength : k < gs.length := by simpa using hk
  have hcell : start + k < cells.length := by omega
  simp [putGlyphs_getElem?, List.getElem?_eq_getElem hlength, List.getElem?_eq_getElem hcell, DispCell.withGlyph]

/-! ### The text of a value (R168) -/

theorem digitChar_toNat {d : Nat} (h : d < 10) : d.digitChar.toNat = 0x30 + d := by
  interval_cases d <;> rfl

/-- The digits of a number are those of its tenth and its last digit. -/
theorem decimal_append {ds : List Nat} {n : Nat} (h : 10 ≤ n) (hds : Decimal ds (n / 10)) : Decimal (ds ++ [n % 10]) n := by
  obtain ⟨hne, hlow, hvalue, hhead⟩ := hds
  refine ⟨by simp, fun d hd => ?_, ?_, fun hzero => ?_⟩
  · rcases List.mem_append.mp hd with hmem | hmem
    · exact hlow d hmem
    · rw [List.mem_singleton.mp hmem]
      omega
  · rw [List.foldl_append, hvalue]
    simp only [List.foldl_cons, List.foldl_nil]
    omega
  · rw [List.head?_append_of_ne_nil _ hne] at hzero
    rw [hhead hzero] at hvalue
    simp only [List.foldl_cons, List.foldl_nil] at hvalue
    omega

theorem exists_decimal (n : Nat) : ∃ ds, Decimal ds n ∧ (Nat.toDigits 10 n).map Char.toNat = ds.map (0x30 + ·) := by
  induction n using Nat.strong_induction_on with
  | _ n ih =>
    by_cases h : n < 10
    · refine ⟨[n], ⟨by simp, by simp [h], by simp, fun hzero => ?_⟩, ?_⟩
      · rw [show n = 0 by simpa using hzero]
      · rw [Nat.toDigits_of_lt_base h]
        simp [digitChar_toNat h]
    · obtain ⟨ds, hds, htext⟩ := ih (n / 10) (by omega)
      refine ⟨ds ++ [n % 10], decimal_append (by omega) hds, ?_⟩
      rw [Nat.toDigits_of_base_le (by decide) (by omega), List.map_append, htext, List.map_append]
      simp [digitChar_toNat (Nat.mod_lt n (by decide))]

theorem exists_moneyText (v : Int) : ∃ digits, Decimal digits (v.natAbs / 100) ∧ moneyText v
    = (if v < 0 then [0x2D] else []) ++ digits.map (0x30 + ·) ++ [0x2E, 0x30 + v.natAbs / 10 % 10, 0x30 + v.natAbs % 10] := by
  obtain ⟨digits, hdigits, htext⟩ := exists_decimal (v.natAbs / 100)
  refine ⟨digits, hdigits, ?_⟩
  have htens : v.natAbs % 100 / 10 = v.natAbs / 10 % 10 := by omega
  unfold moneyText
  dsimp only
  rw [htext, htens]

theorem fieldGlyphs_length (width : Nat) (v : Option Int) : (fieldGlyphs width v).length = width := by
  cases v with
  | none => simp [fieldGlyphs]
  | some v =>
    unfold fieldGlyphs
    dsimp only
    split
    · rw [List.length_append, List.length_replicate]
      omega
    · simp

/-! ### Frames (R167) -/

/-- The field of one slot filled. -/
def fillSlot (i : Indicator) (cells : List DispCell) (x : Slot) : List DispCell :=
  putGlyphs cells (16 * x.line + (x.rightEnd + 1 - x.width)) (fieldGlyphs x.width (slotValue i x.kind))

theorem composeFrame_eq (i : Indicator) (t : Template) : composeFrame i t = t.slots.foldl (fillSlot i) t.cells := rfl

theorem slotValue_eq (i : Indicator) (k : SlotKind) : slotValue i k = shownValue i k := by
  unfold slotValue shownValue
  cases i.held <;> cases k <;> rfl

theorem mem_fieldCells {x : Slot} {n : Nat} : n ∈ fieldCells x ↔ ∃ k < x.width, 16 * x.line + (x.rightEnd + 1 - x.width) + k = n := by
  simp [fieldCells]

theorem fillSlot_kept {x : Slot} {n : Nat} (h : n ∉ fieldCells x) (i : Indicator) (cells : List DispCell) :
    (fillSlot i cells x)[n]? = cells[n]? := by
  refine putGlyphs_kept (fun k hk heq => h (mem_fieldCells.mpr ⟨k, ?_, heq⟩)) cells
  rwa [fieldGlyphs_length] at hk

theorem fillSlot_shown {x : Slot} {cells : List DispCell} (h : 16 * x.line + (x.rightEnd + 1 - x.width) + x.width ≤ cells.length) (i : Indicator) :
    (fieldCells x).map (fun n => (fillSlot i cells x)[n]?.map (·.glyph)) = (fieldGlyphs x.width (slotValue i x.kind)).map some := by
  have hlength := fieldGlyphs_length x.width (slotValue i x.kind)
  have hshown := putGlyphs_shown (gs := fieldGlyphs x.width (slotValue i x.kind)) (cells := cells)
    (start := 16 * x.line + (x.rightEnd + 1 - x.width)) (by rw [hlength]; exact h)
  rw [← hshown, hlength, fieldCells, List.map_map]
  rfl

theorem fillSlots_length (i : Indicator) (xs : List Slot) (cells : List DispCell) : (xs.foldl (fillSlot i) cells).length = cells.length := by
  induction xs generalizing cells with
  | nil => rfl
  | cons x xs ih => rw [List.foldl_cons, ih, fillSlot, putGlyphs_length]

theorem fillSlots_colour (i : Indicator) (xs : List Slot) (cells : List DispCell) :
    (xs.foldl (fillSlot i) cells).map (·.colour) = cells.map (·.colour) := by
  induction xs generalizing cells with
  | nil => rfl
  | cons x xs ih => rw [List.foldl_cons, ih, fillSlot, putGlyphs_colour]

/-- A cell of no field is the template's. -/
theorem fillSlots_kept {xs : List Slot} {n : Nat} (h : ∀ x ∈ xs, n ∉ fieldCells x) (i : Indicator) (cells : List DispCell) :
    (xs.foldl (fillSlot i) cells)[n]? = cells[n]? := by
  induction xs generalizing cells with
  | nil => rfl
  | cons x xs ih =>
    obtain ⟨hx, hxs⟩ := List.forall_mem_cons.mp h
    rw [List.foldl_cons, ih hxs, fillSlot_kept hx]

/-- Each of several slots apart shows its text. -/
theorem fillSlots_shown {xs : List Slot} (hapart : xs.Pairwise fun x y => ∀ n ∈ fieldCells x, n ∉ fieldCells y) {x : Slot} (hx : x ∈ xs)
    {cells : List DispCell} (h : 16 * x.line + (x.rightEnd + 1 - x.width) + x.width ≤ cells.length) (i : Indicator) :
    (fieldCells x).map (fun n => (xs.foldl (fillSlot i) cells)[n]?.map (·.glyph))
      = (fieldGlyphs x.width (slotValue i x.kind)).map some := by
  induction xs generalizing cells with
  | nil => exact absurd hx List.not_mem_nil
  | cons y ys ih =>
    obtain ⟨hfirst, hrest⟩ := List.pairwise_cons.mp hapart
    rw [List.foldl_cons]
    rcases List.mem_cons.mp hx with rfl | hys
    · rw [← fillSlot_shown h i]
      refine List.map_congr_left fun n hn => ?_
      rw [fillSlots_kept (fun z hz => hfirst z hz n hn)]
    · refine ih hrest hys ?_
      rwa [fillSlot, putGlyphs_length]

theorem slot_fits {x : Slot} (hline : x.line ≤ 1) (hend : x.rightEnd ≤ 15) (hwidth : x.width ≤ x.rightEnd + 1) :
    16 * x.line + (x.rightEnd + 1 - x.width) + x.width ≤ 32 := by omega

/-! ### O47 -/

theorem takeResult_clean {s : State} (h : DisplayClean s) (l : Lane) (code : ResultCode) (charge : Option Nat) (purse : Option Int) :
    s.takeResult l code charge purse = s.withInd l (refreshed s.display
      { s.ind l with held := some ⟨code, charge, purse⟩, holdTimer := some (s.gate l).config.indicatorHold }) :=
  compose_withInd h l _

/-- A key whose map entry is uncorrectable shows a blank frame (R170). -/
theorem compose_damaged {s : State} {i : Indicator} (h : (s.display.entry i.key).bits = .double) (l : Lane) :
    (s.withInd l i).compose l = (s.struck .templates).withInd l { i.handFrame DispCell.blankFrame with shown := i.key } := by
  have hread : (s.withInd l i).readFrame l = (DispCell.blankFrame, (s.struck .templates).withInd l i) := by
    unfold State.readFrame
    dsimp only
    rw [withInd_ind, show ((s.withInd l i).display.entry i.key).bits = .double from h, if_pos rfl, noteRead_double]
    rfl
  unfold State.compose
  rw [hread]
  dsimp only
  rw [modInd_eq, withInd_ind, withInd_withInd]

theorem sendComplete_idle {i : Indicator} (h : i.sending = none) : i.sendComplete = i := by
  unfold Indicator.sendComplete
  rw [h]

/-- A send that completes starts the pending one, or leaves the link idle (R169). -/
theorem sendComplete_sending {i : Indicator} (h : i.sending.isSome = true) : i.sendComplete
    = if i.resend = true then { i with sending := some i.frame, resend := false } else { i with sending := none } := by
  obtain ⟨frame, hframe⟩ := Option.isSome_iff_exists.mp h
  unfold Indicator.sendComplete
  rw [hframe]

theorem indicateObstruction_clean {s : State} (h : DisplayClean s) (l : Lane) (started : Bool) : s.indicateObstruction l started
    = s.withInd l (if started = true then endedHold s.display { s.ind l with obstructed := true }
        else if (s.ind l).held.isSome = true then { s.ind l with obstructed := false }
        else refreshed s.display { s.ind l with obstructed := false }) := by
  have hcompose := compose_withInd h l
  unfold State.indicateObstruction
  simp only [modInd_eq, withInd_ind, hcompose, apply_ite (s.withInd l)]
  rfl

theorem holdExpired_clean {s : State} (h : DisplayClean s) {l : Lane} (htimer : (s.ind l).holdTimer.isSome = true) :
    s.holdExpired l = s.withInd l (endedHold s.display (s.ind l)) := by
  obtain ⟨time, htime⟩ := Option.isSome_iff_exists.mp htimer
  unfold State.holdExpired
  rw [htime]
  exact compose_withInd h l _

/-- Settles O47: the fields of a frame, then each step of the indicator and of the display link. -/
theorem indicatorShowsResultsThenStates : Obligations.IndicatorShowsResultsThenStates := by
  refine ⟨fun i t hsound => ?_, fun s l hrunning => ?_⟩
  · obtain ⟨hcells, hslots, hapart⟩ := hsound
    intro f
    refine ⟨(fillSlots_length i t.slots t.cells).trans hcells, fillSlots_colour i t.slots t.cells, fun n hn => fillSlots_kept hn i t.cells,
      fun x hx => ?_⟩
    obtain ⟨hline, hend, hwidth⟩ := hslots x hx
    have hshown := fillSlots_shown hapart hx (by rw [hcells]; exact slot_fits hline hend hwidth) i
    intro holds
    refine ⟨fun hnone => ?_, fun v hv => ?_⟩
    · rw [slotValue_eq, hnone] at hshown
      exact hshown
    · obtain ⟨digits, hdigits, htext⟩ := exists_moneyText v
      refine ⟨digits, hdigits, ?_⟩
      rw [slotValue_eq, hv, fieldGlyphs, htext] at hshown
      exact hshown
  · intro i waits
    refine ⟨fun hclean => ⟨fun code charge purse => ?_, fun v => ⟨fun hends => ?_, fun hopen hfault hwaits => ?_, fun hopen hfault hwaits => ?_⟩,
      ?_, fun hwaits => ?_, fun hwaits => ?_, fun htimer => ?_⟩, fun code charge purse hbits => ?_, fun htimer => ?_, fun hidle => ?_,
      fun hsending hresend => ?_, fun hsending hresend => ?_⟩
    · exact congrArg _ ((if_pos hrunning).trans (takeResult_clean hclean l code charge purse))
    · refine congrArg _ ((if_pos hrunning).trans ((indicateService_clean hclean l v).trans ?_))
      rw [serviceShown, if_pos hends]
    · refine congrArg _ ((if_pos hrunning).trans ((indicateService_clean hclean l v).trans ?_))
      rw [serviceShown, if_neg (not_or.mpr ⟨hopen, hfault⟩), if_pos (by rw [Bool.or_eq_true]; exact hwaits)]
    · refine congrArg _ ((if_pos hrunning).trans ((indicateService_clean hclean l v).trans ?_))
      rw [serviceShown, if_neg (not_or.mpr ⟨hopen, hfault⟩), if_neg (by rw [Bool.or_eq_true]; exact hwaits)]
    · exact congrArg _ ((if_pos hrunning).trans (indicateObstruction_clean hclean l true))
    · refine congrArg _ ((if_pos hrunning).trans ((indicateObstruction_clean hclean l false).trans ?_))
      rw [if_neg Bool.false_ne_true, if_pos hwaits]
    · refine congrArg _ ((if_pos hrunning).trans ((indicateObstruction_clean hclean l false).trans ?_))
      rw [if_neg Bool.false_ne_true, if_neg hwaits]
    · exact congrArg _ ((if_pos hrunning).trans (holdExpired_clean hclean htimer))
    · exact congrArg _ ((if_pos hrunning).trans (compose_damaged hbits l))
    · refine congrArg _ ((if_pos hrunning).trans ?_)
      unfold State.holdExpired
      rw [show (s.ind l).holdTimer = none from htimer]
    · exact congrArg _ (withInd_self (sendComplete_idle hidle))
    · refine congrArg (fun x => Host.Outcome.next (s.withInd l x)) ((sendComplete_sending hsending).trans (if_neg ?_))
      rw [show (s.ind l).resend = false from hresend]
      decide
    · exact congrArg (fun x => Host.Outcome.next (s.withInd l x)) ((sendComplete_sending hsending).trans (if_pos hresend))

end Sys2Proof.Machine

end

/-! ## Chapter 10: the receiver of the host link -/

section

-- Proofs are checked in order: as one text the file would otherwise hold more waiting proofs than the check has memory for.
set_option Elab.async false

namespace Sys2Proof.Machine

/-! ### Bytes on the line (R179) -/

theorem linkUp_running {s : State} (h : s.phase = .running) : s.linkUp = true := by rw [State.linkUp, h]; rfl

theorem linkUp_startUp {s : State} (h : s.phase = .startUp) : s.linkUp = true := by rw [State.linkUp, h]; rfl

theorem setReceiver_self {s : State} {r : Receiver} (h : s.link.receiver = r) : s.setReceiver r = s := by
  subst h
  rfl

/-- A whole frame leaves the receiver HUNTING, whatever state it was in. -/
theorem frameWhole_setReceiver (s : State) (r : Receiver) (got : List Byte) : (s.setReceiver r).frameWhole got = s.frameWhole got := rfl

/-- A frame's LEN stands in its first two bytes. -/
theorem numberAt_append {got : List Byte} (h : 2 ≤ got.length) (rest : List Byte) : numberAt (got ++ rest) 0 2 = numberAt got 0 2 := by
  simp only [numberAt, field, List.drop_zero, List.take_append_of_le_length h]

theorem rxByte_inFrame {s : State} {got : List Byte} (h : s.link.receiver = .inFrame got) (b : Byte) : s.rxByte b
    = if (got ++ [b]).length = 2 ∧ 512 < ofBytes (got ++ [b]) then s.discardFrame fun c => { c with lengthErrors := bump c.lengthErrors }
      else if 2 ≤ (got ++ [b]).length ∧ (got ++ [b]).length = numberAt (got ++ [b]) 0 2 + 6 then s.frameWhole (got ++ [b])
      else s.setReceiver (.inFrame (got ++ [b])) := by
  unfold State.rxByte
  rw [h]

/-- The bytes after SYNC are collected until the frame that LEN announces is whole (R179). -/
theorem rxBytes_whole {rest : List Byte} (hrest : rest ≠ []) {got : List Byte} {s : State} (h : s.link.receiver = .inFrame got)
    (hwhole : (got ++ rest).length = numberAt (got ++ rest) 0 2 + 6) (hlen : numberAt (got ++ rest) 0 2 ≤ 512) :
    s.rxBytes rest = s.frameWhole (got ++ rest) := by
  induction rest generalizing got s with
  | nil => exact absurd rfl hrest
  | cons b bs ih =>
    have hsplit : got ++ b :: bs = got ++ [b] ++ bs := by simp
    rw [hsplit] at hwhole hlen ⊢
    show (s.rxByte b).rxBytes bs = _
    rw [rxByte_inFrame h]
    have hshort : ¬((got ++ [b]).length = 2 ∧ 512 < ofBytes (got ++ [b])) := fun ⟨htwo, hlong⟩ => by
      rw [numberAt_append htwo.ge, numberAt, field, List.drop_zero, List.take_of_length_le htwo.le] at hlen
      omega
    rw [if_neg hshort]
    by_cases hbs : bs = []
    · subst hbs
      rw [List.append_nil] at hwhole ⊢
      rw [if_pos ⟨by omega, hwhole⟩]
      rfl
    · have hpos : 0 < bs.length := List.length_pos_iff.mpr hbs
      have hmore : ¬(2 ≤ (got ++ [b]).length ∧ (got ++ [b]).length = numberAt (got ++ [b]) 0 2 + 6) := fun ⟨htwo, hall⟩ => by
        rw [numberAt_append htwo, List.length_append] at hwhole
        omega
      rw [if_neg hmore, ih hbs (s := s.setReceiver (.inFrame (got ++ [b]))) rfl hwhole hlen, frameWhole_setReceiver]

theorem coveredBytes_length (kind tag : Byte) (body : List Byte) : (coveredBytes kind tag body).length = body.length + 4 := by
  simp [coveredBytes]
  omega

/-- A frame with two bytes in the place of its CRC. -/
theorem rxBytes_frame {s : State} (h : s.link.receiver = .hunting) {kind tag : Byte} {body : List Byte} (hbody : body.length ≤ 512)
    {crc : List Byte} (hcrc : crc.length = 2) : s.rxBytes (0xA5 :: coveredBytes kind tag body ++ crc)
      = if (crc16 (coveredBytes kind tag body)).toNat = ofBytes crc then
          (s.countLink fun c => { c with accepted := bump c.accepted }).offerRequest kind tag body
        else s.discardFrame fun c => { c with crcErrors := bump c.crcErrors } := by
  have hlength : (coveredBytes kind tag body ++ crc).length = body.length + 6 := by
    rw [List.length_append, coveredBytes_length, hcrc]
  have hlen : numberAt (coveredBytes kind tag body ++ crc) 0 2 = body.length := by
    have hfield : field (coveredBytes kind tag body ++ crc) 0 2 = beBytes 2 body.length := by simp [field, coveredBytes]
    rw [numberAt, hfield, ofBytes_beBytes (by omega)]
  have hsync : s.rxByte 0xA5 = s.setReceiver (.inFrame []) := by
    unfold State.rxByte
    rw [h]
    exact if_pos rfl
  have hwhole : s.rxBytes (0xA5 :: coveredBytes kind tag body ++ crc) = s.frameWhole (coveredBytes kind tag body ++ crc) := by
    show (s.rxByte 0xA5).rxBytes (coveredBytes kind tag body ++ crc) = _
    rw [hsync, rxBytes_whole (got := []) (List.ne_nil_of_length_pos (by omega)) rfl (by rw [List.nil_append, hlength, hlen])
      (by rw [List.nil_append, hlen]; exact hbody), frameWhole_setReceiver]
    rfl
  have htake : (coveredBytes kind tag body ++ crc).take ((coveredBytes kind tag body ++ crc).length - 2) = coveredBytes kind tag body := by
    rw [List.length_append, hcrc, Nat.add_sub_cancel, List.take_left]
  have hdrop : (coveredBytes kind tag body ++ crc).drop ((coveredBytes kind tag body ++ crc).length - 2) = crc := by
    rw [List.length_append, hcrc, Nat.add_sub_cancel, List.drop_left]
  have hkind : byteAt (coveredBytes kind tag body ++ crc) 2 = kind := by simp [byteAt, coveredBytes, beBytes]
  have htag : byteAt (coveredBytes kind tag body ++ crc) 3 = tag := by simp [byteAt, coveredBytes, beBytes]
  have hrest : (coveredBytes kind tag body).drop 4 = body := by simp [coveredBytes, beBytes]
  rw [hwhole, State.frameWhole]
  rw [htake, hdrop, hkind, htag, hrest, setReceiver_self h]

theorem beBytes_crc (c : BitVec 16) : ofBytes (beBytes 2 c.toNat) = c.toNat := ofBytes_beBytes c.isLt

/-- A good frame is counted and offered to the queue (R179, R180). -/
theorem rxBytes_goodFrame {s : State} (h : s.link.receiver = .hunting) {kind tag : Byte} {body : List Byte} (hbody : body.length ≤ 512) :
    s.rxBytes (frameBytes kind tag body) = (s.countLink fun c => { c with accepted := bump c.accepted }).offerRequest kind tag body := by
  rw [frameBytes, rxBytes_frame h hbody (beBytes_length 2 _), if_pos (beBytes_crc _).symm]

/-! ### The receive queue (R180) -/

theorem offerRequest_room {s : State} (hreset : s.link.reset ≠ .waiting) (hroom : s.link.queue.length < 4) (kind tag : Byte) (body : List Byte) :
    s.offerRequest kind tag body = (s.modLink fun k => { k with queue := k.queue ++ [⟨kind, tag, body, false⟩] }).serveStarting := by
  rw [State.offerRequest, if_neg hreset, if_pos hroom]

theorem offerRequest_full {s : State} (hreset : s.link.reset ≠ .waiting) (hfull : 4 ≤ s.link.queue.length) (kind tag : Byte) (body : List Byte) :
    s.offerRequest kind tag body = (s.countLink fun c => { c with overflows := bump c.overflows }).raise .linkError := by
  rw [State.offerRequest, if_neg hreset, if_neg (by omega)]

theorem serveStarting_running {s : State} (h : s.phase = .running) : s.serveStarting = s := by
  unfold State.serveStarting
  rw [h]

/-- During start-up the head of the queue is answered once (R193). -/
theorem serveStarting_head {s : State} (h : s.phase = .startUp) {q : QueuedRequest} {qs : List QueuedRequest} (hqueue : s.link.queue = q :: qs) :
    s.serveStarting = if q.answered = true then s else { s with link := { s.link with
      queue := { q with answered := true } :: qs
      replies := s.link.replies ++ [⟨replyKind q.kind, some q.tag, starting, true, false⟩] } } := by
  unfold State.serveStarting
  split
  next q' qs' _ hfront =>
    obtain ⟨rfl, rfl⟩ := List.cons.inj (hqueue.symm.trans hfront)
    refine ite_congr rfl (fun _ => rfl) fun hq => ?_
    have hmark : markAnswered s.link.queue = { q with answered := true } :: qs := by
      rw [hqueue]
      exact if_neg hq
    rw [← hmark]
    rfl
  next hother => exact absurd hqueue (hother q qs h)

theorem serveStarting_empty {s : State} (hqueue : s.link.queue = []) : s.serveStarting = s := by
  unfold State.serveStarting
  rw [hqueue]
  cases s.phase <;> rfl

/-! ### O53 -/

theorem ofBytes_two (high low : Byte) : ofBytes [high, low] = high.toNat * 256 + low.toNat := by simp [ofBytes]

theorem rxByte_sync {s : State} (h : s.link.receiver = .hunting) (b : Byte) : s.rxByte b = if b = 0xA5 then s.setReceiver (.inFrame []) else s := by
  unfold State.rxByte
  rw [h]

/-- The two bytes after SYNC are LEN (R179). -/
theorem rxBytes_len {s : State} (h : s.link.receiver = .inFrame []) (high low : Byte) : s.rxBytes [high, low]
    = if 512 < high.toNat * 256 + low.toNat then s.discardFrame fun c => { c with lengthErrors := bump c.lengthErrors }
      else s.setReceiver (.inFrame [high, low]) := by
  have hfirst : s.rxByte high = s.setReceiver (.inFrame [high]) := by
    rw [rxByte_inFrame h, if_neg (by simp), if_neg (by simp)]
    rfl
  show (s.rxByte high).rxByte low = _
  rw [hfirst, rxByte_inFrame (got := [high]) rfl, show [high] ++ [low] = [high, low] from rfl, ofBytes_two]
  have hmore : ¬(2 ≤ [high, low].length ∧ [high, low].length = numberAt [high, low] 0 2 + 6) := fun ⟨_, h⟩ => by
    simp only [List.length_cons, List.length_nil] at h
    omega
  rw [if_neg hmore]
  exact if_congr (and_iff_right rfl) rfl rfl

/-- Settles O53: the whole frame, then the single bytes of the receiver. -/
theorem receiverTakesGoodFrames : Obligations.ReceiverTakesGoodFrames := by
  refine ⟨fun s kind tag body hstart hhunting hreset hbody hroom => ?_, fun s hrunning => ?_⟩
  · intro k counted
    have hframe : exec (.frameReceived (frameBytes kind tag body)) s = .next
        (State.serveStarting { s with link := { k with queue := k.queue ++ [⟨kind, tag, body, false⟩], counters := counted } }) := by
      refine congrArg _ ((if_pos (linkUp_startUp hstart)).trans ((rxBytes_goodFrame hhunting hbody).trans ?_))
      exact offerRequest_room (s := s.countLink fun c => { c with accepted := bump c.accepted }) hreset hroom kind tag body
    refine ⟨fun hempty => ?_, fun q qs hqueue hq => ?_⟩
    · have hhead : k.queue ++ [⟨kind, tag, body, false⟩] = [⟨kind, tag, body, false⟩] := by rw [hempty]; rfl
      rw [hframe]
      exact congrArg _ ((serveStarting_head (by exact hstart) hhead).trans (if_neg Bool.false_ne_true))
    · have hhead : k.queue ++ [⟨kind, tag, body, false⟩] = q :: (qs ++ [⟨kind, tag, body, false⟩]) := by rw [hqueue]; rfl
      rw [hframe]
      exact congrArg _ ((serveStarting_head (by exact hstart) hhead).trans (if_pos hq))
  · intro k n
    have hup := linkUp_running hrunning
    refine ⟨fun hhunting => ⟨fun kind tag body hbody => ?_, ?_, fun byte hbyte => ?_, ?_⟩, fun hlen high low => ⟨fun hlong => ?_, fun hshort => ?_⟩,
      fun got hgot => ?_⟩
    · intro counted
      have hframe : exec (.frameReceived (frameBytes kind tag body)) s = .next
          (State.offerRequest { s with link := { k with counters := counted } } kind tag body) :=
        congrArg _ ((if_pos hup).trans (rxBytes_goodFrame hhunting hbody))
      refine ⟨fun hreset hroom => ?_, fun hreset hfull => ?_, fun hreset => ?_, fun high low hwrong => ?_⟩
      · rw [hframe]
        exact congrArg _ ((offerRequest_room (by exact hreset) (by exact hroom) kind tag body).trans (serveStarting_running (by exact hrunning)))
      · rw [hframe, State.frameLost, ← hhunting]
        exact congrArg _ (offerRequest_full (by exact hreset) (by exact hfull) kind tag body)
      · rw [hframe]
        exact congrArg _ (if_pos hreset)
      · refine congrArg _ ((if_pos hup).trans ((rxBytes_frame hhunting hbody (crc := [high, low]) rfl).trans ?_))
        exact if_neg hwrong.symm
    · exact congrArg _ ((if_pos hup).trans ((rxByte_sync hhunting _).trans (if_pos rfl)))
    · exact congrArg _ ((if_pos hup).trans ((rxByte_sync hhunting _).trans (if_neg hbyte)))
    · refine congrArg _ ((if_pos hup).trans ?_)
      unfold State.gapTimeout
      rw [show s.link.receiver = .hunting from hhunting]
    · exact congrArg _ ((if_pos hup).trans ((rxBytes_len hlen high low).trans (if_pos hlong)))
    · exact congrArg _ ((if_pos hup).trans ((rxBytes_len hlen high low).trans (if_neg (by omega))))
    · refine congrArg _ ((if_pos hup).trans ?_)
      unfold State.gapTimeout
      rw [show s.link.receiver = .inFrame got from hgot]
      rfl

end Sys2Proof.Machine

end

/-! ## Chapters 10 and 11: a reply sent, and the RESET_COMMAND wait -/

section

-- Proofs are checked in order: as one text the file would otherwise hold more waiting proofs than the check has memory for.
set_option Elab.async false

namespace Sys2Proof.Machine

/-! ### Operations that each change one lane -/

/-- Operations that each replace one lane's unit, over lanes that occur once: every lane is replaced from the state before them all. -/
theorem foldl_units {base : State} {f : State → Lane → State} {unit : Lane → LaneUnit}
    (hf : ∀ u l, u = { base with lanes := u.lanes } → u.lane l = base.lane l → f u l = { u with lanes := u.lanes.set l (unit l) })
    (ls : List Lane) (hnodup : ls.Nodup) (s : State) (hs : s = { base with lanes := s.lanes }) (hlanes : ∀ l ∈ ls, s.lane l = base.lane l) :
    ls.foldl f s = { base with lanes := (ls.foldl f s).lanes }
      ∧ (∀ l ∈ ls, (ls.foldl f s).lane l = unit l) ∧ ∀ l ∉ ls, (ls.foldl f s).lane l = s.lane l := by
  induction ls generalizing s with
  | nil => exact ⟨hs, fun l hl => absurd hl List.not_mem_nil, fun _ _ => rfl⟩
  | cons l ls ih =>
    obtain ⟨hl, hnodup⟩ := List.nodup_cons.mp hnodup
    have hstep := hf s l hs (hlanes l List.mem_cons_self)
    have hself : (f s l).lane l = unit l := by rw [hstep]; exact PerLane.get_set_self _ _ _
    have hother (k : Lane) (hk : k ≠ l) : (f s l).lane k = s.lane k := by rw [hstep]; exact PerLane.get_set_other _ hk _
    have hkeeps (k : Lane) (hk : k ∈ ls) : (f s l).lane k = base.lane k := by
      rw [hother k fun heq => hl (heq ▸ hk)]
      exact hlanes k (List.mem_cons_of_mem _ hk)
    have hframe : f s l = { base with lanes := (f s l).lanes } := by
      rw [hstep]
      exact congrArg (fun x => { x with lanes := s.lanes.set l (unit l) }) hs
    obtain ⟨hu, hin, hout⟩ := ih hnodup (f s l) hframe hkeeps
    rw [List.foldl_cons]
    refine ⟨hu, fun k hk => ?_, fun k hk => ?_⟩
    · by_cases hk' : k ∈ ls
      · exact hin k hk'
      · obtain rfl := (List.mem_cons.mp hk).resolve_right hk'
        rw [hout k hk', hself]
    · obtain ⟨hkl, hkls⟩ := not_or.mp fun h => hk (List.mem_cons.mpr h)
      rw [hout k hkls, hother k hkl]

/-! ### The wait (R17, R192) -/

/-- A transaction that has started and has not sent its COMMIT. -/
abbrev BeforeCommit (t : Tap) : Prop :=
  t.phase = .identifying ∨ t.phase = .authenticating ∨ t.phase = .reading ∨ t.phase = .evaluating

theorem beforeCommit_iff (t : Tap) : beforeCommit t.phase = true ↔ BeforeCommit t := by
  unfold BeforeCommit
  cases t.phase <;> simp [beforeCommit]

/-- A lane when the wait begins. -/
def waitUnit (s : State) (l : Lane) : LaneUnit :=
  if BeforeCommit (s.tap l) then laneDone s.display (s.lane l) .tapAgain none (purseRead s l) else s.lane l

theorem waitUnit_atReset (s : State) (l : Lane) : (waitUnit s l).atReset = (s.lane l).atReset := by
  unfold waitUnit
  split <;> rfl

theorem waitUnit_commits (s : State) (l : Lane) : (waitUnit s l).tap.phase = .committing ↔ (s.tap l).phase = .committing := by
  unfold waitUnit
  split
  next hbefore =>
    refine iff_of_false ?_ fun h => by simp [BeforeCommit, h] at hbefore
    show (tapDone (s.tap l) .tapAgain).phase ≠ .committing
    unfold tapDone
    split <;> exact TapPhase.noConfusion
  next => rfl

/-- One lane at the start of the wait, in a state that differs from `base` in other lanes alone. -/
theorem waitLane_calm {base u : State} {l : Lane} (hu : u = { base with lanes := u.lanes }) (hl : u.lane l = base.lane l)
    (hcalm : BeforeCommit (base.tap l) → Calm base l ∧ base.journal.reservations.get l = none) :
    u.waitLane l = { u with lanes := u.lanes.set l (waitUnit base l) } := by
  have htap : u.tap l = base.tap l := congrArg LaneUnit.tap hl
  have hgate : u.gate l = base.gate l := congrArg LaneUnit.gate hl
  unfold State.waitLane waitUnit
  rw [htap]
  by_cases hbefore : BeforeCommit (base.tap l)
  · obtain ⟨⟨hclean, hpending, hdrains⟩, hjournal⟩ := hcalm hbefore
    have hcalmed : Calm u l := ⟨by rw [hu]; exact hclean, by rw [hu]; exact hpending, by rw [hgate]; exact hdrains⟩
    rw [if_pos ((beforeCommit_iff _).mpr hbefore), if_pos hbefore, State.abortTap, releaseReservation_none (by rw [hu]; exact hjournal),
      State.endUnchanged_calm hcalmed, State.done, hl, show u.display = base.display by rw [hu], purseRead_congr (congrArg Tap.image htap)]
  · rw [if_neg (mt (beforeCommit_iff _).mp hbefore), if_neg hbefore, ← hl]
    exact (lane_self u l).symm

theorem mem_toList_iff {α : Type} (p : PerLane α) (x : α) : x ∈ p.toList ↔ ∃ l, p.get l = x := by
  simp [PerLane.toList, Fin.exists_fin_succ, PerLane.get, eq_comm]

theorem anyCommitting_iff (s : State) : s.anyCommitting = true ↔ ∃ l, (s.tap l).phase = .committing := by
  unfold State.anyCommitting
  simp only [List.any_eq_true, mem_toList_iff, beq_iff_eq]
  exact ⟨fun ⟨_, ⟨l, rfl⟩, h⟩ => ⟨l, h⟩, fun ⟨l, h⟩ => ⟨_, ⟨l, rfl⟩, h⟩⟩

theorem endWait_falls {s : State} (hwaiting : s.link.reset = .waiting) (hnone : ∀ l, (s.tap l).phase ≠ .committing) :
    s.endWait = s.resetFalls .resetCommand s.phaseAfterReset := by
  refine if_pos ⟨hwaiting, ?_⟩
  rw [← Bool.not_eq_true, anyCommitting_iff]
  exact fun ⟨l, hl⟩ => hnone l hl

theorem endWait_goesOn {s : State} (h : s.link.reset ≠ .waiting ∨ ∃ l, (s.tap l).phase = .committing) : s.endWait = s := by
  refine if_neg fun ⟨hwaiting, hnone⟩ => ?_
  rcases h with h | h
  · exact h hwaiting
  · rw [(anyCommitting_iff s).mpr h] at hnone
    exact Bool.noConfusion hnone

/-- A reset leaves nothing of the host link and of what a lane does not retain. -/
theorem resetFalls_congr {s u : State} {k : Link} (hu : u = { s with link := k, lanes := u.lanes })
    (hlanes : ∀ l, (u.lane l).atReset = (s.lane l).atReset) (cause : ResetCause) (phase : PartPhase) :
    u.resetFalls cause phase = s.resetFalls cause phase := by
  have hmap : u.lanes.map LaneUnit.atReset = s.lanes.map LaneUnit.atReset := PerLane.ext_get fun l => by
    rw [PerLane.get_map, PerLane.get_map]
    exact hlanes l
  unfold State.resetFalls
  rw [hmap, hu]

/-! ### O54 -/

/-- The host link when the oldest reply is sent (R180). -/
def Link.sent (k : Link) (r : Reply) (rs : List Reply) : Link :=
  { k with replies := rs, queue := if r.holdsPlace = true then k.queue.drop 1 else k.queue }

theorem replySent_eq {s : State} {r : Reply} {rs : List Reply} (h : s.link.replies = r :: rs) : s.replySent
    = if s.phase = .running ∧ r.beginsWait = true then State.beginWait { s with link := s.link.sent r rs }
      else State.serveStarting { s with link := s.link.sent r rs } := by
  unfold State.replySent
  rw [h]
  rfl

/-- The wait begins: every lane that has not sent its COMMIT is done, and the reset falls when none has (R17, R192). -/
theorem beginWait_eq {s : State} (hcalm : ∀ l, BeforeCommit (s.tap l) → Calm s l ∧ s.journal.reservations.get l = none) :
    ∃ u : State, u = { s with link := { s.link with reset := .waiting }, lanes := u.lanes } ∧ (∀ l, u.lane l = waitUnit s l)
      ∧ s.beginWait = u.endWait := by
  let waiting : State := { s with link := { s.link with reset := .waiting } }
  obtain ⟨hu, hin, -⟩ := foldl_units (base := waiting) (f := State.waitLane) (unit := waitUnit waiting)
    (fun u l hu hl => waitLane_calm hu hl (hcalm l)) allLanes (by decide) waiting rfl fun _ _ => rfl
  exact ⟨_, hu, fun l => hin l (mem_allLanes l), rfl⟩

/-- Settles O54: the queue moves on, or the wait begins. -/
theorem replySentFreesItsPlaceOrBeginsTheWait : Obligations.ReplySentFreesItsPlaceOrBeginsTheWait := by
  refine ⟨fun s r rs q hstart hreplies hplace => ?_, fun s hrunning => ?_⟩
  · have hsent : exec .replySent s = .next (State.serveStarting { s with link := s.link.sent r rs }) := by
      refine congrArg _ ((if_pos (linkUp_startUp hstart)).trans ((replySent_eq hreplies).trans (if_neg fun h => ?_)))
      rw [hstart] at h
      exact PartPhase.noConfusion h.1
    have hlink : s.link.sent r rs = { s.link with replies := rs, queue := s.link.queue.drop 1 } := by
      rw [Link.sent, if_pos hplace]
    rw [hsent, hlink]
    refine ⟨fun hqueue => ?_, fun q2 qs hqueue hq2 => ?_⟩
    · rw [hqueue]
      exact congrArg _ (serveStarting_empty rfl)
    · rw [hqueue]
      refine congrArg _ ((serveStarting_head (q := q2) (qs := qs) (by exact hstart) rfl).trans (if_neg ?_))
      rw [hq2]
      exact Bool.false_ne_true
  · intro commits ends
    have hup := linkUp_running hrunning
    refine ⟨fun hnone => ?_, fun r rs hreplies => ?_, fun hwaiting hnone => ?_, fun h => ?_⟩
    · refine congrArg _ ((if_pos hup).trans ?_)
      unfold State.replySent
      rw [hnone]
    · intro sent
      have hexec : exec .replySent s = .next s.replySent := congrArg _ (if_pos hup)
      rw [hexec, replySent_eq hreplies]
      refine ⟨fun hordinary => ?_, fun hbegins hcalm => ?_⟩
      · rw [hordinary, if_neg fun h => Bool.false_ne_true h.2]
        exact congrArg _ (serveStarting_running (by exact hrunning))
      · obtain ⟨u, hu, hlanes, hwait⟩ := beginWait_eq (s := { s with link := s.link.sent r rs }) hcalm
        have hcommits (l : Lane) : (u.tap l).phase = .committing ↔ commits l := by
          rw [State.tap, hlanes]
          exact waitUnit_commits _ l
        rw [if_pos ⟨hrunning, hbegins⟩, hwait]
        refine ⟨fun ⟨l, hl⟩ => ⟨u, congrArg _ (endWait_goesOn (.inr ⟨l, (hcommits l).mpr hl⟩)), hu, fun l => ?_⟩, fun hnone => ?_⟩
        · rw [hlanes]
          exact ⟨fun hends => if_pos hends, fun hends => if_neg hends⟩
        · have hreset : u.link.reset = .waiting := by rw [hu]
          have hlanding : u.phaseAfterReset = landing s := by rw [hu]; rfl
          rw [endWait_falls hreset fun l => mt (hcommits l).mp (hnone l), hlanding]
          refine congrArg _ ((resetFalls_congr hu (fun l => ?_) _ _).trans rfl)
          rw [hlanes]
          exact waitUnit_atReset _ l
    · exact congrArg _ ((if_pos hrunning).trans (endWait_falls hwaiting hnone))
    · exact congrArg _ ((if_pos hrunning).trans (endWait_goesOn h))

end Sys2Proof.Machine

end

/-! ## Chapter 11: the lanes brought up -/

section

-- Proofs are checked in order: as one text the file would otherwise hold more waiting proofs than the check has memory for.
set_option Elab.async false

namespace Sys2Proof.Machine

/-! ### The indicator at start-up -/

theorem readFrame_ind (s : State) (l k : Lane) : (s.readFrame l).2.ind k = s.ind k := by
  rw [State.readFrame_keeps]
  rfl

theorem compose_service (s : State) (l : Lane) : ((s.compose l).ind l).service = (s.ind l).service := by
  unfold State.compose
  dsimp only
  rw [modInd_eq, withInd_ind, readFrame_ind]
  exact handFrame_service _ _

theorem indicateService_service (s : State) (l : Lane) (v : Service) : ((s.indicateService l v).ind l).service = v := by
  unfold State.indicateService
  cases v <;> dsimp only
  case emergencyOpen | fault =>
    rw [compose_service, modInd_eq, modInd_eq, withInd_ind, withInd_ind]
  all_goals
    split
    · rw [modInd_eq, withInd_ind]
    · rw [compose_service, modInd_eq, withInd_ind]

theorem setService_service (s : State) (l : Lane) (v : Service) : ((s.setService l v).ind l).service = v := indicateService_service _ l v

theorem composeAndSend_settled (s : State) (l : Lane) : Settled s (s.composeAndSend l) l := by
  have hread : Settled s (s.readFrame l).2 l := by
    rw [State.readFrame_keeps]
    exact ⟨rfl, fun _ _ => rfl, rfl, rfl, rfl, rfl, rfl, rfl⟩
  exact hread.trans (.withInd _ l _)

theorem composeAndSend_gate (s : State) (l : Lane) : (s.composeAndSend l).gate l = s.gate l :=
  (composeAndSend_effect s l).same (.gate l) (by simp)

/-- A send of the lane's frame is under way (R169). -/
theorem composeAndSend_ind (s : State) (l : Lane) : ((s.composeAndSend l).ind l).service = (s.ind l).service
    ∧ ((s.composeAndSend l).ind l).sending = some ((s.composeAndSend l).ind l).frame := by
  unfold State.composeAndSend
  dsimp only
  rw [modInd_eq, withInd_ind, readFrame_ind]
  exact ⟨rfl, rfl⟩

/-! ### The leaves at start-up -/

/-- What a jam leaves of a lane without credits (R156). -/
structure JammedFrom (s t : State) (l : Lane) (cause : FaultCause) : Prop where
  leaf : (t.gate l).leaf.state = .jammed
  faultCause : (t.gate l).faultCause = some cause
  service : (t.gate l).service = if (s.gate l).service = .emergencyOpen then .emergencyOpen else .fault
  obstruction : (t.gate l).obstruction = (s.gate l).obstruction
  openLimit : (t.gate l).openLimit = (s.gate l).openLimit
  closedLimit : (t.gate l).closedLimit = (s.gate l).closedLimit
  indicator : (s.ind l).service = (s.gate l).service → (t.ind l).service = (t.gate l).service

theorem jam_from (s : State) (l : Lane) (hservice : (s.gate l).service ≠ .fault) (cause : FaultCause) :
    JammedFrom s (s.jam l cause) l cause := by
  by_cases hopen : (s.gate l).service = .emergencyOpen
  · rw [jam_emergency hopen]
    have hgate : ((s.withGate l { s.gate l with
        faultCause := some cause
        leaf := restingLeaf (s.gate l) .jammed }).raise (.laneFault l)).gate l = { s.gate l with
          faultCause := some cause
          leaf := restingLeaf (s.gate l) .jammed } := withGate_gate s l _
    refine ⟨by rw [hgate]; rfl, by rw [hgate], by rw [hgate, if_pos hopen]; exact hopen, by rw [hgate], by rw [hgate], by rw [hgate],
      fun hind => ?_⟩
    rw [hgate]
    exact (congrArg Indicator.service (withGate_ind s l l _)).trans hind
  · have hjam : s.jam l cause = (((((s.modGate l fun p => { p.rest .jammed with faultCause := some cause }).raise (.laneFault l)).cancelCredits l
        .fault).modGate l Passages.discard).setService l .fault) := by
      unfold State.jam
      dsimp only
      rw [if_neg hopen, if_neg hservice]
    have hgate := setService_gate_self ((((s.modGate l fun p => { p.rest .jammed with faultCause := some cause }).raise
        (.laneFault l)).cancelCredits l .fault).modGate l Passages.discard) l .fault
    rw [State.modGate_gate, cancelCredits_gate_self, State.raise_gate, State.modGate_gate, ← hjam] at hgate
    refine ⟨by rw [hgate]; rfl, by rw [hgate]; rfl, by rw [hgate, if_neg hopen], by rw [hgate]; rfl, by rw [hgate]; rfl, by rw [hgate]; rfl,
      fun _ => ?_⟩
    rw [hgate, hjam]
    exact setService_service _ l .fault

/-- A passage controller whose inputs are sampled, in the service state that the EMERGENCY line gives (R196). -/
def upGate (p : Passages) (emergency : Bool) : Passages :=
  { p.sample with service := if emergency then .emergencyOpen else .closed }

theorem upGate_service (p : Passages) (emergency : Bool) : (upGate p emergency).service ≠ .fault := by
  cases emergency <;> exact Service.noConfusion

theorem upGate_bothLimits (p : Passages) (emergency : Bool) :
    (upGate p emergency).bothLimits = true ↔ p.openLimit.high = false ∧ p.closedLimit.high = false := by
  show (!p.openLimit.high && !p.closedLimit.high) = true ↔ _
  rw [Bool.and_eq_true, Bool.not_eq_true', Bool.not_eq_true']

theorem sampled_gate (s : State) (l : Lane) : (s.sampled l).gate l = upGate (s.gate l) s.emergency.accepted := by
  rw [State.sampled, setService_gate_self, State.modGate_gate]
  rfl

/-- The leaves take their state from the limits (R154, R196). -/
def upLeaf (p : Passages) (emergency : Bool) : Leaf :=
  if emergency = true then openingLeaf (upGate p emergency) else closingLeaf (upGate p emergency)

theorem startUpLeaves_up {p : Passages} {emergency : Bool} (h : LimitsAgree (upGate p emergency)) :
    (upGate p emergency).startUpLeaves = ({ upGate p emergency with leaf := upLeaf p emergency }, false) := by
  unfold Passages.startUpLeaves upLeaf
  cases emergency with
  | true => exact enterOpening_agree h
  | false => exact enterClosing_agree h

theorem startUpLeaves_both {p : Passages} {emergency : Bool} (h : (upGate p emergency).bothLimits = true) :
    (upGate p emergency).startUpLeaves = (upGate p emergency, true) := by
  unfold Passages.startUpLeaves
  split
  · exact if_pos h
  · exact if_pos h

theorem upLeaf_state (p : Passages) (emergency : Bool) : (upLeaf p emergency).state
    = if emergency = true then if p.openLimit.high = true then .opening else .opened
      else if p.closedLimit.high = true then .closing else .closed := by
  have hopen : (upGate p emergency).openLimit.accepted = !p.openLimit.high := rfl
  have hclosed : (upGate p emergency).closedLimit.accepted = !p.closedLimit.high := rfl
  unfold upLeaf openingLeaf closingLeaf
  rw [hopen, hclosed]
  cases emergency
  · cases p.closedLimit.high
    · rfl
    · simp only [Bool.not_true, Bool.false_eq_true, if_false, if_true]
      split <;> rfl
  · cases p.openLimit.high <;> rfl

theorem occ_same {p q : Passages} (hbeams : q.beams = p.beams) (hconfig : q.config = p.config) (g : Segment) : q.occ g = p.occ g :=
  occ_congr fun k _ => by rw [Passages.beamReads, Passages.beamReads, hbeams, hconfig]

theorem upGate_obstruction (p : Passages) (emergency : Bool) : (upGate p emergency).obstruction
    = if (upGate p emergency).occ .leaves = true then some (upGate p emergency).config.obstruction else none := rfl

theorem get_mapBeams {α β : Type} (p : PerBeam α) (f : α → β) (b : Beam) : (p.map f).get b = f (p.get b) := by
  fin_cases b <;> rfl

theorem upGate_beams (p : Passages) (emergency : Bool) (b : Beam) : (upGate p emergency).beams.get b
    = ⟨(p.beams.get b).high, (p.beams.get b).high == decide (p.config.polarity = .activeHigh), none⟩ :=
  (get_mapBeams p.beams _ b).trans (accept_eq _ _)

/-! ### One lane, then all of them -/

/-- A lane brought up, its configuration kept. -/
structure LaneUp (s t : State) (l : Lane) : Prop where
  up : BroughtUp s t l
  config : (t.gate l).config = (s.gate l).config
  configured : (t.gate l).configured = (s.gate l).configured

/-- Being brought up looks at the inputs and the tap controller of the lane before and at the lane after. -/
theorem BroughtUp.congr {s s' t t' : State} {l : Lane} (hbeams : (s'.gate l).beams = (s.gate l).beams)
    (hopen : (s'.gate l).openLimit = (s.gate l).openLimit) (hclosed : (s'.gate l).closedLimit = (s.gate l).closedLimit)
    (htap : s'.tap l = s.tap l) (hemergency : s'.emergency.high = s.emergency.high) (hlane : t'.lane l = t.lane l)
    (h : BroughtUp s t l) : BroughtUp s' t' l := by
  have hgate : t'.gate l = t.gate l := congrArg LaneUnit.gate hlane
  have hind : t'.ind l = t.ind l := congrArg LaneUnit.ind hlane
  have htap' : t'.tap l = t.tap l := congrArg LaneUnit.tap hlane
  unfold BroughtUp at h ⊢
  dsimp only at h ⊢
  rw [hbeams, hopen, hclosed, htap, hemergency, hgate, hind, htap']
  exact h

/-- The leaves put in place: with both limits asserted they jam, and else they take their state from the limits (R156, R196). -/
def State.leavesUp (s : State) (l : Lane) : State := (s.sampled l).putLeaves l ((s.sampled l).gate l).startUpLeaves

theorem leavesUp_agree {s : State} {l : Lane} (h : LimitsAgree (upGate (s.gate l) s.emergency.accepted)) :
    s.leavesUp l = (s.sampled l).withGate l
      { upGate (s.gate l) s.emergency.accepted with leaf := upLeaf (s.gate l) s.emergency.accepted } := by
  rw [State.leavesUp, sampled_gate, startUpLeaves_up h]
  rfl

theorem leavesUp_both {s : State} {l : Lane} (h : (upGate (s.gate l) s.emergency.accepted).bothLimits = true) :
    s.leavesUp l = (s.sampled l).jam l .bothLimits := by
  rw [State.leavesUp, sampled_gate, startUpLeaves_both h]
  exact congrArg (fun x : State => x.jam l .bothLimits) (withGate_self (sampled_gate s l).symm)

theorem sampled_ind_service (s : State) (l : Lane) : ((s.sampled l).ind l).service = ((s.sampled l).gate l).service := by
  rw [sampled_gate]
  exact setService_service _ l _

theorem leavesUp_settled {s : State} {l : Lane} (hcredits : (s.gate l).credits = []) (hpassages : (s.gate l).passages = []) :
    Settled (s.withGate l (s.gate l).sample) (s.leavesUp l) l := by
  have hsampled : Settled (s.withGate l (s.gate l).sample) (s.sampled l) l := setService_settled _ l _
  have hgate := sampled_gate s l
  by_cases hboth : (upGate (s.gate l) s.emergency.accepted).bothLimits = true
  · rw [leavesUp_both hboth]
    exact hsampled.trans (jam_settled (by rw [hgate]; exact hcredits) (by rw [hgate]; exact hpassages) _)
  · rw [leavesUp_agree (Bool.eq_false_iff.mpr hboth)]
    exact hsampled.trans (.withGate _ l (by rw [hgate]) (by rw [hgate]) (by rw [hgate]) (by rw [hgate]) (by rw [hgate]))

/-- The leaves, the service state and the limits of a lane brought up (R154, R156, R196). -/
structure LeavesUp (p q : Passages) (emergency : Bool) : Prop where
  openLimit : q.openLimit = ⟨p.openLimit.high, !p.openLimit.high, none⟩
  closedLimit : q.closedLimit = ⟨p.closedLimit.high, !p.closedLimit.high, none⟩
  obstruction : q.obstruction = (upGate p emergency).obstruction
  apart : p.openLimit.high = true ∨ p.closedLimit.high = true → q.service = (if emergency = true then .emergencyOpen else .closed)
    ∧ q.leaf.state = (upLeaf p emergency).state
  both : p.openLimit.high = false ∧ p.closedLimit.high = false → q.leaf.state = .jammed ∧ q.faultCause = some .bothLimits
    ∧ q.service = if emergency = true then .emergencyOpen else .fault

theorem leavesUp_leaves (s : State) (l : Lane) : LeavesUp (s.gate l) ((s.leavesUp l).gate l) s.emergency.accepted
    ∧ ((s.leavesUp l).ind l).service = ((s.leavesUp l).gate l).service := by
  have hiff := upGate_bothLimits (s.gate l) s.emergency.accepted
  have hgate := sampled_gate s l
  have hind := sampled_ind_service s l
  by_cases hboth : (upGate (s.gate l) s.emergency.accepted).bothLimits = true
  · obtain ⟨hopen, hclosed⟩ := hiff.mp hboth
    have hjam := jam_from (s.sampled l) l (sampled_service s l) .bothLimits
    rw [leavesUp_both hboth]
    refine ⟨⟨by rw [hjam.openLimit, hgate]; rfl, by rw [hjam.closedLimit, hgate]; rfl, by rw [hjam.obstruction, hgate], fun h => ?_,
      fun _ => ⟨hjam.leaf, hjam.faultCause, ?_⟩⟩, hjam.indicator hind⟩
    · rw [hopen, hclosed] at h
      exact absurd h (by decide)
    · rw [hjam.service, hgate]
      cases s.emergency.accepted <;> rfl
  · rw [leavesUp_agree (Bool.eq_false_iff.mpr hboth), withGate_gate, withGate_ind, hind, hgate]
    exact ⟨⟨rfl, rfl, rfl, fun _ => ⟨rfl, rfl⟩, fun h => absurd (hiff.mpr h) hboth⟩, rfl⟩

theorem bringUpLane_up {s : State} {l : Lane} (hcredits : (s.gate l).credits = []) (hpassages : (s.gate l).passages = [])
    (hemergency : s.emergency.accepted = s.emergency.high) :
    Settled (s.withGate l (s.gate l).sample) (s.bringUpLane l) l ∧ LaneUp s (s.bringUpLane l) l := by
  have hsettled : Settled (s.withGate l (s.gate l).sample) (s.bringUpLane l) l :=
    (leavesUp_settled hcredits hpassages).trans (composeAndSend_settled _ l)
  have hconfig : ((s.bringUpLane l).gate l).config = (s.gate l).config := by rw [hsettled.config, withGate_gate]; rfl
  have hbeams : ((s.bringUpLane l).gate l).beams = (upGate (s.gate l) s.emergency.accepted).beams := by rw [hsettled.beams, withGate_gate]; rfl
  have hgate : (s.bringUpLane l).gate l = (s.leavesUp l).gate l := composeAndSend_gate _ l
  obtain ⟨hleaves, hservice⟩ := leavesUp_leaves s l
  obtain ⟨hind, hsending⟩ := composeAndSend_ind (s.leavesUp l) l
  refine ⟨hsettled, ⟨?_, hconfig, by rw [hsettled.configured, withGate_gate]; rfl⟩⟩
  rw [← hgate, hemergency] at hleaves
  refine ⟨fun b => ?_, hleaves.openLimit, hleaves.closedLimit, fun h => ?_, hleaves.both, ?_, ?_, hsending,
    hsettled.tap.trans (withGate_tap s l l _)⟩
  · rw [hbeams, upGate_beams, hconfig]
  · rw [← upLeaf_state]
    exact hleaves.apart h
  · rw [hleaves.obstruction, upGate_obstruction, occ_same hbeams hconfig, hconfig]
    rfl
  · exact hind.trans (hservice.trans (congrArg Passages.service hgate.symm))

/-- The lanes brought up, in a part whose lanes are without credits and passages: nothing else but events and counters has changed. -/
theorem bringUp_lanes {base : State} (hempty : ∀ l, (base.gate l).credits = [] ∧ (base.gate l).passages = [])
    (hemergency : base.emergency.accepted = base.emergency.high) (ls : List Lane) (hnodup : ls.Nodup) (s : State)
    (hs : s = { base with lanes := s.lanes, events := s.events, ecc := s.ecc }) (hlanes : ∀ l ∈ ls, s.lane l = base.lane l) :
    ls.foldl State.bringUpLane s = { base with
        lanes := (ls.foldl State.bringUpLane s).lanes
        events := (ls.foldl State.bringUpLane s).events
        ecc := (ls.foldl State.bringUpLane s).ecc }
      ∧ (∀ l ∈ ls, LaneUp base (ls.foldl State.bringUpLane s) l) ∧ ∀ l ∉ ls, (ls.foldl State.bringUpLane s).lane l = s.lane l := by
  induction ls generalizing s with
  | nil => exact ⟨hs, fun l hl => absurd hl List.not_mem_nil, fun _ _ => rfl⟩
  | cons l ls ih =>
    obtain ⟨hl, hnodup⟩ := List.nodup_cons.mp hnodup
    have hlane := hlanes l List.mem_cons_self
    have hgate : s.gate l = base.gate l := congrArg LaneUnit.gate hlane
    have hem : s.emergency = base.emergency := by rw [hs]
    obtain ⟨hcredits, hpassages⟩ := hempty l
    obtain ⟨hsettled, hup⟩ := bringUpLane_up (s := s) (l := l) (by rw [hgate, hcredits]) (by rw [hgate, hpassages]) (by rw [hem, hemergency])
    have hother (k : Lane) (hk : k ≠ l) : (s.bringUpLane l).lane k = s.lane k :=
      (hsettled.others k hk).trans (PerLane.get_set_other _ hk _)
    have hkeeps (k : Lane) (hk : k ∈ ls) : (s.bringUpLane l).lane k = base.lane k := by
      rw [hother k fun heq => hl (heq ▸ hk)]
      exact hlanes k (List.mem_cons_of_mem _ hk)
    have hframe : s.bringUpLane l = { base with
        lanes := (s.bringUpLane l).lanes
        events := (s.bringUpLane l).events
        ecc := (s.bringUpLane l).ecc } := by
      refine hsettled.frame.trans ?_
      exact congrArg (fun x => { x with
        lanes := (s.bringUpLane l).lanes
        events := (s.bringUpLane l).events
        ecc := (s.bringUpLane l).ecc }) hs
    obtain ⟨hu, hin, hout⟩ := ih hnodup (s.bringUpLane l) hframe hkeeps
    rw [List.foldl_cons]
    refine ⟨hu, fun k hk => ?_, fun k hk => ?_⟩
    · by_cases hk' : k ∈ ls
      · exact hin k hk'
      · obtain rfl := (List.mem_cons.mp hk).resolve_right hk'
        have hlast := hout k hk'
        have hlastGate := congrArg LaneUnit.gate hlast
        refine ⟨hup.up.congr (by rw [hgate]) (by rw [hgate]) (by rw [hgate]) (congrArg LaneUnit.tap hlane).symm (by rw [hem]) hlast, ?_, ?_⟩
        · exact (congrArg Passages.config hlastGate).trans (hup.config.trans (congrArg Passages.config hgate))
        · exact (congrArg Passages.configured hlastGate).trans (hup.configured.trans (congrArg Passages.configured hgate))
    · obtain ⟨hkl, hkls⟩ := not_or.mp fun h => hk (List.mem_cons.mpr h)
      rw [hout k hkls, hother k hkl]

/-- Step 5 of start-up (R196). -/
theorem bringUpLanes_up {s : State} (hempty : ∀ l, (s.gate l).credits = [] ∧ (s.gate l).passages = []) :
    s.bringUpLanes = { s with
        emergency := ⟨s.emergency.high, s.emergency.high, none⟩
        lanes := s.bringUpLanes.lanes
        events := s.bringUpLanes.events
        ecc := s.bringUpLanes.ecc }
      ∧ ∀ l, LaneUp s s.bringUpLanes l := by
  let base : State := { s with emergency := ⟨s.emergency.high, s.emergency.high, none⟩ }
  obtain ⟨hframe, hup, -⟩ := bringUp_lanes (base := base) hempty rfl allLanes (by decide) base rfl fun _ _ => rfl
  exact ⟨hframe, fun l => ⟨(hup l (mem_allLanes l)).up.congr rfl rfl rfl rfl rfl rfl, (hup l (mem_allLanes l)).config,
    (hup l (mem_allLanes l)).configured⟩⟩

end Sys2Proof.Machine

end

/-! ## Chapter 11: start-up -/

section

-- Proofs are checked in order: as one text the file would otherwise hold more waiting proofs than the check has memory for.
set_option Elab.async false

namespace Sys2Proof.Machine

/-! ### Records appended while events go unseen

Start-up leaves RESET_DONE alone pending, so that what its appends raise is of no account. -/

theorem withRecords_clock (s : State) (rs : List JournalRecord) : (s.withRecords rs).clock = s.clock := by
  induction rs generalizing s with
  | nil => rfl
  | cons r rs ih => exact ih (s.withRecord r)

/-- The journal with one more record than several. -/
theorem withRecords_concat (s : State) (rs : List JournalRecord) (r : JournalRecord) : (s.withRecords (rs ++ [r])).journal
    = { (s.withRecords rs).journal with
        records := (s.withRecords rs).journal.records ++ [⟨{ r with time := s.clock.time }, .clean⟩]
        nextSequence := seqForward (s.withRecords rs).journal.nextSequence 1 } := by
  rw [withRecords_append, ← withRecords_clock s rs]
  rfl

theorem withRecords_held (s : State) (rs : List JournalRecord) : (s.withRecords rs).journal.held = s.journal.held + rs.length := by
  induction rs generalizing s with
  | nil => rfl
  | cons r rs ih =>
    have hone : (s.withRecord r).journal.held = s.journal.held + 1 := by simp [State.withRecord, Journal.held]
    refine (ih (s.withRecord r)).trans ?_
    rw [hone, List.length_cons]
    omega

theorem appendRecord_unseen {s : State} (harmed : Disarmed s .journal) (r : JournalRecord) :
    s.appendRecord r = { s.withRecord r with events := (s.appendRecord r).events } := by
  rw [appendRecord_disarmed harmed]
  split <;> rfl

theorem noteClosing_unseen (s : State) (before : Nat) : s.noteClosing before = { s with events := (s.noteClosing before).events } := by
  unfold State.noteClosing
  split <;> rfl

/-- A mandatory record that finds a place (R123, R125). -/
theorem appendMandatory_unseen {s : State} (harmed : Disarmed s .journal) (hroom : s.journal.taken < 2048) (r : JournalRecord) :
    s.appendUnreserved .mandatory r = { s.withRecord r with events := (s.appendUnreserved .mandatory r).events } := by
  have happend : s.appendUnreserved .mandatory r = (s.appendRecord r).noteClosing s.journal.taken := if_pos hroom
  rw [happend, noteClosing_unseen]
  exact congrArg (fun x : State => { x with events := ((s.appendRecord r).noteClosing s.journal.taken).events }) (appendRecord_unseen harmed r)

/-- A record appended against a lane's reservation (R124). -/
theorem appendReserved_unseen {s : State} {l : Lane} (harmed : Disarmed s .journal) (hheld : (s.journal.reservations.get l).isSome = true)
    (c : AdmissionClass) (r : JournalRecord) :
    s.appendReserved l c r = { (s.releaseReservation l).withRecord r with events := (s.appendReserved l c r).events } := by
  obtain ⟨cls, hcls⟩ := Option.isSome_iff_exists.mp hheld
  have happend : s.appendReserved l c r = (s.releaseReservation l).appendRecord r := by rw [State.appendReserved, hcls]
  rw [happend]
  exact appendRecord_unseen (s := s.releaseReservation l) harmed r

theorem noteFindings_armed (s : State) (m n : Memory) (corrected uncorrected : Nat) :
    ((s.noteFindings m corrected uncorrected).ecc.get n).armed = (s.ecc.get n).armed := by
  have hset (u : MemoryUnit) (hu : u.armed = (s.ecc.get m).armed) : ((s.ecc.set m u).get n).armed = (s.ecc.get n).armed := by
    rw [get_setUnit]
    split
    next hn => rw [hu, hn]
    next => rfl
  unfold State.noteFindings
  dsimp only
  split
  · rfl
  · (repeat' split) <;> exact hset _ rfl

/-- A checked read changes nothing but the memory check unit and the events, and spends no injection (R172). -/
theorem noteRead_unseen (s : State) (m : Memory) (b : Integrity) :
    s.noteRead m b = { s with ecc := (s.noteRead m b).ecc, events := (s.noteRead m b).events }
      ∧ ∀ n, ((s.noteRead m b).ecc.get n).armed = (s.ecc.get n).armed := by
  cases b with
  | clean => exact ⟨rfl, fun _ => rfl⟩
  | single => exact ⟨noteFindings_frame s m 1 0, fun n => noteFindings_armed s m n 1 0⟩
  | double => exact ⟨noteFindings_frame s m 0 1, fun n => noteFindings_armed s m n 0 1⟩

/-! ### The books of start-up -/

/-- Going from `s` to `t`, records have been appended, the reservations `held` are left, and the in-doubt list holds these entries; beside
that only events and error counters have changed, and no injection of the two memories is armed. -/
structure Booked (s t : State) (rs : List JournalRecord) (held : PerLane (Option AdmissionClass)) (es : List (Stored DoubtEntry)) : Prop where
  frame : t = { s with
    journal := { (s.withRecords rs).journal with reservations := held }
    doubt := { s.doubt with entries := es }
    events := t.events
    ecc := t.ecc }
  journal : Disarmed t .journal
  lists : Disarmed t .lists

section

variable {s t : State} {rs : List JournalRecord} {held : PerLane (Option AdmissionClass)} {es : List (Stored DoubtEntry)}

theorem Booked.journal_eq (h : Booked s t rs held es) : t.journal = { (s.withRecords rs).journal with reservations := held } := by
  rw [h.frame]

theorem Booked.entries (h : Booked s t rs held es) : t.doubt.entries = es := by rw [h.frame]

theorem Booked.next (h : Booked s t rs held es) : t.journal.nextSequence = (s.withRecords rs).journal.nextSequence := by rw [h.journal_eq]

theorem Booked.room (h : Booked s t rs held es) : t.journal.taken ≤ s.journal.held + rs.length + 4 := by
  have houtstanding : t.journal.outstanding ≤ 4 := List.countP_le_length
  have hheld : t.journal.held = s.journal.held + rs.length := by rw [h.journal_eq, ← withRecords_held]; rfl
  unfold Journal.taken
  omega

theorem Booked.withRecord (h : Booked s t rs held es) (r : JournalRecord) {u : State} (hu : u = { t.withRecord r with events := u.events }) :
    Booked s u (rs ++ [r]) held es := by
  have hecc : u.ecc = t.ecc := by rw [hu]; rfl
  refine ⟨?_, by rw [Disarmed, hecc]; exact h.journal, by rw [Disarmed, hecc]; exact h.lists⟩
  rw [withRecords_concat, hecc]
  refine hu.trans ?_
  have hframe := congrArg (fun x : State => { x.withRecord r with events := u.events }) h.frame
  exact hframe

theorem Booked.release (h : Booked s t rs held es) (l : Lane) : Booked s (t.releaseReservation l) rs (held.set l none) es := by
  refine ⟨?_, h.journal, h.lists⟩
  have hframe := congrArg (fun x : State => x.releaseReservation l) h.frame
  exact hframe

theorem Booked.setDoubt (h : Booked s t rs held es) (es' : List (Stored DoubtEntry)) : Booked s (t.setDoubt es') rs held es' := by
  refine ⟨?_, h.journal, h.lists⟩
  have hframe := congrArg (fun x : State => x.setDoubt es') h.frame
  exact hframe

theorem Booked.noteRead (h : Booked s t rs held es) (m : Memory) (b : Integrity) : Booked s (t.noteRead m b) rs held es := by
  obtain ⟨hnote, harmed⟩ := noteRead_unseen t m b
  refine ⟨hnote.trans ?_, (harmed _).trans h.journal, (harmed _).trans h.lists⟩
  have hframe := congrArg (fun x : State => { x with ecc := (t.noteRead m b).ecc, events := (t.noteRead m b).events }) h.frame
  exact hframe

theorem Booked.mandatory (h : Booked s t rs held es) (hroom : s.journal.held + rs.length + 4 < 2048) (r : JournalRecord) :
    Booked s (t.appendUnreserved .mandatory r) (rs ++ [r]) held es :=
  h.withRecord r (appendMandatory_unseen h.journal (by have := h.room; omega) r)

theorem Booked.reserved (h : Booked s t rs held es) {l : Lane} (hheld : (held.get l).isSome = true) (c : AdmissionClass) (r : JournalRecord) :
    Booked s (t.appendReserved l c r) (rs ++ [r]) (held.set l none) es :=
  (h.release l).withRecord r (appendReserved_unseen h.journal (by rw [h.journal_eq]; exact hheld) c r)

end

/-! ### Step 3, entry by entry (R115, R195) -/

/-- The reservations left when the readable PROVISIONAL entries of a list have consumed theirs. -/
def consumed (held : PerLane (Option AdmissionClass)) (es : List (Stored DoubtEntry)) : PerLane (Option AdmissionClass) :=
  es.foldl (fun h e => if readableProvisional e = true then h.set e.val.lane none else h) held

theorem consumed_get (held : PerLane (Option AdmissionClass)) (es : List (Stored DoubtEntry)) (l : Lane) : (consumed held es).get l
    = if (es.any fun x => readableProvisional x && x.val.lane == l) = true then none else held.get l := by
  induction es generalizing held with
  | nil => rfl
  | cons e es ih =>
    refine (ih _).trans ?_
    dsimp only
    rw [List.any_cons]
    by_cases hread : readableProvisional e = true
    · rw [if_pos hread, hread, Bool.true_and]
      by_cases hl : e.val.lane = l
      · rw [hl, PerLane.get_set_self, beq_self_eq_true, Bool.true_or, if_pos rfl, ite_self]
      · rw [PerLane.get_set_other _ (Ne.symm hl), beq_eq_false_iff_ne.mpr hl, Bool.false_or]
    · rw [if_neg hread, Bool.eq_false_iff.mpr hread, Bool.false_and, Bool.false_or]

/-- The IN_DOUBT record's sequence goes into the entry, which turns OPEN. -/
def openedWith (e : DoubtEntry) (next : Nat) : Stored DoubtEntry := ⟨{ e with opened := true, sequence := some next }, .clean⟩

/-- Of entries with different serials the one read is removed. -/
theorem eraseP_middle {ps es : List (Stored DoubtEntry)} {e : Stored DoubtEntry}
    (h : ((ps ++ e :: es).map fun x => x.val.serial).Nodup) : (ps ++ e :: es).eraseP (fun x => x.val.serial == e.val.serial) = ps ++ es := by
  rw [List.map_append, List.map_cons, List.nodup_middle, List.nodup_cons, ← List.map_append] at h
  have hbefore : ∀ x ∈ ps, ¬(x.val.serial == e.val.serial) = true := fun x hx heq => h.1 <| by
    rw [← beq_iff_eq.mp heq]
    exact List.mem_map_of_mem (List.mem_append_left es hx)
  rw [List.eraseP_append_right _ hbefore]
  exact congrArg (ps ++ ·) (List.eraseP_cons_of_pos (p := fun x : Stored DoubtEntry => x.val.serial == e.val.serial) (beq_self_eq_true _))

/-- Of entries with different serials the PROVISIONAL one read is replaced. -/
theorem map_middle {ps es : List (Stored DoubtEntry)} {e item : Stored DoubtEntry}
    (h : ((ps ++ e :: es).map fun x => x.val.serial).Nodup) (hopened : e.val.opened = false) :
    (ps ++ e :: es).map (fun x => if x.val.serial = e.val.serial ∧ !x.val.opened then item else x) = ps ++ item :: es := by
  rw [List.map_append, List.map_cons, List.nodup_middle, List.nodup_cons, ← List.map_append] at h
  have hkeep (xs : List (Stored DoubtEntry)) (hsub : xs ⊆ ps ++ es) :
      xs.map (fun x => if x.val.serial = e.val.serial ∧ !x.val.opened then item else x) = xs := by
    refine (List.map_congr_left fun x hx => if_neg fun hboth => h.1 ?_).trans (List.map_id xs)
    rw [← hboth.1]
    exact List.mem_map_of_mem (hsub hx)
  rw [List.map_append, List.map_cons, hkeep ps (List.subset_append_left ..), hkeep es (List.subset_append_right ..),
    if_pos ⟨rfl, by rw [hopened]; rfl⟩]

theorem convertEntry_booked {s t : State} {rs : List JournalRecord} {held : PerLane (Option AdmissionClass)} {ps es : List (Stored DoubtEntry)}
    {e : Stored DoubtEntry} (h : Booked s t rs held (ps ++ e :: es)) (hserials : ((ps ++ e :: es).map fun x => x.val.serial).Nodup)
    (hopened : e.val.opened = false) (hheld : (held.get e.val.lane).isSome = true) :
    Booked s (t.convertEntry e.val) (rs ++ [convertedRecord e.val]) (held.set e.val.lane none)
      (ps ++ openedWith e.val (s.withRecords rs).journal.nextSequence :: es) := by
  have happended := h.reserved hheld (changeClass e.val.change) (convertedRecord e.val)
  have hnext : (t.appendReserved e.val.lane (changeClass e.val.change) (convertedRecord e.val)).journal.nextSequence
      = seqForward t.journal.nextSequence 1 := by
    rw [happended.next, withRecords_concat, h.next]
  have hsequence : takenSequence t.journal (t.appendReserved e.val.lane (changeClass e.val.change) (convertedRecord e.val)).journal
      = some (s.withRecords rs).journal.nextSequence := by
    rw [takenSequence, hnext, if_neg (seqForward_ne _), h.next]
  unfold State.convertEntry
  dsimp only
  rw [armed_none happended.lists, hsequence]
  dsimp only
  rw [happended.entries]
  have hset := happended.setDoubt (ps ++ openedWith e.val (s.withRecords rs).journal.nextSequence :: es)
  rw [← map_middle (item := openedWith e.val (s.withRecords rs).journal.nextSequence) hserials hopened] at hset ⊢
  exact hset

theorem converted_double {e : Stored DoubtEntry} (h : e.bits = .double) (next : Nat) (es : List (Stored DoubtEntry)) : converted next (e :: es)
    = ((converted (seqForward next 1) es).1,
       { JournalRecord.blank .resolvedUnknown none with detail := some (.named .memoryError) } :: (converted (seqForward next 1) es).2) :=
  if_pos h

theorem converted_open {e : Stored DoubtEntry} (h : e.bits ≠ .double) (hopened : e.val.opened = true) (next : Nat)
    (es : List (Stored DoubtEntry)) : converted next (e :: es) = (e :: (converted next es).1, (converted next es).2) :=
  (if_neg h).trans (if_pos hopened)

theorem converted_provisional {e : Stored DoubtEntry} (h : e.bits ≠ .double) (hopened : e.val.opened = false) (next : Nat)
    (es : List (Stored DoubtEntry)) : converted next (e :: es) = (openedWith e.val next :: (converted (seqForward next 1) es).1,
      convertedRecord e.val :: (converted (seqForward next 1) es).2) :=
  (if_neg h).trans (if_neg (by rw [hopened]; exact Bool.false_ne_true))

theorem withRecords_next (s : State) (rs : List JournalRecord) (r : JournalRecord) :
    (s.withRecords (rs ++ [r])).journal.nextSequence = seqForward (s.withRecords rs).journal.nextSequence 1 := by rw [withRecords_concat]

theorem consumed_cons_kept {e : Stored DoubtEntry} (h : readableProvisional e = false) (held : PerLane (Option AdmissionClass))
    (es : List (Stored DoubtEntry)) : consumed held (e :: es) = consumed held es :=
  congrArg (consumed · es) (if_neg (by rw [h]; exact Bool.false_ne_true))

theorem consumed_cons_taken {e : Stored DoubtEntry} (h : readableProvisional e = true) (held : PerLane (Option AdmissionClass))
    (es : List (Stored DoubtEntry)) : consumed held (e :: es) = consumed (held.set e.val.lane none) es :=
  congrArg (consumed · es) (if_pos h)

/-- What the entries still to be read promise: different serials, and a reservation for each readable PROVISIONAL one. -/
structure Convertible (held : PerLane (Option AdmissionClass)) (ps es : List (Stored DoubtEntry)) : Prop where
  serials : ((ps ++ es).map fun x => x.val.serial).Nodup
  lanes : ((es.filter readableProvisional).map fun x => x.val.lane).Nodup
  held : ∀ x ∈ es, readableProvisional x = true → (held.get x.val.lane).isSome = true

/-- The in-doubt list is read in order: damaged entries go, PROVISIONAL ones turn OPEN, OPEN ones stay (R115, R116, R195). -/
theorem convertEntries_booked {s t : State} {rs : List JournalRecord} {held : PerLane (Option AdmissionClass)} {ps es : List (Stored DoubtEntry)}
    (h : Booked s t rs held (ps ++ es)) (hes : Convertible held ps es) (hroom : s.journal.held + rs.length + es.length + 4 < 2049) :
    Booked s (t.convertEntries es) (rs ++ (converted (s.withRecords rs).journal.nextSequence es).2) (consumed held es)
      (ps ++ (converted (s.withRecords rs).journal.nextSequence es).1) := by
  induction es generalizing t rs held ps with
  | nil =>
    rw [converted, List.append_nil, List.append_nil]
    rwa [List.append_nil] at h
  | cons e es ih =>
    obtain ⟨hserials, hlanes, hheld⟩ := hes
    obtain ⟨-, hheldRest⟩ := List.forall_mem_cons.mp hheld
    rw [List.length_cons] at hroom
    have hread := h.noteRead .lists e.bits
    unfold State.convertEntries
    dsimp only
    by_cases hdouble : e.bits = .double
    · have hunread : readableProvisional e = false := by rw [readableProvisional, hdouble]; rfl
      have hlost := (hread.setDoubt (ps ++ es)).mandatory (by omega)
        { JournalRecord.blank .resolvedUnknown none with detail := some (.named .memoryError) }
      rw [if_pos hdouble, State.removeDoubt, hread.entries, eraseP_middle hserials, converted_double hdouble, consumed_cons_kept hunread,
        ← withRecords_next s rs { JournalRecord.blank .resolvedUnknown none with detail := some (.named .memoryError) }, List.append_cons]
      refine ih hlost ⟨?_, ?_, hheldRest⟩ (by rw [List.length_append, List.length_singleton]; omega)
      · rw [List.map_append, List.map_cons, List.nodup_middle, List.nodup_cons, ← List.map_append] at hserials
        exact hserials.2
      · rwa [List.filter_cons_of_neg (by rw [hunread]; exact Bool.false_ne_true)] at hlanes
    · rw [if_neg hdouble]
      have hserials' (item : Stored DoubtEntry) (hitem : item.val.serial = e.val.serial) :
          ((ps ++ [item] ++ es).map fun x => x.val.serial).Nodup := by
        rw [← List.append_cons, List.map_append, List.map_cons, hitem, ← List.map_cons (f := fun x : Stored DoubtEntry => x.val.serial),
          ← List.map_append]
        exact hserials
      by_cases hopened : e.val.opened = true
      · have hunread : readableProvisional e = false := by rw [readableProvisional, hopened, Bool.not_true, Bool.and_false]
        rw [if_pos hopened, converted_open hdouble hopened, consumed_cons_kept hunread, List.append_cons ps]
        refine ih (by rwa [List.append_cons] at hread) ⟨hserials' e rfl, ?_, hheldRest⟩ (by omega)
        rwa [List.filter_cons_of_neg (by rw [hunread]; exact Bool.false_ne_true)] at hlanes
      · have hprovisional : e.val.opened = false := Bool.eq_false_iff.mpr hopened
        have hreadable : readableProvisional e = true := by
          rw [readableProvisional, hprovisional, bne_iff_ne.mpr hdouble]
          rfl
        have hconverted := convertEntry_booked hread hserials hprovisional (hheld e List.mem_cons_self hreadable)
        rw [if_neg hopened, converted_provisional hdouble hprovisional, consumed_cons_taken hreadable,
          ← withRecords_next s rs (convertedRecord e.val), List.append_cons rs, List.append_cons ps]
        rw [List.filter_cons_of_pos hreadable, List.map_cons, List.nodup_cons] at hlanes
        rw [List.append_cons ps] at hconverted
        refine ih hconverted ⟨hserials' _ rfl, hlanes.2, fun x hx hxread => ?_⟩ (by rw [List.length_append, List.length_singleton]; omega)
        have hother : x.val.lane ≠ e.val.lane := fun heq => hlanes.1 (heq ▸ List.mem_map_of_mem (List.mem_filter.mpr ⟨hx, hxread⟩))
        rw [PerLane.get_set_other _ hother]
        exact hheldRest x hx hxread

/-! ### Reservations left over (R195) -/

/-- The reservations of the lanes named are consumed, each with its record. -/
theorem consumeLeftover_booked {s t : State} {rs : List JournalRecord} {held : PerLane (Option AdmissionClass)} {es : List (Stored DoubtEntry)}
    (h : Booked s t rs held es) {ls : List Lane} (hnodup : ls.Nodup) : Booked s (ls.foldl State.consumeLeftover t)
      (rs ++ (ls.filter fun l => (held.get l).isSome).map leftoverRecord) (ls.foldl (fun x l => x.set l none) held) es := by
  induction ls generalizing t rs held with
  | nil => rwa [List.filter_nil, List.map_nil, List.append_nil]
  | cons l ls ih =>
    obtain ⟨hl, hnodup⟩ := List.nodup_cons.mp hnodup
    have hrest : (ls.filter fun k => ((held.set l none).get k).isSome) = ls.filter fun k => (held.get k).isSome := by
      refine List.filter_congr fun k hk => ?_
      have hkl : k ≠ l := fun heq => hl (heq ▸ hk)
      rw [PerLane.get_set_other _ hkl]
    have hreservations : t.journal.reservations.get l = held.get l := by rw [h.journal_eq]
    rw [List.foldl_cons, List.foldl_cons]
    cases hheld : held.get l with
    | none =>
      have hsame : held.set l none = held := by rw [← hheld, PerLane.set_get_self]
      have hnone : ¬(held.get l).isSome = true := by rw [hheld]; exact Bool.false_ne_true
      have hskip : t.consumeLeftover l = t := by rw [State.consumeLeftover, hreservations, hheld]
      rw [List.filter_cons_of_neg (p := fun l => (held.get l).isSome) hnone, hsame, hskip]
      exact ih h hnodup
    | some c =>
      have hsome : (held.get l).isSome = true := by rw [hheld]; rfl
      have htake : t.consumeLeftover l = t.appendReserved l c (leftoverRecord l) := by rw [State.consumeLeftover, hreservations, hheld]; rfl
      rw [List.filter_cons_of_pos (p := fun l => (held.get l).isSome) hsome, List.map_cons, List.append_cons, ← hrest, htake]
      exact ih (h.reserved hsome c (leftoverRecord l)) hnodup

/-! ### Step 3 and step 4 -/

/-- The records that step 3 appends (R195). -/
def State.conversionRecords (s : State) : List JournalRecord :=
  (converted s.journal.nextSequence s.doubt.entries).2 ++ s.leftover.map leftoverRecord

/-- Step 3 of start-up: the records of R195 are appended, every reservation is consumed, no mark is left. -/
theorem convertProvisional_books {s : State} (hjournal : Disarmed s .journal) (hlists : Disarmed s .lists) (hmarked : DoubtMarked s)
    (hroom : s.journal.held + s.doubt.entries.length + 4 < 2048) : s.convertProvisional = { s with
        journal := { (s.withRecords s.conversionRecords).journal with reservations := .all none }
        doubt := ⟨(converted s.journal.nextSequence s.doubt.entries).1, .all none⟩
        events := s.convertProvisional.events
        ecc := s.convertProvisional.ecc }
      ∧ Disarmed s.convertProvisional .journal := by
  obtain ⟨hserials, hlanes, hheader⟩ := hmarked
  have hrebuilt : Booked s s.rebuildReservations [] (s.doubt.header.map fun k => k.map changeClass) ([] ++ s.doubt.entries) :=
    ⟨rfl, hjournal, hlists⟩
  have hget (l : Lane) : ((s.doubt.header.map fun k => k.map changeClass).get l).isSome = (s.doubt.header.get l).isSome := by
    rw [PerLane.get_map, Option.isSome_map]
  have hconverted := convertEntries_booked hrebuilt ⟨hserials, hlanes, fun x hx hread => by rw [hget]; exact hheader x hx hread⟩
    (by rw [List.length_nil]; omega)
  have hbooked := consumeLeftover_booked hconverted (ls := allLanes) (by decide)
  have hleftover : (allLanes.filter fun l => ((consumed (s.doubt.header.map fun k => k.map changeClass) s.doubt.entries).get l).isSome)
      = s.leftover := by
    refine List.filter_congr fun l _ => ?_
    rw [consumed_get]
    by_cases hany : (s.doubt.entries.any fun x => readableProvisional x && x.val.lane == l) = true
    · rw [if_pos hany, hany, Bool.not_true, Bool.and_false]
      rfl
    · rw [if_neg hany, hget, Bool.eq_false_iff.mpr hany, Bool.not_false, Bool.and_true]
  rw [hleftover] at hbooked
  refine ⟨?_, hbooked.journal⟩
  have hframe := congrArg State.unmarked hbooked.frame
  exact hframe

/-- A bank that is due at start-up (R91, R93). -/
abbrev BankDue (s : State) : Prop :=
  s.tariff.pending = .switching ∨ (s.tariff.pending = .scheduled ∧ ∃ t, s.tariff.effective = some t ∧ t ≤ s.clock.time)

theorem switchDue_iff (s : State) : s.switchDue = true
    ↔ s.tariff.pending = .scheduled ∧ ∃ t, s.tariff.effective = some t ∧ t ≤ s.clock.time := by
  unfold State.switchDue
  rw [Bool.and_eq_true, beq_iff_eq, Option.any_eq_true]
  simp only [decide_eq_true_iff]

theorem bankDue_iff (s : State) : (s.tariff.pending = .switching ∨ s.switchDue = true) ↔ BankDue s := or_congr_right (switchDue_iff s)

/-- A switchover that finds a place for its record (R93). -/
theorem completeSwitch_unseen {s : State} (harmed : Disarmed s .journal) (hroom : s.journal.taken < 2048) :
    s.completeSwitch = { s.withRecord s.tariff.switchRecord with tariff := s.switched.tariff, events := s.completeSwitch.events } := by
  have happend := appendMandatory_unseen (s := { s with tariff := s.switched.tariff }) harmed hroom s.tariff.switchRecord
  have hframe := congrArg (fun x : State => { x with events := s.completeSwitch.events }) happend
  exact hframe

theorem converted_length (es : List (Stored DoubtEntry)) (next : Nat) : (converted next es).2.length ≤ es.length := by
  induction es generalizing next with
  | nil => exact le_rfl
  | cons e es ih =>
    have hrest := ih next
    have hnext := ih (seqForward next 1)
    unfold converted
    dsimp only
    (repeat' split) <;> simp only [List.length_cons] <;> omega

theorem conversionRecords_length (s : State) : s.conversionRecords.length ≤ s.doubt.entries.length + 4 := by
  have hconverted := converted_length s.doubt.entries s.journal.nextSequence
  have hleftover : s.leftover.length ≤ allLanes.length := List.length_filter_le _ _
  have hlanes : allLanes.length = 4 := rfl
  rw [State.conversionRecords, List.length_append, List.length_map]
  omega

/-- Steps 3 and 4 of start-up on retained content (R93, R195). -/
theorem switchAtStart_books {s : State} (hjournal : Disarmed s .journal) (hlists : Disarmed s .lists) (hmarked : DoubtMarked s)
    (hroom : s.journal.held + s.doubt.entries.length + 5 < 2048) :
    let due := s.tariff.pending = .switching ∨ s.switchDue = true
    s.convertProvisional.switchAtStart = { s with
      journal := { (s.withRecords (s.conversionRecords ++ if due then [s.tariff.switchRecord] else [])).journal with reservations := .all none }
      doubt := ⟨(converted s.journal.nextSequence s.doubt.entries).1, .all none⟩
      tariff := if due then s.switched.tariff else s.tariff
      events := s.convertProvisional.switchAtStart.events
      ecc := s.convertProvisional.switchAtStart.ecc } := by
  intro due
  obtain ⟨hframe, harmed⟩ := convertProvisional_books hjournal hlists hmarked (by omega)
  have htariff : s.convertProvisional.tariff = s.tariff := by rw [hframe]
  have hclock : s.convertProvisional.clock = s.clock := by rw [hframe]
  have hdue : (s.convertProvisional.tariff.pending = .switching ∨ s.convertProvisional.switchDue = true) ↔ due := by
    rw [State.switchDue, htariff, hclock]
    rfl
  by_cases h : due
  · have htaken : s.convertProvisional.journal.taken < 2048 := by
      have hjournal : s.convertProvisional.journal = { (s.withRecords s.conversionRecords).journal with reservations := .all none } := by
        rw [hframe]
      have hheld : s.convertProvisional.journal.held = s.journal.held + s.conversionRecords.length := by
        rw [hjournal, ← withRecords_held]
        rfl
      have hnone : s.convertProvisional.journal.outstanding = 0 := by
        rw [hjournal]
        rfl
      have hlength := conversionRecords_length s
      rw [Journal.taken, hheld, hnone]
      omega
    have hswitch : s.convertProvisional.switchAtStart = s.convertProvisional.completeSwitch := if_pos (hdue.mpr h)
    have hunseen := completeSwitch_unseen harmed htaken
    have hecc : s.convertProvisional.completeSwitch.ecc = s.convertProvisional.ecc := by
      rw [hunseen]
      rfl
    rw [hswitch, if_pos h, if_pos h, withRecords_concat, hecc]
    refine hunseen.trans ?_
    have hcongr := congrArg (fun x : State => { x.withRecord x.tariff.switchRecord with
      tariff := x.switched.tariff
      events := s.convertProvisional.completeSwitch.events }) hframe
    exact hcongr
  · have hstays : s.convertProvisional.switchAtStart = s.convertProvisional := if_neg (mt hdue.mp h)
    rw [hstays, if_neg h, if_neg h, List.append_nil]
    exact hframe

/-- The part with its retained content cleared (R194). -/
def State.cleanSlate (s : State) : State := { s.clearRetained with retention := Retention.written, journal := Journal.cleared }

theorem cleanSlate_gate (s : State) (l : Lane) : s.cleanSlate.gate l = (s.gate l).unconfigured :=
  congrArg LaneUnit.gate (PerLane.get_map _ _ l)

theorem cleanSlate_tap (s : State) (l : Lane) : s.cleanSlate.tap l = s.tap l := by
  simp [State.cleanSlate, State.clearRetained, State.tap, State.lane]

theorem switchAtStart_empty {s : State} (h : s.tariff.pending = .empty) : s.switchAtStart = s := by
  have hdue : s.switchDue = false := by rw [State.switchDue, h]; rfl
  rw [State.switchAtStart, h, hdue]
  exact if_neg (by decide)

/-- Steps 2 to 4 of start-up on lost content: there is nothing to convert and no bank that is due. -/
theorem startUp_lost {s : State} (h : s.retention.passes = false) : s.startUp = s.cleanSlate.bringUpLanes.finishStartUp .tablesLost := by
  have hcheck : s.retentionCheck = (.tablesLost, { s.clearRetained with retention := Retention.written }) := by
    rw [State.retentionCheck, h]
    rfl
  have hconverted : State.convertProvisional { s.clearRetained with retention := Retention.written } = s.cleanSlate := rfl
  rw [State.startUp, hcheck]
  dsimp only
  rw [hconverted, switchAtStart_empty rfl]

/-- Steps 2 to 4 of start-up on retained content. -/
theorem startUp_retained {s : State} (h : s.retention.passes = true) :
    s.startUp = s.convertProvisional.switchAtStart.bringUpLanes.finishStartUp .retained := by
  have hcheck : s.retentionCheck = (.retained, s) := if_pos h
  rw [State.startUp, hcheck]

/-! ### Steps 5 and 6 (R196, R197) -/

/-- What start-up ends in, whatever its content. -/
structure StartedUp (v u : State) (r : RetentionResult) : Prop where
  frame : u = { v with
    phase := .running
    report := some (v.cause, r)
    emergency := ⟨v.emergency.high, v.emergency.high, none⟩
    events := ⟨1#29 <<< 28, ~~~((1#29 <<< 25) ||| (1#29 <<< 27))⟩
    lanes := u.lanes
    ecc := u.ecc }
  up : ∀ l, LaneUp v u l

/-- RESET_DONE alone is pending (R188, R197). -/
theorem finished_events : (⟨Events.cleared.pending ||| (1#29 <<< eventBit .resetDone), Events.cleared.enabled⟩ : Events)
    = ⟨1#29 <<< 28, ~~~((1#29 <<< 25) ||| (1#29 <<< 27))⟩ := by decide

theorem finishStartUp_eq (s : State) (r : RetentionResult) : s.finishStartUp r = { s with
    phase := .running
    report := some (s.cause, r)
    events := ⟨1#29 <<< 28, ~~~((1#29 <<< 25) ||| (1#29 <<< 27))⟩ } :=
  congrArg (fun e : Events => { s with phase := .running, report := some (s.cause, r), events := e }) finished_events

theorem finishStartUp_lane (s : State) (r : RetentionResult) (l : Lane) : (s.finishStartUp r).lane l = s.lane l := rfl

theorem finishStartUp_up {v : State} (hempty : ∀ l, (v.gate l).credits = [] ∧ (v.gate l).passages = []) (r : RetentionResult) :
    StartedUp v (v.bringUpLanes.finishStartUp r) r := by
  obtain ⟨hframe, hup⟩ := bringUpLanes_up hempty
  generalize v.bringUpLanes = w at hframe hup
  refine ⟨?_, fun l => ⟨(hup l).up.congr rfl rfl rfl rfl rfl (finishStartUp_lane w r l), ?_, ?_⟩⟩
  · rw [finishStartUp_eq]
    exact congrArg (fun x : State => { x with
      phase := .running
      report := some (x.cause, r)
      events := ⟨1#29 <<< 28, ~~~((1#29 <<< 25) ||| (1#29 <<< 27))⟩ }) hframe
  · rw [finishStartUp_gate]
    exact (hup l).config
  · rw [finishStartUp_gate]
    exact (hup l).configured

/-- The part in service, as the state before step 5 and the inputs of the lanes give it (R188, R196, R197). -/
theorem StartedUp.ended {s v u : State} {r : RetentionResult} (h : StartedUp v u r) (hemergency : v.emergency = s.emergency)
    (hcause : v.cause = s.cause) (hlink : v.link = s.link) (hpending : v.pending = s.pending)
    (hgate : ∀ l, (v.gate l).beams = (s.gate l).beams ∧ (v.gate l).openLimit = (s.gate l).openLimit
      ∧ (v.gate l).closedLimit = (s.gate l).closedLimit) (htap : ∀ l, v.tap l = s.tap l) :
    u.phase = .running ∧ u.report = some (s.cause, r) ∧ u.events = ⟨1#29 <<< 28, ~~~((1#29 <<< 25) ||| (1#29 <<< 27))⟩
      ∧ u.emergency = ⟨s.emergency.high, s.emergency.high, none⟩ ∧ u.link = s.link ∧ u.pending = s.pending ∧ ∀ l, BroughtUp s u l := by
  refine ⟨by rw [h.frame], by rw [h.frame, hcause], by rw [h.frame], by rw [h.frame, hemergency], by rw [h.frame, hlink],
    by rw [h.frame, hpending], fun l => ?_⟩
  obtain ⟨hbeams, hopen, hclosed⟩ := hgate l
  exact (h.up l).up.congr hbeams.symm hopen.symm hclosed.symm (htap l).symm (by rw [hemergency]) rfl

theorem passes_iff (s : State) : s.retention.passes = true ↔ Retained s := by
  have hintact (x : Stored Bool) : intact x = true ↔ x.val = true ∧ x.bits ≠ .double := by
    rw [intact, Bool.and_eq_true, bne_iff_ne]
  unfold Retention.passes Retained
  simp only [Bool.and_eq_true, hintact, List.forall_mem_cons, List.not_mem_nil, false_implies, implies_true, and_true, and_assoc]

/-- Settles O56: cleared content, or retained content with its in-doubt list converted and a bank that is due switched; then the lanes. -/
theorem startUpBringsThePartIntoService : Obligations.StartUpBringsThePartIntoService := by
  intro s hstart hfallen ended
  have hexec : exec .settleIntervalExpiry s = .next s.startUp := by
    show Host.Outcome.next (if s.phase = .startUp then s.startUp else s) = _
    rw [if_pos hstart]
  refine ⟨fun hlost => ?_, fun hretained hjournal hlists hmarked hroom => ?_, fun t ht => congrArg _ (if_neg ht)⟩
  · have hstarted : StartedUp s.cleanSlate s.startUp .tablesLost := by
      rw [startUp_lost (Bool.eq_false_iff.mpr (mt (passes_iff s).mp hlost))]
      refine finishStartUp_up (fun l => ?_) .tablesLost
      obtain ⟨hcredits, hpassages, -⟩ := hfallen l
      rw [cleanSlate_gate]
      exact ⟨hcredits, hpassages⟩
    generalize s.startUp = u at hexec hstarted
    have hframe := hstarted.frame
    have hended := hstarted.ended (s := s) rfl rfl rfl rfl (fun l => by rw [cleanSlate_gate]; exact ⟨rfl, rfl, rfl⟩) (cleanSlate_tap s)
    refine ⟨u, hexec, hended, by rw [hframe]; rfl, by rw [hframe]; rfl, by rw [hframe]; rfl, by rw [hframe]; rfl, by rw [hframe]; rfl,
      by rw [hframe]; rfl, by rw [hframe]; rfl, ?_, fun l => ?_⟩
    · rw [← passes_iff, hframe]
      rfl
    · rw [(hstarted.up l).config, (hstarted.up l).configured, cleanSlate_gate]
      exact ⟨rfl, rfl⟩
  · intro due done records
    have hbefore := switchAtStart_books hjournal hlists hmarked hroom
    have hafter := startUp_retained ((passes_iff s).mpr hretained)
    dsimp only at hbefore
    rw [if_congr (bankDue_iff s) rfl rfl, if_congr (bankDue_iff s) rfl rfl] at hbefore
    generalize s.convertProvisional.switchAtStart = v at hbefore hafter
    have hlanes : v.lanes = s.lanes := by rw [hbefore]
    have hlane (l : Lane) : v.lane l = s.lane l := congrArg (fun x => PerLane.get x l) hlanes
    have hgate (l : Lane) : v.gate l = s.gate l := congrArg LaneUnit.gate (hlane l)
    have hstarted : StartedUp v s.startUp .retained := by
      rw [hafter]
      refine finishStartUp_up (fun l => ?_) .retained
      obtain ⟨hcredits, hpassages, -⟩ := hfallen l
      rw [hgate]
      exact ⟨hcredits, hpassages⟩
    generalize s.startUp = u at hexec hstarted
    have hframe := hstarted.frame
    have hended := hstarted.ended (s := s) (by rw [hbefore]) (by rw [hbefore]) (by rw [hbefore]) (by rw [hbefore])
      (fun l => by rw [hgate]; exact ⟨rfl, rfl, rfl⟩) (fun l => congrArg LaneUnit.tap (hlane l))
    refine ⟨u, hexec, hended, by rw [hframe, hbefore], by rw [hframe, hbefore], by rw [hframe, hbefore], by rw [hframe, hbefore],
      by rw [hframe, hbefore], by rw [hframe, hbefore], by rw [hframe, hbefore], by rw [hframe, hbefore]; rfl, fun l => ?_⟩
    rw [(hstarted.up l).config, (hstarted.up l).configured, hgate]
    exact ⟨rfl, rfl⟩

end Sys2Proof.Machine

end
